-- ==== Sys2Proof/Word.lean ====
section
/-! DEFINITION. The plain word types of the Erbolt WA24: a character's data byte, a tick value, and the numbers of
lines, segments, members and order slots (00_scope.md, Capacities). -/

namespace Sys2Proof

/-- The eight data bits of a character on the host line (R161). -/
abbrev Byte := BitVec 8

/-- A tick value: it wraps at 2^32 (R89). -/
abbrev Tick := BitVec 32

/-- A sense line, SL0–SL31. -/
abbrev LineNo := Fin 32

/-- A segment, 0–23. -/
abbrev SegNo := Fin 24

/-- A member, 0–191. -/
abbrev MemberNo := Fin 192

/-- A slot of the order pool, 0–47. -/
abbrev SlotNo := Fin 48

end Sys2Proof
end

