-- ==== Sys2Proof/Machine/Bytes.lean ====
section
/-! DEFINITION. Byte order, the sizes of reply figures (11 section 11.6), the CRC-16 of frames (R164), and the bits of a
character on the line (R161). -/

namespace Sys2Proof.Machine

/-- The low `8 * n` bits of `x` as `n` bytes, most significant first (00_scope.md, Conventions). -/
def be : Nat → Nat → List Byte
  | 0, _ => []
  | n + 1, x => BitVec.ofNat 8 (x / 256 ^ n) :: be n x

/-- The number a list of bytes spells, most significant first. -/
def ofBytes (bs : List Byte) : Nat := bs.foldl (fun a b => a * 256 + b.toNat) 0

/-- The number in the `n` bytes of `p` from offset `off`. -/
def fieldAt (p : List Byte) (off n : Nat) : Nat := ofBytes ((p.drop off).take n)

/-- A yes/no or set/clear figure: one byte (11 section 11.6). -/
def flagByte (b : Bool) : Byte := if b then 1 else 0

/-- An optional one-byte figure whose range leaves 0xFF unused (11 section 11.6). -/
def optByte (o : Option Nat) : Byte := match o with
  | none => 0xFF
  | some x => BitVec.ofNat 8 x

/-- Any other optional figure: a presence byte, then its `n` bytes, 0 when absent (11 section 11.6). -/
def optFigure (n : Nat) (o : Option Nat) : List Byte := match o with
  | none => 0 :: be n 0
  | some x => 1 :: be n x

/-- An optional one-byte field of a request: 0xFF is absent (11 section 11.6). -/
def ofOptByte (b : Byte) : Option Nat := if b = 0xFF then none else some b.toNat

/-- One bit shifted out of the CRC register, polynomial x^16 + x^12 + x^5 + 1 (R164). -/
def crcBit (r : BitVec 16) : BitVec 16 := if r.msb then (r <<< 1) ^^^ 0x1021#16 else r <<< 1

/-- One character shifted into the CRC register, most significant bit first (R164). -/
def crcByte (r : BitVec 16) (b : Byte) : BitVec 16 :=
  crcBit (crcBit (crcBit (crcBit (crcBit (crcBit (crcBit (crcBit (r ^^^ (b.setWidth 16 <<< 8)))))))))

/-- The CRC-16 of a run of characters: it starts at all ones and is not inverted (R164). -/
def crc16 (bs : List Byte) : BitVec 16 := bs.foldl crcByte 0xFFFF#16

/-- The CRC's two characters, high byte first (10 section 10.2). -/
def crcBytes (bs : List Byte) : List Byte := be 2 (crc16 bs).toNat

/-- A character on the line, bit 0 first: the start bit, low; the eight data bits, least significant first; the mark bit; and
the stop bit, high in every character sent (R161). -/
def lineBits (data : Byte) (mark stop : Bool) : BitVec 11 := BitVec.ofBool stop ++ BitVec.ofBool mark ++ data ++ 0#1

/-- No start bit: the line stands high, as it idles (R161). -/
def lineIdles (line : BitVec 11) : Bool := line.getLsbD 0

/-- The data byte of a character on the line (R161). -/
def lineData (line : BitVec 11) : Byte := line.extractLsb' 1 8

/-- The mark bit of a character on the line (R161). -/
def lineMark (line : BitVec 11) : Bool := line.getLsbD 9

/-- The stop bit of a character on the line (R161). -/
def lineStop (line : BitVec 11) : Bool := line.getLsbD 10

/-- `x + y`, stopping at `top` (00_scope.md, Conventions: saturating). -/
def satAdd (top x y : Nat) : Nat := min (x + y) top

/-- A 16-bit saturating counter increased by 1 (R21, R62, R167). -/
def bump16 (x : Nat) : Nat := satAdd 65535 x 1

/-- A quotient rounded up (00_scope.md, Conventions). -/
def ceilDiv (x y : Nat) : Nat := (x + y - 1) / y

end Sys2Proof.Machine
end

