-- ==== Sys2Proof/Config.lean ====
section
/-! DEFINITION. What is fixed for every WA24: its capacities (00_scope.md, Capacities), the figures of IDENT (R176) and the
tops of its saturating ranges. The part has no implementation choice beyond these, and the spec leaves no result value
undefined, so there is no opaque free value here. -/

namespace Sys2Proof.Config

/-- The item pool's entries (R40). -/
def itemPool : Nat := 384
/-- The entries an arrival list may hold (R41). -/
def arrivalCapacity : Nat := 32
/-- The entries a transit list may hold (R41). -/
def transitCapacity : Nat := 64
/-- The orders the pool may hold (R106). -/
def orderCapacity : Nat := 48
/-- The windows the list may hold (R124). -/
def windowCapacity : Nat := 8
/-- The templates the pattern may hold (R132). -/
def templateCapacity : Nat := 16
/-- The records the notice queue may hold (R153). -/
def noticeCapacity : Nat := 32
/-- IDENT's part code (R176). -/
def partCode : Nat := 0xE024
/-- IDENT's revision (R176). -/
def revision : Nat := 0x01

/-- The top of an 8-bit saturating count. -/
def max8 : Nat := 255
/-- The top of a 16-bit saturating counter (R21, R62, R167). -/
def max16 : Nat := 65535
/-- The top of `deferred` (R86). -/
def max24 : Nat := 16777215
/-- The top of a 32-bit figure; also the last epoch number (R90). -/
def max32 : Nat := 4294967295
/-- The top of a member's wear (R64). -/
def max40 : Nat := 1099511627775

/-- Ticks of one minute of epoch length (R91). -/
def ticksPerMinute : Nat := 60000
/-- Ticks of one second of grace (R94). -/
def ticksPerSecond : Nat := 1000

end Sys2Proof.Config
end

