-- ==== Sys2Proof/Syntax.lean ====
section
/-! DEFINITION. The commands of the WA24: one constructor of `Instr` for each row of spec/opcode_table.json. A request's
operands are the fields of its payload, in the sizes of 11 section 11.6, not yet checked: out-of-range values are the
request's own BAD_VALUE. -/

namespace Sys2Proof

/-- How a request was sent: to this station, or to all (address byte 0), which gets no reply (R169). -/
inductive Delivery where
  | addressed
  | broadcast
deriving DecidableEq, Repr

/-- When the start bit of a character fell: while the receiver heard the line, or in the blanked span of a reply (R165). -/
inductive StartBit where
  | heard
  | blanked
deriving DecidableEq, Repr

/-- What a character carries: its eight data bits and its mark bit (R161). -/
structure Character where
  data : Byte
  mark : Bool
deriving DecidableEq, Repr

/-- The segment definition record as the line carries it (11 section 11.6); in the optional one-byte fields 0xFF is
absent. -/
structure SegmentRecord where
  driveLine : Byte
  idlerLine : Byte
  entryGate : Byte
  exitGate : Byte
  runLine : Byte
  straight : Byte
  divert : Byte
  driveCal : BitVec 16
  idlerCal : BitVec 16
  windowSize : BitVec 16
  nominal : BitVec 16
  maxDeviation : BitVec 16
  deadband : BitVec 16
  step : Byte
  acquireAttempts : Byte
  lossLimit : Byte
  slipThreshold : BitVec 16
  slipRunCount : Byte
  length : BitVec 16
  fallbackLoad : BitVec 16
  unannouncedMass : BitVec 16
  resyncThreshold : Byte
deriving DecidableEq, Repr

/-- A template of the window pattern as the line carries it (11 section 11.6). -/
structure TemplateRecord where
  offset : BitVec 16
  length : Byte
  capacity : BitVec 16
  mask : BitVec 24
deriving DecidableEq, Repr

/-- The six settings of EPOCH_SET as the line carries them, in the order of R96. -/
structure EpochRecord where
  length : Byte
  shift : Byte
  minWindows : Byte
  checkpoint : BitVec 32
  source : Byte
  grace : Byte
deriving DecidableEq, Repr

/-- The fields of MEMBER_DEFINE after the member number (R65); segment 0xFF is absent. -/
structure MemberRecord where
  kind : Byte
  segment : Byte
  wear : BitVec 40
  limit : BitVec 40
  warn : BitVec 16
  kLoad : Byte
  kSlip : Byte
  minutes : BitVec 16
  rate : BitVec 32
deriving DecidableEq, Repr

/-- The seven optional fields of MEMBER_ADJUST (R85). -/
structure AdjustRecord where
  wear : Option (BitVec 40)
  limit : Option (BitVec 40)
  warn : Option (BitVec 16)
  kLoad : Option Byte
  kSlip : Option Byte
  minutes : Option (BitVec 16)
  rate : Option (BitVec 32)
deriving DecidableEq, Repr

/-- The requests of the table of kind codes (11 section 11.6). -/
inductive ReqKind where
  | ident | status | mode | restart | linkSet | counters
  | epochSet | epochMark
  | lineSet | lineStatus | segmentSet | segmentRead | segmentRearm
  | itemAnnounce
  | memberDefine | memberRead | memberHold | memberAdjust | memberRelease | memberRetire | serviceDone
  | planSet | planRun | windowAdd | windowRemove | windowRead | patternLoad | patternControl
  | orderRead | orderList | orderRaise | orderStart | orderCancel
  | noticeTake | noticeMask
deriving DecidableEq, Repr

/-- A good frame as the LNK hands it over: its address byte, kind and payload (10 section 10.2). -/
structure Frame where
  address : Byte
  kind : Byte
  payload : List Byte
deriving DecidableEq, Repr

/-- The commands, in the order of spec/opcode_table.json. The docstring of each names its row and rule. -/
inductive Instr where
  /-- COLD_RESET (R175), with the strap value on ADR0–ADR4. -/
  | coldReset (straps : BitVec 5)
  /-- ACCEPTED_TRANSITION (R2): the line's filter accepts the level it did not show. -/
  | acceptedTransition (line : LineNo)
  /-- SEGMENT_TIMER_EXPIRY (R19). -/
  | segmentTimerExpiry (segment : SegNo)
  /-- LOCAL_BOUNDARY (R91). -/
  | localBoundary
  /-- GRACE_DEADLINE (R94). -/
  | graceDeadline
  /-- RATE_PASS_VISIT (R100). -/
  | ratePassVisit
  /-- PROJECTIONS_REFRESHED (R105). -/
  | projectionsRefreshed
  /-- PLAN_MEMBER_WALK (R144). -/
  | planMemberWalk
  /-- PLACEMENT_RESET (R145). -/
  | placementReset
  /-- PLAN_SORT (R146). -/
  | planSort
  /-- ORDER_PLACEMENT (R147). -/
  | orderPlacement
  /-- GANGING (R149). -/
  | ganging
  /-- PLAN_DONE (R150). -/
  | planDone
  /-- CHARACTER_RECEIVED (R161, R162, R165): the eleven bits on the line, each as judged at its middle: when the start bit fell,
  the nine bits carried, and whether the stop bit is found high. -/
  | characterReceived (start : StartBit) (character : Character) (stop : Bool)
  /-- GAP_LIMIT_EXPIRY (R163). -/
  | gapLimitExpiry
  /-- REPLY_START (R165). -/
  | replyStart
  /-- REPLY_END (R165). -/
  | replyEnd
  /-- BLANKING_END (R165). -/
  | blankingEnd
  /-- UNKNOWN_KIND (R169): an addressed frame of this undefined kind code. -/
  | unknownKind (kind : Byte)
  /-- IDENT (R176). -/
  | ident
  /-- STATUS (R177). -/
  | status
  /-- MODE_SETUP (R170). -/
  | modeSetup (via : Delivery)
  /-- MODE_COUNTING (R171). -/
  | modeCounting (via : Delivery)
  /-- RESTART_TRACKING (R173). -/
  | restartTracking (via : Delivery)
  /-- RESTART_PLAN (R173). -/
  | restartPlan (via : Delivery)
  /-- RESTART_ALL (R174). -/
  | restartAll (via : Delivery)
  /-- LINK_SET (R166). -/
  | linkSet (divisor : Byte)
  /-- COUNTERS (R178). -/
  | counters
  /-- EPOCH_SET (R96). -/
  | epochSet (fields : EpochRecord)
  /-- EPOCH_MARK (R92), with the number of the epoch that begins. -/
  | epochMark (via : Delivery) (number : BitVec 32)
  /-- LINE_SET (R6). -/
  | lineSet (line role polarity filter : Byte)
  /-- LINE_STATUS (R5). -/
  | lineStatus
  /-- SEGMENT_SET without the undefine option (R9); `massGiven` is bit 1 of the option byte. -/
  | segmentSet (segment : Byte) (massGiven : Bool) (fields : SegmentRecord)
  /-- SEGMENT_UNDEFINE: SEGMENT_SET with the undefine option (R9). -/
  | segmentUndefine (segment : Byte)
  /-- SEGMENT_READ (R21). -/
  | segmentRead (segment : Byte) (clear : Bool)
  /-- SEGMENT_REARM (R37). -/
  | segmentRearm (segment : Byte)
  /-- ITEM_ANNOUNCE (R44); bit 0 of `route` is the front bit. -/
  | itemAnnounce (segment : Byte) (tag mass : BitVec 16) (routeLength : Byte) (route : BitVec 16)
  /-- MEMBER_DEFINE (R66). -/
  | memberDefine (member : Byte) (fields : MemberRecord)
  /-- MEMBER_READ (R78). -/
  | memberRead (member : Byte)
  /-- MEMBER_HOLD (R84). -/
  | memberHold (member : Byte)
  /-- MEMBER_ADJUST (R85). -/
  | memberAdjust (member : Byte) (fields : AdjustRecord)
  /-- MEMBER_RELEASE (R87). -/
  | memberRelease (member : Byte)
  /-- MEMBER_RETIRE (R67). -/
  | memberRetire (member : Byte)
  /-- SERVICE_DONE_REPLACED (R115). -/
  | serviceDoneReplaced (member : Byte) (newLimit : Option (BitVec 40))
  /-- SERVICE_DONE_INSPECTED (R116). -/
  | serviceDoneInspected (member : Byte) (newLimit : Option (BitVec 40))
  /-- PLAN_SET (R138). -/
  | planSet (autoPlan : Byte) (horizon gangHorizon : BitVec 16) (fillLevel : Byte)
  /-- PLAN_RUN (R139). -/
  | planRun
  /-- WINDOW_ADD (R126). -/
  | windowAdd (start : BitVec 32) (length : Byte) (capacity : BitVec 16) (mask : BitVec 24)
  /-- WINDOW_REMOVE (R127). -/
  | windowRemove (tag : Byte)
  /-- WINDOW_READ_LIST: WINDOW_READ with selector LIST (R128). -/
  | windowReadList
  /-- WINDOW_READ_PATTERN: WINDOW_READ with selector PATTERN (R128). -/
  | windowReadPattern
  /-- PATTERN_LOAD (R132). -/
  | patternLoad (count : Byte) (templates : List TemplateRecord)
  /-- PATTERN_CONTROL (R134). -/
  | patternControl (enable rotation : Byte) (anchor : BitVec 32) (reset : Byte)
  /-- ORDER_READ (R118). -/
  | orderRead (member : Byte)
  /-- ORDER_LIST (R119). -/
  | orderList (page : Byte)
  /-- ORDER_RAISE (R110). -/
  | orderRaise (member : Byte) (due : BitVec 32)
  /-- ORDER_START (R111). -/
  | orderStart (member : Byte)
  /-- ORDER_CANCEL (R112). -/
  | orderCancel (member : Byte)
  /-- NOTICE_TAKE (R157). -/
  | noticeTake
  /-- NOTICE_MASK (R158). -/
  | noticeMask (settings : Byte)
  /-- SAMPLE (R2), with the raw level of each line: bit i is SL i, 1 for high. -/
  | sample (raw : BitVec 32)
  /-- TICK (R89). -/
  | tick
deriving DecidableEq, Repr

end Sys2Proof
end

