-- ==== Sys2Proof/Decode.lean ====
section
/-! DEFINITION. The kind codes, the payload lengths and the payloads of requests (11 section 11.6): the decoding of a frame
that the RQD is handed (R169), and the frame that spells a request. The opcode table gives no row any bits. -/

namespace Sys2Proof

open Machine

/-- Every request, in the order of the table of kind codes. -/
def ReqKind.all : List ReqKind :=
  [.ident, .status, .mode, .restart, .linkSet, .counters, .epochSet, .epochMark,
   .lineSet, .lineStatus, .segmentSet, .segmentRead, .segmentRearm, .itemAnnounce,
   .memberDefine, .memberRead, .memberHold, .memberAdjust, .memberRelease, .memberRetire, .serviceDone,
   .planSet, .planRun, .windowAdd, .windowRemove, .windowRead, .patternLoad, .patternControl,
   .orderRead, .orderList, .orderRaise, .orderStart, .orderCancel, .noticeTake, .noticeMask]

/-- The kind code (11 section 11.6). -/
def ReqKind.code : ReqKind → Byte
  | .ident => 0x01 | .status => 0x02 | .mode => 0x03 | .restart => 0x04 | .linkSet => 0x05 | .counters => 0x06
  | .epochSet => 0x08 | .epochMark => 0x09
  | .lineSet => 0x10 | .lineStatus => 0x11 | .segmentSet => 0x12 | .segmentRead => 0x13 | .segmentRearm => 0x14
  | .itemAnnounce => 0x18
  | .memberDefine => 0x20 | .memberRead => 0x21 | .memberHold => 0x22 | .memberAdjust => 0x23
  | .memberRelease => 0x24 | .memberRetire => 0x25 | .serviceDone => 0x26
  | .planSet => 0x30 | .planRun => 0x31 | .windowAdd => 0x32 | .windowRemove => 0x33 | .windowRead => 0x34
  | .patternLoad => 0x35 | .patternControl => 0x36
  | .orderRead => 0x37 | .orderList => 0x38 | .orderRaise => 0x39 | .orderStart => 0x3A | .orderCancel => 0x3B
  | .noticeTake => 0x40 | .noticeMask => 0x41

/-- The request that a kind code names, if any (R169, step 1). -/
def ReqKind.ofCode (b : Byte) : Option ReqKind := ReqKind.all.find? (fun k => k.code = b)

/-- The requests taken by broadcast (11 section 11.6, R164 step 3). -/
def ReqKind.broadcastable : ReqKind → Bool
  | .epochMark | .mode | .restart => true
  | _ => false

/-- The payload length fixed for a kind; PATTERN_LOAD's follows the count it carries, and there is none for a count
outside 1–16 (R169, step 2). -/
def ReqKind.payloadLength (k : ReqKind) (payload : List Byte) : Option Nat :=
  match k with
  | .ident | .status | .counters | .lineStatus | .planRun | .noticeTake => some 0
  | .mode | .restart | .linkSet | .segmentRearm | .memberRead | .memberHold | .memberRelease | .memberRetire
  | .windowRemove | .windowRead | .orderRead | .orderList | .orderStart | .orderCancel | .noticeMask => some 1
  | .segmentRead => some 2
  | .epochMark | .lineSet => some 4
  | .orderRaise => some 5
  | .planSet => some 6
  | .patternControl => some 7
  | .itemAnnounce | .serviceDone => some 8
  | .epochSet => some 9
  | .windowAdd => some 10
  | .memberAdjust => some 22
  | .memberDefine => some 23
  | .segmentSet => some 34
  | .patternLoad =>
    let count := fieldAt payload 0 1
    if 1 ≤ count ∧ count ≤ 16 then some (1 + 8 * count) else none

/-- The bits of the `n` bytes of `p` from offset `off`. -/
def bitsAt (w : Nat) (p : List Byte) (off n : Nat) : BitVec w := BitVec.ofNat w (fieldAt p off n)

/-- The byte of `p` at offset `off`. -/
def byteAt (p : List Byte) (off : Nat) : Byte := bitsAt 8 p off 1

/-- The segment definition record from offset `off` (11 section 11.6). -/
def segmentRecordAt (p : List Byte) (off : Nat) : SegmentRecord :=
  { driveLine := byteAt p off, idlerLine := byteAt p (off + 1), entryGate := byteAt p (off + 2)
    exitGate := byteAt p (off + 3), runLine := byteAt p (off + 4), straight := byteAt p (off + 5)
    divert := byteAt p (off + 6), driveCal := bitsAt 16 p (off + 7) 2, idlerCal := bitsAt 16 p (off + 9) 2
    windowSize := bitsAt 16 p (off + 11) 2, nominal := bitsAt 16 p (off + 13) 2
    maxDeviation := bitsAt 16 p (off + 15) 2, deadband := bitsAt 16 p (off + 17) 2, step := byteAt p (off + 19)
    acquireAttempts := byteAt p (off + 20), lossLimit := byteAt p (off + 21)
    slipThreshold := bitsAt 16 p (off + 22) 2, slipRunCount := byteAt p (off + 24)
    length := bitsAt 16 p (off + 25) 2, fallbackLoad := bitsAt 16 p (off + 27) 2
    unannouncedMass := bitsAt 16 p (off + 29) 2, resyncThreshold := byteAt p (off + 31) }

/-- The template from offset `off` (11 section 11.6). -/
def templateAt (p : List Byte) (off : Nat) : TemplateRecord :=
  { offset := bitsAt 16 p off 2, length := byteAt p (off + 2), capacity := bitsAt 16 p (off + 3) 2
    mask := bitsAt 24 p (off + 5) 3 }

/-- An optional field, present when its bit of the presence byte is set (11 section 11.6). -/
def optionalAt (w : Nat) (present : Bool) (p : List Byte) (off n : Nat) : Option (BitVec w) :=
  if present then some (bitsAt w p off n) else none

/-- What the RQD makes of a frame before the request's own checks (R169). -/
inductive RqdTask where
  /-- The request's own checks and effect follow. -/
  | run (i : Instr)
  /-- Answered BAD_VALUE: the payload length, or the code that names which request of its kind this is (R169 step 2, R170,
  R173, R114, R128). -/
  | badValue
  /-- Answered UNKNOWN_KIND (R169, step 1). -/
  | unknown
deriving DecidableEq, Repr

/-- The request that a payload of the right length spells (11 section 11.6). -/
def decodePayload (k : ReqKind) (via : Delivery) (p : List Byte) : RqdTask :=
  match k with
  | .ident => .run .ident
  | .status => .run .status
  | .mode =>
    if byteAt p 0 = 0 then .run (.modeSetup via) else if byteAt p 0 = 1 then .run (.modeCounting via) else .badValue
  | .restart =>
    if byteAt p 0 = 1 then .run (.restartTracking via)
    else if byteAt p 0 = 2 then .run (.restartPlan via)
    else if byteAt p 0 = 3 then .run (.restartAll via) else .badValue
  | .linkSet => .run (.linkSet (byteAt p 0))
  | .counters => .run .counters
  | .epochSet => .run (.epochSet { length := byteAt p 0, shift := byteAt p 1, minWindows := byteAt p 2
                                   checkpoint := bitsAt 32 p 3 4, source := byteAt p 7, grace := byteAt p 8 })
  | .epochMark => .run (.epochMark via (bitsAt 32 p 0 4))
  | .lineSet => .run (.lineSet (byteAt p 0) (byteAt p 1) (byteAt p 2) (byteAt p 3))
  | .lineStatus => .run .lineStatus
  | .segmentSet =>
    if (byteAt p 1).getLsbD 0 then .run (.segmentUndefine (byteAt p 0))
    else .run (.segmentSet (byteAt p 0) ((byteAt p 1).getLsbD 1) (segmentRecordAt p 2))
  | .segmentRead => .run (.segmentRead (byteAt p 0) (byteAt p 1 ≠ 0))
  | .segmentRearm => .run (.segmentRearm (byteAt p 0))
  | .itemAnnounce =>
    .run (.itemAnnounce (byteAt p 0) (bitsAt 16 p 1 2) (bitsAt 16 p 3 2) (byteAt p 5) (bitsAt 16 p 6 2))
  | .memberDefine =>
    .run (.memberDefine (byteAt p 0)
      { kind := byteAt p 1, segment := byteAt p 2, wear := bitsAt 40 p 3 5, limit := bitsAt 40 p 8 5
        warn := bitsAt 16 p 13 2, kLoad := byteAt p 15, kSlip := byteAt p 16, minutes := bitsAt 16 p 17 2
        rate := bitsAt 32 p 19 4 })
  | .memberRead => .run (.memberRead (byteAt p 0))
  | .memberHold => .run (.memberHold (byteAt p 0))
  | .memberAdjust =>
    let presence := byteAt p 1
    .run (.memberAdjust (byteAt p 0)
      { wear := optionalAt 40 (presence.getLsbD 0) p 2 5, limit := optionalAt 40 (presence.getLsbD 1) p 7 5
        warn := optionalAt 16 (presence.getLsbD 2) p 12 2, kLoad := optionalAt 8 (presence.getLsbD 3) p 14 1
        kSlip := optionalAt 8 (presence.getLsbD 4) p 15 1, minutes := optionalAt 16 (presence.getLsbD 5) p 16 2
        rate := optionalAt 32 (presence.getLsbD 6) p 18 4 })
  | .memberRelease => .run (.memberRelease (byteAt p 0))
  | .memberRetire => .run (.memberRetire (byteAt p 0))
  | .serviceDone =>
    let limit := optionalAt 40 ((byteAt p 2).getLsbD 0) p 3 5
    if byteAt p 1 = 1 then .run (.serviceDoneReplaced (byteAt p 0) limit)
    else if byteAt p 1 = 2 then .run (.serviceDoneInspected (byteAt p 0) limit) else .badValue
  | .planSet => .run (.planSet (byteAt p 0) (bitsAt 16 p 1 2) (bitsAt 16 p 3 2) (byteAt p 5))
  | .planRun => .run .planRun
  | .windowAdd => .run (.windowAdd (bitsAt 32 p 0 4) (byteAt p 4) (bitsAt 16 p 5 2) (bitsAt 24 p 7 3))
  | .windowRemove => .run (.windowRemove (byteAt p 0))
  | .windowRead =>
    if byteAt p 0 = 0 then .run .windowReadList else if byteAt p 0 = 1 then .run .windowReadPattern else .badValue
  | .patternLoad =>
    .run (.patternLoad (byteAt p 0) ((List.range (byteAt p 0).toNat).map fun j => templateAt p (1 + 8 * j)))
  | .patternControl => .run (.patternControl (byteAt p 0) (byteAt p 1) (bitsAt 32 p 2 4) (byteAt p 6))
  | .orderRead => .run (.orderRead (byteAt p 0))
  | .orderList => .run (.orderList (byteAt p 0))
  | .orderRaise => .run (.orderRaise (byteAt p 0) (bitsAt 32 p 1 4))
  | .orderStart => .run (.orderStart (byteAt p 0))
  | .orderCancel => .run (.orderCancel (byteAt p 0))
  | .noticeTake => .run .noticeTake
  | .noticeMask => .run (.noticeMask (byteAt p 0))

/-- Address byte 0 is a broadcast (10 section 10.2). -/
def Frame.delivery (f : Frame) : Delivery := if f.address = 0 then .broadcast else .addressed

/-- The RQD's checks of a frame before the request's own: the kind code, then the payload length (R169). -/
def decodeFrame (f : Frame) : RqdTask :=
  match ReqKind.ofCode f.kind with
  | none => .unknown
  | some k => if k.payloadLength f.payload = some f.payload.length then decodePayload k f.delivery f.payload else .badValue

/-- A bit vector of `8 * n` bits as its bytes, most significant first. -/
def bytesOf {w : Nat} (n : Nat) (x : BitVec w) : List Byte := be n x.toNat

/-- The bytes of an optional field, zeros when absent (11 section 11.6: still sent, its bytes ignored). -/
def optionalBytes {w : Nat} (n : Nat) (o : Option (BitVec w)) : List Byte :=
  match o with
  | none => be n 0
  | some x => bytesOf n x

/-- The segment definition record's 32 bytes (11 section 11.6). -/
def SegmentRecord.bytes (r : SegmentRecord) : List Byte :=
  [r.driveLine, r.idlerLine, r.entryGate, r.exitGate, r.runLine, r.straight, r.divert]
    ++ bytesOf 2 r.driveCal ++ bytesOf 2 r.idlerCal ++ bytesOf 2 r.windowSize ++ bytesOf 2 r.nominal
    ++ bytesOf 2 r.maxDeviation ++ bytesOf 2 r.deadband ++ [r.step, r.acquireAttempts, r.lossLimit]
    ++ bytesOf 2 r.slipThreshold ++ [r.slipRunCount] ++ bytesOf 2 r.length ++ bytesOf 2 r.fallbackLoad
    ++ bytesOf 2 r.unannouncedMass ++ [r.resyncThreshold]

/-- The template's 8 bytes (11 section 11.6). -/
def TemplateRecord.bytes (t : TemplateRecord) : List Byte :=
  bytesOf 2 t.offset ++ [t.length] ++ bytesOf 2 t.capacity ++ bytesOf 3 t.mask

/-- The presence byte of MEMBER_ADJUST (11 section 11.6). -/
def AdjustRecord.presence (r : AdjustRecord) : Byte :=
  BitVec.ofNat 8 (r.wear.isSome.toNat + 2 * r.limit.isSome.toNat + 4 * r.warn.isSome.toNat + 8 * r.kLoad.isSome.toNat
    + 16 * r.kSlip.isSome.toNat + 32 * r.minutes.isSome.toNat + 64 * r.rate.isSome.toNat)

/-- The payload of a SERVICE_DONE. -/
def serviceDoneBytes (member outcome : Byte) (limit : Option (BitVec 40)) : List Byte :=
  [member, outcome, flagByte limit.isSome] ++ optionalBytes 5 limit

/-- The kind, the way it is sent and the payload that spell a request; none for a command that is no request, and for
UNKNOWN_KIND, whose kind is no request's. -/
def encodeRequest : Instr → Option (ReqKind × Delivery × List Byte)
  | .ident => some (.ident, .addressed, [])
  | .status => some (.status, .addressed, [])
  | .modeSetup via => some (.mode, via, [0])
  | .modeCounting via => some (.mode, via, [1])
  | .restartTracking via => some (.restart, via, [1])
  | .restartPlan via => some (.restart, via, [2])
  | .restartAll via => some (.restart, via, [3])
  | .linkSet n => some (.linkSet, .addressed, [n])
  | .counters => some (.counters, .addressed, [])
  | .epochSet r =>
    some (.epochSet, .addressed,
      [r.length, r.shift, r.minWindows] ++ bytesOf 4 r.checkpoint ++ [r.source, r.grace])
  | .epochMark via n => some (.epochMark, via, bytesOf 4 n)
  | .lineSet l r p f => some (.lineSet, .addressed, [l, r, p, f])
  | .lineStatus => some (.lineStatus, .addressed, [])
  | .segmentSet g m r => some (.segmentSet, .addressed, [g, if m then 2 else 0] ++ r.bytes)
  | .segmentUndefine g => some (.segmentSet, .addressed, [g, 1] ++ be 32 0)
  | .segmentRead g c => some (.segmentRead, .addressed, [g, flagByte c])
  | .segmentRearm g => some (.segmentRearm, .addressed, [g])
  | .itemAnnounce g tag mass len route =>
    some (.itemAnnounce, .addressed, [g] ++ bytesOf 2 tag ++ bytesOf 2 mass ++ [len] ++ bytesOf 2 route)
  | .memberDefine m r =>
    some (.memberDefine, .addressed,
      [m, r.kind, r.segment] ++ bytesOf 5 r.wear ++ bytesOf 5 r.limit ++ bytesOf 2 r.warn ++ [r.kLoad, r.kSlip]
        ++ bytesOf 2 r.minutes ++ bytesOf 4 r.rate)
  | .memberRead m => some (.memberRead, .addressed, [m])
  | .memberHold m => some (.memberHold, .addressed, [m])
  | .memberAdjust m r =>
    some (.memberAdjust, .addressed,
      [m, r.presence] ++ optionalBytes 5 r.wear ++ optionalBytes 5 r.limit ++ optionalBytes 2 r.warn
        ++ optionalBytes 1 r.kLoad ++ optionalBytes 1 r.kSlip ++ optionalBytes 2 r.minutes ++ optionalBytes 4 r.rate)
  | .memberRelease m => some (.memberRelease, .addressed, [m])
  | .memberRetire m => some (.memberRetire, .addressed, [m])
  | .serviceDoneReplaced m l => some (.serviceDone, .addressed, serviceDoneBytes m 1 l)
  | .serviceDoneInspected m l => some (.serviceDone, .addressed, serviceDoneBytes m 2 l)
  | .planSet a h g f => some (.planSet, .addressed, [a] ++ bytesOf 2 h ++ bytesOf 2 g ++ [f])
  | .planRun => some (.planRun, .addressed, [])
  | .windowAdd st l c m => some (.windowAdd, .addressed, bytesOf 4 st ++ [l] ++ bytesOf 2 c ++ bytesOf 3 m)
  | .windowRemove t => some (.windowRemove, .addressed, [t])
  | .windowReadList => some (.windowRead, .addressed, [0])
  | .windowReadPattern => some (.windowRead, .addressed, [1])
  | .patternLoad c ts => some (.patternLoad, .addressed, c :: ts.flatMap TemplateRecord.bytes)
  | .patternControl e r a x => some (.patternControl, .addressed, [e, r] ++ bytesOf 4 a ++ [x])
  | .orderRead m => some (.orderRead, .addressed, [m])
  | .orderList p => some (.orderList, .addressed, [p])
  | .orderRaise m d => some (.orderRaise, .addressed, [m] ++ bytesOf 4 d)
  | .orderStart m => some (.orderStart, .addressed, [m])
  | .orderCancel m => some (.orderCancel, .addressed, [m])
  | .noticeTake => some (.noticeTake, .addressed, [])
  | .noticeMask b => some (.noticeMask, .addressed, [b])
  | .coldReset _ | .acceptedTransition _ | .segmentTimerExpiry _ | .localBoundary | .graceDeadline | .ratePassVisit
  | .projectionsRefreshed | .planMemberWalk | .placementReset | .planSort | .orderPlacement | .ganging | .planDone
  | .characterReceived _ _ _ | .gapLimitExpiry | .replyStart | .replyEnd | .blankingEnd | .unknownKind _ | .sample _
  | .tick => none

/-- The frame that spells a request to the station of address `station` (10 section 10.2). -/
def encodeFrame (station : Byte) (i : Instr) : Option Frame :=
  (encodeRequest i).map fun (k, via, payload) =>
    { address := match via with
        | .addressed => station
        | .broadcast => 0
      kind := k.code, payload := payload }

/-- The characters of a frame on the line: address byte, L, kind, payload and CRC (10 section 10.2, R164). -/
def Frame.bytes (f : Frame) : List Byte :=
  let covered := BitVec.ofNat 8 (f.payload.length + 1) :: f.kind :: f.payload
  f.address :: covered ++ crcBytes covered

/-- The command that a word spells by the table's bits: the table gives no row any bits, so none. -/
def decodeTableWord (_nbits _w : Nat) : Option Instr := none

end Sys2Proof
end

