-- ==== Sys2Proof/Machine/State.lean ====
section
/-! DEFINITION. The state of the WA24, unit by unit as 00_scope.md's block overview lists them, and its value at reset
(R174, R175). Ranges stand in INVENTORY.md and in the docstrings; figures the spec counts are `Nat`, and `Safety.lean` says
that they stay in range. -/

namespace Sys2Proof.Machine

/-! ### SIU: sense lines (01 section 1.1) -/

/-- A line's role (R3). -/
inductive Role where
  | unused | pulse | gate | run
deriving DecidableEq, Repr

/-- A line's polarity (R2). -/
inductive Polarity where
  | activeHigh | activeLow
deriving DecidableEq, Repr

/-- A line's level after polarity (R2). -/
inductive Level where
  | active | inactive
deriving DecidableEq, Repr

/-- The configuration and filter records of one line. -/
structure Line where
  role : Role
  polarity : Polarity
  /-- The filter length f, 0–15. -/
  filter : Nat
  /-- The filtered level. -/
  level : Level
  /-- Consecutive samples that differ from the filtered level, 0–15. -/
  runCount : Nat
  /-- The change flag. -/
  changed : Bool
deriving DecidableEq, Repr

/-- The Sense Input Unit. -/
structure Siu where
  lines : Vector Line 32
  /-- The raw pin levels: bit i is SL i, 1 for high. -/
  pins : BitVec 32
  /-- Whether the first sample after the reset has been taken (R1). -/
  levelsTaken : Bool
deriving DecidableEq, Repr

/-! ### SMU: segments (01 section 1.2, 02) -/

/-- A segment definition (01 section 1.2). -/
structure SegDef where
  driveLine : LineNo
  idlerLine : Option LineNo
  entryGate : Option LineNo
  exitGate : Option LineNo
  runLine : Option LineNo
  straight : Option SegNo
  divert : Option SegNo
  /-- µm per drive pulse, 1–65535. -/
  driveCal : Nat
  /-- µm per idler pulse, 1–65535. -/
  idlerCal : Nat
  /-- W, 16–4096 drive pulses. -/
  windowSize : Nat
  /-- mm/s, 1–20000. -/
  nominal : Nat
  /-- mm/s, 0 to nominal − 1. -/
  maxDeviation : Nat
  /-- mm/s, 0–20000. -/
  deadband : Nat
  /-- mm/s, 1–255. -/
  step : Nat
  /-- 1–15. -/
  acquireAttempts : Nat
  /-- 1–255 reckoning intervals. -/
  lossLimit : Nat
  /-- ‰, 0–1000. -/
  slipThreshold : Nat
  /-- 1–15. -/
  slipRunCount : Nat
  /-- mm, 1–65535. -/
  length : Nat
  /-- kg, 0–1023. -/
  fallbackLoad : Nat
  /-- 10 g units, 0–65535. -/
  unannouncedMass : Nat
  /-- 1–15. -/
  resyncThreshold : Nat
deriving DecidableEq, Repr

/-- The open measurement window (R8). -/
structure MeasWindow where
  openTick : Tick
  /-- The drive count D, 0–4096. -/
  drive : Nat
  /-- The idler count I, 0–65535. -/
  idler : Nat
deriving DecidableEq, Repr

/-- The supervision state (R23). -/
inductive Supervision where
  | off | stopped | acquire | track | idlerLost | driveLost | failed
deriving DecidableEq, Repr

/-- A segment's runtime record in the SMU (R8, R21, R22, R23). -/
structure SegRun where
  window : Option MeasWindow
  timingRef : Tick
  /-- ms, 20–60000. -/
  timeout : Nat
  /-- The travel residue, 0–999 µm. -/
  residue : Nat
  /-- The slip figure, 0–1000 ‰. -/
  slip : Nat
  /-- The speed estimate V, mm/s. -/
  speed : Nat
  /-- 0–15. -/
  slipRun : Nat
  slipArmed : Bool
  speedArmed : Bool
  fullWindows : Nat
  partialWindows : Nat
  timeouts : Nat
  slipAlarms : Nat
  speedHits : Nat
  pulsesIgnored : Nat
  /-- The window count of the current epoch. -/
  windowCount : Nat
  closingCount : Nat
  supervision : Supervision
  /-- 0–15. -/
  attemptsLeft : Nat
  /-- 0–255. -/
  intervals : Nat
deriving DecidableEq, Repr

/-- A segment at the SMU: its definition, absent while undefined, and its runtime record. -/
structure Segment where
  defn : Option SegDef
  run : SegRun
deriving DecidableEq, Repr

/-- The Segment Measurement Unit. -/
structure Smu where
  segments : Vector Segment 24
deriving DecidableEq, Repr

/-! ### ITU: items (03) -/

/-- An item (03 section 3.1). -/
structure Item where
  tag : BitVec 16
  /-- 10 g units. -/
  mass : Nat
  /-- Branch bits still to be made, front first; true is divert. -/
  route : List Bool
  unknown : Bool
  /-- Travel on segment, mm, 0–65535. -/
  travel : Nat
deriving DecidableEq, Repr

/-- A segment's lists and tracking record in the ITU (R41, R42, R62). -/
structure Tracking where
  /-- Oldest first. -/
  arrival : List Item
  /-- Oldest first. -/
  transit : List Item
  /-- The RESYNC flag. -/
  resync : Bool
  /-- The tracking-error count. -/
  errors : Nat
  /-- kg. -/
  lastLoad : Nat
  unannounced : Nat
  phantom : Nat
  stale : Nat
  dropped : Nat
  delivered : Nat
  resyncs : Nat
deriving DecidableEq, Repr

/-- The Item Tracking Unit; the free list is held as its number of entries, since free entries cannot be told apart
(R40; DEDUCED, log 15). -/
structure Itu where
  free : Nat
  tracks : Vector Tracking 24
deriving DecidableEq, Repr

/-! ### WAU: members (04, 05) -/

/-- A member's kind. -/
inductive MemberKind where
  | belt | roller
deriving DecidableEq, Repr

/-- The state of a member that is not FREE, in the order of R81. -/
inductive WearState where
  | normal | warn | due
deriving DecidableEq, Repr

/-- The record of a member that is not FREE (04 section 4.1, R98). -/
structure Member where
  state : WearState
  held : Bool
  kind : MemberKind
  segment : Option SegNo
  /-- wu, 0 to 2^40−1. -/
  wear : Nat
  /-- 0 to 2^20−1. -/
  residue : Nat
  /-- wu, 1000 to 2^40−1. -/
  limit : Nat
  /-- Warn ‰, 500–999. -/
  warn : Nat
  /-- wu, limit × warn ‰ / 1000 (R63). -/
  warnLevel : Nat
  kLoad : Nat
  kSlip : Nat
  /-- Service minutes, 1–600. -/
  minutes : Nat
  /-- wu per epoch. -/
  rate : Nat
  projection : Option Nat
  epochWear : Nat
  closingWear : Option Nat
  deferred : Nat
  lostWear : Nat
  reckonedWear : Nat
  unsavedWear : Nat
  checkpointArmed : Bool
  overflowNoted : Bool
  fresh : Bool
  serviceCount : Nat
  installedEpoch : Nat
deriving DecidableEq, Repr

/-- A rate pass in flight: the next record it comes to (192 when it has come to the end), and the settings that the
boundary carried (R95, R100). -/
structure RatePass where
  next : Nat
  shift : Nat
  minWindows : Nat
deriving DecidableEq, Repr

/-- The Wear Accounting Unit; `none` is a FREE record (R63; DEDUCED, log 16). -/
structure Wau where
  members : Vector (Option Member) 192
  pass : Option RatePass
deriving DecidableEq, Repr

/-! ### ETM: epochs (05 section 5.2) -/

/-- Where boundaries come from. -/
inductive BoundarySource where
  | localClock | marked
deriving DecidableEq, Repr

/-- The six settings of EPOCH_SET (05 section 5.2). -/
structure EpochSettings where
  /-- Minutes, 1–240. -/
  length : Nat
  /-- 0–7. -/
  shift : Nat
  /-- 0–255. -/
  minWindows : Nat
  /-- wu; 0 is off. -/
  checkpoint : Nat
  source : BoundarySource
  /-- Seconds, 1–60. -/
  grace : Nat
deriving DecidableEq, Repr

/-- What one block has still to take of a boundary that its neighbour has taken (R95, R99): the SMU the window counts (R22),
or the WAU the snapshot and the rate pass, with the settings that the boundary carried (R98, R100). -/
inductive Untaken where
  | smu
  | wau (shift minWindows : Nat)
deriving DecidableEq, Repr

/-- The Epoch Timer, with the three settings that belong to the WAU beside the others. -/
structure Etm where
  tick : Tick
  epoch : Nat
  boundaryTick : Tick
  settings : EpochSettings
  marksIgnored : Nat
  markMismatches : Nat
  /-- The model's own record of a boundary handed on and not yet taken by one of the SMU and the WAU (log 33). -/
  untaken : Option Untaken
deriving DecidableEq, Repr

/-! ### SPL: orders, windows, pattern and planner (06, 07, 08) -/

/-- Why an order exists (R108). -/
inductive Reason where
  | projected | warn | limit | host
deriving DecidableEq, Repr

/-- Where an order stands (R109). -/
inductive OrderState where
  | proposed | scheduled | released | inWork
deriving DecidableEq, Repr

/-- A service order (06 section 6.2). -/
structure Order where
  member : MemberNo
  reason : Reason
  state : OrderState
  due : Nat
  tag : Option Nat
  minutes : Nat
  late : Bool
  ganged : Bool
  missed : Nat
  created : Nat
deriving DecidableEq, Repr

/-- Where a window came from. -/
inductive WindowSource where
  | host | pattern
deriving DecidableEq, Repr

/-- Whether a window has started. -/
inductive WindowState where
  | opened | active
deriving DecidableEq, Repr

/-- A maintenance window (07 section 7.1); bit s of the mask is segment s. -/
structure MaintWindow where
  tag : Nat
  start : Nat
  length : Nat
  capacity : Nat
  used : Nat
  mask : BitVec 24
  source : WindowSource
  state : WindowState
deriving DecidableEq, Repr

/-- A template of the window pattern (07 section 7.4). -/
structure Template where
  offset : Nat
  length : Nat
  capacity : Nat
  mask : BitVec 24
deriving DecidableEq, Repr

/-- The generator's state (R133). -/
inductive GenState where
  | idle | running | stopped
deriving DecidableEq, Repr

/-- The generator record (R133) and the stored templates; the template count is their number. -/
structure Generator where
  state : GenState
  rotation : Bool
  anchor : Nat
  index : Nat
  lastStart : Nat
  templates : List Template
deriving DecidableEq, Repr

/-- The stage of the planning run in flight (R143) and how far it has come; `idle` when none is in flight. -/
inductive Stage where
  | idle
  /-- The member walk comes next to record `next`. -/
  | walk (next : Nat)
  /-- The placement reset takes back SCHEDULED orders, and comes next to slot `next`. -/
  | takeBack (next : Nat)
  /-- It copies the minutes of PROPOSED orders, and comes next to slot `next`. -/
  | copyMinutes (next : Nat)
  | sort
  /-- Placement comes next to place `next` of the sort list. -/
  | placement (next : Nat)
  /-- Ganging comes next to place `next` of the sort list. -/
  | ganging (next : Nat)
  /-- Ganging has taken the BELT order at `place`, of segment `segment` and in the window of tag `tag`, and comes next to
  the roller order of member `next`. -/
  | gangRollers (place : Nat) (segment : SegNo) (tag : Nat) (next : Nat)
deriving DecidableEq, Repr

/-- The planner record (08 section 8.1); the planner state is RUNNING at every stage but `idle`. -/
structure Planner where
  stage : Stage
  rerun : Bool
  autoPlan : Bool
  horizon : Nat
  gangHorizon : Nat
  fillLevel : Nat
  runHorizon : Nat
  runGangHorizon : Nat
  sortList : List MemberNo
  placed : Nat
  late : Nat
  unplaced : Nat
  skipped : Nat
  /-- The members whose orders this run's placement stage left unplaced (R148, R149). -/
  leftUnplaced : List MemberNo
deriving DecidableEq, Repr

/-- The Service Planner. -/
structure Spl where
  orders : Vector (Option Order) 48
  windows : List MaintWindow
  lastTag : Nat
  generator : Generator
  planner : Planner
deriving DecidableEq, Repr

/-! ### NQ: notices (09) -/

/-- The classes of notice, in the order of their numbers (09 section 9.2). -/
inductive NoticeClass where
  | wear | plan | segment | tracking | system
deriving DecidableEq, Repr

/-- The 22 kinds of notice (09 section 9.2). -/
inductive NoticeKind where
  | memberWarn | memberDue | checkpoint | deferredOverflow
  | planDone | windowReleased | orderMissed | dueUnplaced | orderWithdrawn | patternWrap | patternEnd | windowSkipped
  | segLost | segFailed | segIdlerLost | segRecovered | speedLimit | slipAlarm
  | trackResync | trackOverflow
  | modeChanged | markMissed
deriving DecidableEq, Repr

/-- A notice record (09 section 9.1). -/
structure Notice where
  kind : NoticeKind
  subject : Nat
  firstEpoch : Nat
  firstTick : Tick
  value : Nat
  repeats : Nat
deriving DecidableEq, Repr

/-- The Notice Queue; bit i of the mask enables class number i (R153, R158). -/
structure Nq where
  /-- Oldest first. -/
  queue : List Notice
  mask : BitVec 5
  /-- 0–255. -/
  lost : Nat
  lostBit : Bool
deriving DecidableEq, Repr

/-! ### LNK: the station link (10) -/

/-- Reply statuses (R168). -/
inductive Status where
  | ok | accepted | deferred | busy | wrongMode | badValue | noRoom | noSuch | conflict | notHeld | unknownKind
deriving DecidableEq, Repr

/-- The attention summary (R159). -/
structure Attention where
  /-- Bit i is the class bit of class number i. -/
  classes : BitVec 5
  lost : Bool
  count : Nat
deriving DecidableEq, Repr

/-- A reply as the RQD builds it: the kind carried (the request's with 0x80 added), status, summary and data (R168). -/
structure Reply where
  kind : Byte
  status : Status
  attention : Attention
  data : List Byte
deriving DecidableEq, Repr

/-- The receiver's state (R162, R165). -/
inductive Receiver where
  | idle | receiving | blanked
deriving DecidableEq, Repr

/-- The reply state (R164, R165). -/
inductive ReplyState where
  | none | pending | sending
deriving DecidableEq, Repr

/-- The seven link counters (R167). -/
structure LinkCounters where
  good : Nat
  crc : Nat
  framing : Nat
  gap : Nat
  oversize : Nat
  collisions : Nat
  discards : Nat
deriving DecidableEq, Repr

/-- The Station Link. -/
structure Lnk where
  /-- ADR0–ADR4 as read at the last cold reset. -/
  straps : BitVec 5
  address : Byte
  divisor : Byte
  receiver : Receiver
  /-- The frame being assembled, address byte first. -/
  buffer : List Byte
  replyState : ReplyState
  /-- The reply built for the LNK and not yet sent to its end. -/
  reply : Option Reply
  /-- The DE output, true while active. -/
  de : Bool
  /-- The divisor that takes effect at the reply's last stop bit (R166). -/
  newDivisor : Option Byte
  /-- A RESTART ALL waits for the reply's last stop bit (R174). -/
  restartAtEnd : Bool
  /-- The model's own record of the last reply frame driven on TXD, each character in its eleven bits (R161; log 26). -/
  tx : List (BitVec 11)
  counters : LinkCounters
deriving DecidableEq, Repr

/-! ### RQD: mode and deferred requests (11) -/

/-- The operating mode (R170). -/
inductive Mode where
  | setup | counting
deriving DecidableEq, Repr

/-- The Request Decoder. -/
structure Rqd where
  mode : Mode
  /-- The pending SETUP change (R170). -/
  pendingSetup : Bool
  /-- The pending epoch settings (R97). -/
  pendingSettings : Option EpochSettings
  /-- Frames handed over by the LNK and not yet taken, oldest first (log 3). -/
  handed : List Frame
deriving DecidableEq, Repr

/-! ### The model's own fields -/

/-- The parts of a boundary whose order the spec leaves open: the ETM's notice; the RQD, SMU and WAU, in the order R172
gives; the SPL. -/
inductive BoundaryPart where
  | markNotice | accounts | planner
deriving DecidableEq, Repr

/-- The two blocks at which a close and a boundary may fall into different epochs (R99). -/
inductive AccountBlock where
  | smu | wau
deriving DecidableEq, Repr

/-- Which of several things that come together inside one command is taken first, where the spec lets either order occur:
those listed first, in the list's order, then the rest in ascending order; and how many visits of a member walk in flight fall
inside a SERVICE_DONE (DESIGN CHOICE, log 6); and which block takes its share of a boundary late (log 33). Nothing in the
model writes it, and no statement rests on its value. -/
structure Arbiter where
  lines : List LineNo
  segments : List SegNo
  members : List MemberNo
  boundary : List BoundaryPart
  /-- The visits that a member walk makes between the WAU's part of a SERVICE_DONE and the SPL's (R121). -/
  walkVisits : Nat
  /-- The boundaries, by the epoch number they set, at which one of the SMU and the WAU takes its share later than the other
  (R99). -/
  lags : List (Nat × AccountBlock)
deriving DecidableEq, Repr

/-- The state of the part, and the queue of commands that wait, first in first out. -/
structure State where
  siu : Siu
  smu : Smu
  itu : Itu
  wau : Wau
  etm : Etm
  spl : Spl
  nq : Nq
  lnk : Lnk
  rqd : Rqd
  arbiter : Arbiter
  pending : List Instr
deriving DecidableEq, Repr

/-- The spec names no event that stops the part: every error is a reply status, a counter or a notice. So no fault is ever
raised. -/
inductive Fault where
deriving DecidableEq, Repr

/-- Why a command is turned away. -/
inductive Refusal where
  /-- An arm of `exec` whose command has no meaning yet; raised by `exec` alone. Safe: no claim follows from it. No arm
  raises it. -/
  | notModelled (mnemonic : String)
  /-- An UNKNOWN_KIND whose kind code names a request (R169, step 1); raised by `execUnknownKind`. Safe: no frame gives such
  a command (log 28). -/
  | illFormedCommand
deriving DecidableEq, Repr

/-! ### Reset (R174, R175) -/

/-- A line after reset (R1); the level stands until the first sample is taken (DESIGN CHOICE, log 7). -/
def Line.reset : Line :=
  { role := .unused, polarity := .activeHigh, filter := 3, level := .inactive, runCount := 0, changed := false }

/-- The runtime record of an undefined segment at tick 0 (R8, R23). -/
def SegRun.reset : SegRun :=
  { window := none, timingRef := 0, timeout := 60000, residue := 0, slip := 0, speed := 0, slipRun := 0
    slipArmed := true, speedArmed := true, fullWindows := 0, partialWindows := 0, timeouts := 0, slipAlarms := 0
    speedHits := 0, pulsesIgnored := 0, windowCount := 0, closingCount := 0, supervision := .off, attemptsLeft := 0
    intervals := 0 }

/-- A segment's tracking record after reset (R42). -/
def Tracking.reset : Tracking :=
  { arrival := [], transit := [], resync := false, errors := 0, lastLoad := 0, unannounced := 0, phantom := 0
    stale := 0, dropped := 0, delivered := 0, resyncs := 0 }

/-- The epoch settings after reset (R90). -/
def EpochSettings.reset : EpochSettings :=
  { length := 15, shift := 3, minWindows := 4, checkpoint := 0, source := .localClock, grace := 10 }

/-- The generator after reset (R133). -/
def Generator.reset : Generator :=
  { state := .idle, rotation := false, anchor := 0, index := 0, lastStart := 0, templates := [] }

/-- The planner after reset (R137). -/
def Planner.reset : Planner :=
  { stage := .idle, rerun := false, autoPlan := false, horizon := 672, gangHorizon := 0, fillLevel := 4
    runHorizon := 0, runGangHorizon := 0, sortList := [], placed := 0, late := 0, unplaced := 0, skipped := 0
    leftUnplaced := [] }

/-- Every link counter at 0 (R167). -/
def LinkCounters.zero : LinkCounters :=
  { good := 0, crc := 0, framing := 0, gap := 0, oversize := 0, collisions := 0, discards := 0 }

/-- The state right after cold reset, with straps of 0 (R174, R175; straps: DESIGN CHOICE, log 8). -/
def State.reset : State :=
  { siu := { lines := Vector.replicate 32 Line.reset, pins := 0, levelsTaken := false }
    smu := { segments := Vector.replicate 24 { defn := none, run := SegRun.reset } }
    itu := { free := Config.itemPool, tracks := Vector.replicate 24 Tracking.reset }
    wau := { members := Vector.replicate 192 none, pass := none }
    etm := { tick := 0, epoch := 0, boundaryTick := 0, settings := EpochSettings.reset, marksIgnored := 0
             markMismatches := 0, untaken := none }
    spl := { orders := Vector.replicate 48 none, windows := [], lastTag := 0, generator := Generator.reset
             planner := Planner.reset }
    nq := { queue := [], mask := 0b11111, lost := 0, lostBit := false }
    lnk := { straps := 0, address := 1, divisor := 7, receiver := .idle, buffer := [], replyState := .none
             reply := none, de := false, newDivisor := none, restartAtEnd := false, tx := []
             counters := LinkCounters.zero }
    rqd := { mode := .setup, pendingSetup := false, pendingSettings := none, handed := [] }
    arbiter := { lines := [], segments := [], members := [], boundary := [], walkVisits := 0, lags := [] }
    pending := [] }

end Sys2Proof.Machine
end

