-- ==== Sys2Proof/Machine/Flags.lean ====
section
/-! DEFINITION. The WA24 has no arithmetic flags; the flags it computes are the notice classes and codes (09 section 9.2) and
the attention summary every reply carries (R159). -/

namespace Sys2Proof.Machine

/-- The class number (09 section 9.2). -/
def NoticeClass.number : NoticeClass → Nat
  | .wear => 0 | .plan => 1 | .segment => 2 | .tracking => 3 | .system => 4

/-- The class of a kind (09 section 9.2). -/
def NoticeKind.cls : NoticeKind → NoticeClass
  | .memberWarn | .memberDue | .checkpoint | .deferredOverflow => .wear
  | .planDone | .windowReleased | .orderMissed | .dueUnplaced | .orderWithdrawn | .patternWrap | .patternEnd
  | .windowSkipped => .plan
  | .segLost | .segFailed | .segIdlerLost | .segRecovered | .speedLimit | .slipAlarm => .segment
  | .trackResync | .trackOverflow => .tracking
  | .modeChanged | .markMissed => .system

/-- The code that names a kind on the line (09 section 9.2). -/
def NoticeKind.code : NoticeKind → Byte
  | .memberWarn => 0x11 | .memberDue => 0x12 | .checkpoint => 0x13 | .deferredOverflow => 0x14
  | .planDone => 0x21 | .windowReleased => 0x22 | .orderMissed => 0x23 | .dueUnplaced => 0x24 | .orderWithdrawn => 0x25
  | .patternWrap => 0x26 | .patternEnd => 0x27 | .windowSkipped => 0x28
  | .segLost => 0x31 | .segFailed => 0x32 | .segIdlerLost => 0x33 | .segRecovered => 0x34 | .speedLimit => 0x35
  | .slipAlarm => 0x36
  | .trackResync => 0x41 | .trackOverflow => 0x42
  | .modeChanged => 0x51 | .markMissed => 0x52

/-- A record of the class waits in the queue and the class is enabled in the mask (R159). -/
def Nq.classShown (q : Nq) (c : NoticeClass) : Bool :=
  q.mask.getLsbD c.number && q.queue.any (fun n => n.kind.cls = c)

/-- The class bits of the attention summary: bit i for class number i (R159). -/
def Nq.classBits (q : Nq) : BitVec 5 :=
  BitVec.ofNat 5 ((q.classShown .wear).toNat + 2 * (q.classShown .plan).toNat + 4 * (q.classShown .segment).toNat
    + 8 * (q.classShown .tracking).toNat + 16 * (q.classShown .system).toNat)

/-- The attention summary as the queue, the mask and the lost bit stand (R159). -/
def Nq.attention (q : Nq) : Attention := { classes := q.classBits, lost := q.lostBit, count := q.queue.length }

/-- The summary's two bytes (11 section 11.6): class bits, lost bit in bit 7, then the queued count. -/
def Attention.bytes (a : Attention) : List Byte :=
  [a.classes.setWidth 8 ||| (if a.lost then 0x80 else 0), BitVec.ofNat 8 a.count]

end Sys2Proof.Machine
end

