-- ==== Sys2Proof/Machine/Ops.lean ====
section
/-! DEFINITION. The named operations every unit shares: reading and writing a record of a table, the time between ticks, the
order taken where the spec leaves one open, posting a notice (R154, R155), and handing a reply to the LNK (R165, R168). -/

namespace Sys2Proof.Machine

/-! ### Records of the tables -/

/-- The record of a line. -/
def State.line (s : State) (l : LineNo) : Line := s.siu.lines[l]

/-- `s` with the record of line `l` replaced. -/
def State.setLine (s : State) (l : LineNo) (x : Line) : State :=
  { s with siu := { s.siu with lines := s.siu.lines.set l x } }

/-- A segment at the SMU. -/
def State.segment (s : State) (g : SegNo) : Segment := s.smu.segments[g]

/-- A segment's definition, if it is defined. -/
def State.defn (s : State) (g : SegNo) : Option SegDef := (s.segment g).defn

/-- A segment's runtime record. -/
def State.run (s : State) (g : SegNo) : SegRun := (s.segment g).run

/-- `s` with segment `g` replaced at the SMU. -/
def State.setSegment (s : State) (g : SegNo) (x : Segment) : State :=
  { s with smu := { segments := s.smu.segments.set g x } }

/-- `s` with the runtime record of segment `g` replaced. -/
def State.setRun (s : State) (g : SegNo) (r : SegRun) : State :=
  s.setSegment g { s.segment g with run := r }

/-- A segment's lists and tracking record. -/
def State.track (s : State) (g : SegNo) : Tracking := s.itu.tracks[g]

/-- `s` with the tracking record of segment `g` replaced. -/
def State.setTrack (s : State) (g : SegNo) (x : Tracking) : State :=
  { s with itu := { s.itu with tracks := s.itu.tracks.set g x } }

/-- `s` with `n` more entries in the free list. -/
def State.giveFree (s : State) (n : Nat) : State := { s with itu := { s.itu with free := s.itu.free + n } }

/-- `s` with one entry taken from the free list. -/
def State.takeFree (s : State) : State := { s with itu := { s.itu with free := s.itu.free - 1 } }

/-- The record of a member; `none` is FREE. -/
def State.member (s : State) (m : MemberNo) : Option Member := s.wau.members[m]

/-- `s` with the record of member `m` replaced. -/
def State.setMember (s : State) (m : MemberNo) (x : Option Member) : State :=
  { s with wau := { s.wau with members := s.wau.members.set m x } }

/-- A slot of the order pool. -/
def State.slot (s : State) (k : SlotNo) : Option Order := s.spl.orders[k]

/-- `s` with slot `k` replaced. -/
def State.setSlot (s : State) (k : SlotNo) (x : Option Order) : State :=
  { s with spl := { s.spl with orders := s.spl.orders.set k x } }

/-- `s` with the window list replaced. -/
def State.setWindows (s : State) (ws : List MaintWindow) : State := { s with spl := { s.spl with windows := ws } }

/-- `s` with the planner record replaced. -/
def State.setPlanner (s : State) (p : Planner) : State := { s with spl := { s.spl with planner := p } }

/-- `s` with the generator record replaced. -/
def State.setGenerator (s : State) (x : Generator) : State := { s with spl := { s.spl with generator := x } }

/-- Every segment, ascending. -/
def allSegments : List SegNo := List.finRange 24
/-- Every member number, ascending. -/
def allMembers : List MemberNo := List.finRange 192
/-- Every line, ascending. -/
def allLines : List LineNo := List.finRange 32
/-- Every slot of the order pool, ascending. -/
def allSlots : List SlotNo := List.finRange 48

/-! ### Time and order -/

/-- The ticks from `earlier` to `later`, modulo 2^32 (R89). -/
def since (later earlier : Tick) : Nat := (later - earlier).toNat

/-- The members of `l` in the order they are taken: those that `priority` lists first, in its order, then the rest as they
stand in `l` (DESIGN CHOICE, log 6). -/
def arrange {α : Type} [DecidableEq α] : List α → List α → List α
  | [], l => l
  | p :: ps, l => if p ∈ l then p :: arrange ps (l.erase p) else arrange ps l

/-! ### Posting a notice (R154, R155) -/

/-- The record after one more posting of its kind and subject: the value replaced, the repeat count increased (R154). -/
def Notice.coalesce (n : Notice) (value : Nat) : Notice :=
  { n with value := value, repeats := satAdd Config.max8 n.repeats 1 }

/-- A record of this kind and subject. -/
def Notice.matches (n : Notice) (kind : NoticeKind) (subject : Nat) : Bool := n.kind = kind && n.subject = subject

/-- The NQ takes one posting, made at epoch `epoch` and tick `tick`: coalesced, appended, or dropped and counted (R154,
R155). -/
def Nq.post (q : Nq) (kind : NoticeKind) (subject value epoch : Nat) (tick : Tick) : Nq :=
  if q.queue.any (fun n => n.matches kind subject) then
    { q with queue := q.queue.map fun n => if n.matches kind subject then n.coalesce value else n }
  else if q.queue.length < Config.noticeCapacity then
    { q with queue := q.queue ++ [{ kind, subject, firstEpoch := epoch, firstTick := tick, value, repeats := 1 }] }
  else { q with lost := satAdd Config.max8 q.lost 1, lostBit := true }

/-- A block posts a notice, stamped with the epoch number and the tick as they stand (R154). -/
def State.post (s : State) (kind : NoticeKind) (subject value : Nat) : State :=
  { s with nq := s.nq.post kind subject value s.etm.epoch s.etm.tick }

/-- Several notices of one subject, posted in order (R156). -/
def State.postAll (s : State) (subject : Nat) (notes : List (NoticeKind × Nat)) : State :=
  notes.foldl (fun s n => s.post n.1 subject n.2) s

/-! ### Reset (R174, R175) -/

/-- Every piece of state back at its reset value, with this strap reading, station address and divisor; the pins, the record
of the last reply on TXD, the arbiter and the queue of commands are outside the reset (R161, R174, R175; log 24). -/
def State.resetWith (s : State) (straps : BitVec 5) (address divisor : Byte) : State :=
  { State.reset with
    siu := { State.reset.siu with pins := s.siu.pins }
    lnk := { State.reset.lnk with straps := straps, address := address, divisor := divisor, tx := s.lnk.tx }
    arbiter := s.arbiter
    pending := s.pending }

/-- RESTART ALL is taken: the station address and the rate divisor are kept (R174). -/
def State.restartAll (s : State) : State := s.resetWith s.lnk.straps s.lnk.address s.lnk.divisor

/-! ### Replies (R165, R168) -/

/-- The RQD has taken the oldest frame handed over to it, if one waits (log 2). -/
def State.takeHanded (s : State) : State := { s with rqd := { s.rqd with handed := s.rqd.handed.tail } }

/-- The RQD builds the reply to a request of kind code `kind`, with the attention summary as the NQ now stands, and hands it
to the LNK, whose reply state is PENDING (R159, R164, R168). The kind wraps at 8 bits (DEDUCED, log 22). -/
def State.answerKind (s : State) (kind : Byte) (status : Status) (data : List Byte) : State :=
  { s.takeHanded with
    lnk := { s.lnk with replyState := .pending, de := false
                        reply := some { kind := kind + 0x80, status, attention := s.nq.attention, data } } }

/-- The reply to an addressed request (R168). -/
def State.answer (s : State) (k : ReqKind) (status : Status) (data : List Byte) : State := s.answerKind k.code status data

/-- The reply to a request sent either way; a broadcast's reply is discarded (R169). -/
def State.answerVia (s : State) (via : Delivery) (k : ReqKind) (status : Status) (data : List Byte) : State :=
  match via with
  | .addressed => s.answer k status data
  | .broadcast => s.takeHanded

end Sys2Proof.Machine
end

