-- ==== Sys2Proof/Machine/Operands.lean ====
section
/-! DEFINITION. The operand forms of requests: what a payload's field names, and the range checks that answer BAD_VALUE. -/

namespace Sys2Proof.Machine

/-- `lo ≤ x ≤ hi`. -/
def inRange (lo hi x : Nat) : Bool := decide (lo ≤ x ∧ x ≤ hi)

/-- The line a byte names, 0–31. -/
def lineOf (b : Byte) : Option LineNo := if h : b.toNat < 32 then some ⟨b.toNat, h⟩ else none

/-- The segment a byte names, 0–23. -/
def segmentOf (b : Byte) : Option SegNo := if h : b.toNat < 24 then some ⟨b.toNat, h⟩ else none

/-- The member a byte names, 0–191. -/
def memberOf (b : Byte) : Option MemberNo := if h : b.toNat < 192 then some ⟨b.toNat, h⟩ else none

/-- An optional line: 0xFF is absent; `none` for a number out of range. -/
def optLineOf (b : Byte) : Option (Option LineNo) := if b = 0xFF then some none else (lineOf b).map some

/-- An optional segment: 0xFF is absent; `none` for a number out of range. -/
def optSegmentOf (b : Byte) : Option (Option SegNo) := if b = 0xFF then some none else (segmentOf b).map some

/-- An on/off code (11 section 11.6). -/
def onOffOf (b : Byte) : Option Bool := if b = 0 then some false else if b = 1 then some true else none

/-- The role codes of LINE_SET. -/
def roleOf (b : Byte) : Option Role :=
  if b = 0 then some .unused else if b = 1 then some .pulse else if b = 2 then some .gate else if b = 3 then some .run
  else none

/-- The polarity codes of LINE_SET. -/
def polarityOf (b : Byte) : Option Polarity :=
  if b = 0 then some .activeHigh else if b = 1 then some .activeLow else none

/-- The boundary source codes of EPOCH_SET. -/
def sourceOf (b : Byte) : Option BoundarySource :=
  if b = 0 then some .localClock else if b = 1 then some .marked else none

/-- The kind codes of MEMBER_DEFINE. -/
def memberKindOf (b : Byte) : Option MemberKind := if b = 1 then some .belt else if b = 2 then some .roller else none

/-- The fields of a segment definition as a record names them, an omitted unannounced mass as 150 (R9); `none` where a line
or segment number is out of range. -/
def segDefOf (massGiven : Bool) (r : SegmentRecord) : Option SegDef := do
  let driveLine ← lineOf r.driveLine
  let idlerLine ← optLineOf r.idlerLine
  let entryGate ← optLineOf r.entryGate
  let exitGate ← optLineOf r.exitGate
  let runLine ← optLineOf r.runLine
  let straight ← optSegmentOf r.straight
  let divert ← optSegmentOf r.divert
  return { driveLine, idlerLine, entryGate, exitGate, runLine, straight, divert
           driveCal := r.driveCal.toNat, idlerCal := r.idlerCal.toNat, windowSize := r.windowSize.toNat
           nominal := r.nominal.toNat, maxDeviation := r.maxDeviation.toNat, deadband := r.deadband.toNat
           step := r.step.toNat, acquireAttempts := r.acquireAttempts.toNat, lossLimit := r.lossLimit.toNat
           slipThreshold := r.slipThreshold.toNat, slipRunCount := r.slipRunCount.toNat, length := r.length.toNat
           fallbackLoad := r.fallbackLoad.toNat
           unannouncedMass := if massGiven then r.unannouncedMass.toNat else 150
           resyncThreshold := r.resyncThreshold.toNat }

/-- Every field within the range of the table of 01 section 1.2. The idler calibration's range is checked with or without an
idler line (DEDUCED, log 10). -/
def SegDef.rangesOk (d : SegDef) : Bool :=
  inRange 1 65535 d.driveCal && inRange 1 65535 d.idlerCal && inRange 16 4096 d.windowSize && inRange 1 20000 d.nominal
    && decide (d.maxDeviation < d.nominal) && inRange 0 20000 d.deadband && inRange 1 255 d.step
    && inRange 1 15 d.acquireAttempts && inRange 1 255 d.lossLimit && inRange 0 1000 d.slipThreshold
    && inRange 1 15 d.slipRunCount && inRange 1 65535 d.length && inRange 0 1023 d.fallbackLoad
    && inRange 0 65535 d.unannouncedMass && inRange 1 15 d.resyncThreshold

/-- The relations between fields that R7 asks for. -/
def SegDef.consistent (d : SegDef) (g : SegNo) : Bool :=
  d.idlerLine ≠ some d.driveLine && (d.entryGate = none || d.entryGate ≠ d.exitGate)
    && d.straight ≠ some g && d.divert ≠ some g && (d.divert = none || d.straight ≠ none)

/-- The definition that an acceptable SEGMENT_SET gives segment `g` (R7). -/
def checkSegment (g : SegNo) (massGiven : Bool) (r : SegmentRecord) : Option SegDef :=
  match segDefOf massGiven r with
  | none => none
  | some d => if d.rangesOk && d.consistent g then some d else none

/-- The settings that an acceptable EPOCH_SET carries (R96). -/
def checkEpoch (r : EpochRecord) : Option EpochSettings :=
  match sourceOf r.source with
  | none => none
  | some source =>
    if inRange 1 240 r.length.toNat && inRange 0 7 r.shift.toNat && inRange 1 60 r.grace.toNat then
      some { length := r.length.toNat, shift := r.shift.toNat, minWindows := r.minWindows.toNat
             checkpoint := r.checkpoint.toNat, source, grace := r.grace.toNat }
    else none

/-- The template that an acceptable record gives (07 section 7.4). -/
def checkTemplate (r : TemplateRecord) : Option Template :=
  if inRange 1 65535 r.offset.toNat && inRange 1 255 r.length.toNat && inRange 1 65535 r.capacity.toNat && r.mask ≠ 0 then
    some { offset := r.offset.toNat, length := r.length.toNat, capacity := r.capacity.toNat, mask := r.mask }
  else none

/-- The templates that acceptable records give, if each is acceptable (R132). -/
def checkTemplates : List TemplateRecord → Option (List Template)
  | [] => some []
  | r :: rs =>
    match checkTemplate r, checkTemplates rs with
    | some t, some ts => some (t :: ts)
    | _, _ => none

/-- A limit's range (04 section 4.1). -/
def limitOk (x : Nat) : Bool := inRange 1000 Config.max40 x
/-- Warn ‰'s range. -/
def warnOk (x : Nat) : Bool := inRange 500 999 x
/-- Service minutes' range. -/
def minutesOk (x : Nat) : Bool := inRange 1 600 x

/-- The ranges of MEMBER_DEFINE's figures (R65); the others fill their fields. -/
def memberRangesOk (r : MemberRecord) : Bool :=
  limitOk r.limit.toNat && warnOk r.warn.toNat && minutesOk r.minutes.toNat

/-- An optional field is absent or passes its check. -/
def absentOr {w : Nat} (ok : Nat → Bool) (o : Option (BitVec w)) : Bool :=
  match o with
  | none => true
  | some x => ok x.toNat

/-- The ranges of the fields present in a MEMBER_ADJUST (R85). -/
def adjustRangesOk (r : AdjustRecord) : Bool :=
  absentOr limitOk r.limit && absentOr warnOk r.warn && absentOr minutesOk r.minutes

/-- The route that ITEM_ANNOUNCE's bits spell, bits beyond the length ignored (R44). -/
def routeOf (length : Nat) (bits : BitVec 16) : List Bool := (List.range length).map fun j => bits.getLsbD j

end Sys2Proof.Machine
end

