-- ==== Sys2Proof/Machine/Layout.lean ====
section
/-! DEFINITION. The records and enumerated figures of replies as the line carries them (11 section 11.6). Figures that the
layout table does not spell out are sized and ordered as that section's text says (DEDUCED, log 21). -/

namespace Sys2Proof.Machine

/-- INACTIVE 0, ACTIVE 1. -/
def Level.code : Level → Nat
  | .inactive => 0 | .active => 1

/-- OFF 0 to FAILED 6. -/
def Supervision.code : Supervision → Nat
  | .off => 0 | .stopped => 1 | .acquire => 2 | .track => 3 | .idlerLost => 4 | .driveLost => 5 | .failed => 6

/-- SETUP 0, COUNTING 1. -/
def Mode.code : Mode → Nat
  | .setup => 0 | .counting => 1

/-- IDLE 0, RUNNING 1, STOPPED 2. -/
def GenState.code : GenState → Nat
  | .idle => 0 | .running => 1 | .stopped => 2

/-- LOCAL 0, MARKED 1. -/
def BoundarySource.code : BoundarySource → Nat
  | .localClock => 0 | .marked => 1

/-- BELT 1, ROLLER 2. -/
def MemberKind.code : MemberKind → Nat
  | .belt => 1 | .roller => 2

/-- NORMAL 1, WARN 2, DUE 3 (FREE is 0). -/
def WearState.code : WearState → Nat
  | .normal => 1 | .warn => 2 | .due => 3

/-- PROJECTED 1, WARN 2, LIMIT 3, HOST 4. -/
def Reason.code : Reason → Nat
  | .projected => 1 | .warn => 2 | .limit => 3 | .host => 4

/-- PROPOSED 1, SCHEDULED 2, RELEASED 3, IN_WORK 4. -/
def OrderState.code : OrderState → Nat
  | .proposed => 1 | .scheduled => 2 | .released => 3 | .inWork => 4

/-- HOST 1, PATTERN 2. -/
def WindowSource.code : WindowSource → Nat
  | .host => 1 | .pattern => 2

/-- OPEN 1, ACTIVE 2. -/
def WindowState.code : WindowState → Nat
  | .opened => 1 | .active => 2

/-- The status codes (R168). -/
def Status.code : Status → Byte
  | .ok => 0x00 | .accepted => 0x01 | .deferred => 0x02 | .busy => 0x10 | .wrongMode => 0x11 | .badValue => 0x12
  | .noRoom => 0x13 | .noSuch => 0x14 | .conflict => 0x15 | .notHeld => 0x16 | .unknownKind => 0x17

/-- The segment definition record, 32 bytes. -/
def SegDef.bytes (d : SegDef) : List Byte :=
  be 1 d.driveLine.val
    ++ [optByte (d.idlerLine.map (·.val)), optByte (d.entryGate.map (·.val)), optByte (d.exitGate.map (·.val)),
        optByte (d.runLine.map (·.val)), optByte (d.straight.map (·.val)), optByte (d.divert.map (·.val))]
    ++ be 2 d.driveCal ++ be 2 d.idlerCal ++ be 2 d.windowSize ++ be 2 d.nominal ++ be 2 d.maxDeviation ++ be 2 d.deadband
    ++ be 1 d.step ++ be 1 d.acquireAttempts ++ be 1 d.lossLimit ++ be 2 d.slipThreshold ++ be 1 d.slipRunCount
    ++ be 2 d.length ++ be 2 d.fallbackLoad ++ be 2 d.unannouncedMass ++ be 1 d.resyncThreshold

/-- The definition of an undefined segment: fields 0, optional fields absent (01 section 1.2). -/
def undefinedBytes : List Byte := 0 :: List.replicate 6 0xFF ++ List.replicate 25 0

/-- The member record, 66 bytes. -/
def Member.bytes (n : MemberNo) (m : Member) : List Byte :=
  be 1 n.val ++ be 1 m.state.code
    ++ [BitVec.ofNat 8 (m.held.toNat + 2 * m.checkpointArmed.toNat + 4 * m.overflowNoted.toNat + 8 * m.fresh.toNat
          + 16 * m.projection.isSome.toNat + 32 * m.closingWear.isSome.toNat)]
    ++ be 1 m.kind.code ++ [optByte (m.segment.map (·.val))]
    ++ be 5 m.wear ++ be 3 m.residue ++ be 5 m.limit ++ be 2 m.warn ++ be 5 m.warnLevel ++ be 1 m.kLoad ++ be 1 m.kSlip
    ++ be 2 m.minutes ++ be 4 m.rate ++ be 4 (m.projection.getD 0) ++ be 4 m.epochWear ++ be 4 (m.closingWear.getD 0)
    ++ be 3 m.deferred ++ be 4 m.lostWear ++ be 4 m.reckonedWear ++ be 4 m.unsavedWear ++ be 2 m.serviceCount
    ++ be 4 m.installedEpoch

/-- The order record, 16 bytes; tag 0 when absent. -/
def Order.bytes (o : Order) : List Byte :=
  be 1 o.member.val ++ be 1 o.reason.code ++ be 1 o.state.code ++ [BitVec.ofNat 8 (o.late.toNat + 2 * o.ganged.toNat)]
    ++ be 4 o.due ++ be 1 (o.tag.getD 0) ++ be 2 o.minutes ++ be 1 o.missed ++ be 4 o.created

/-- The window record, 15 bytes. -/
def MaintWindow.bytes (w : MaintWindow) : List Byte :=
  be 1 w.tag ++ be 4 w.start ++ be 1 w.length ++ be 2 w.capacity ++ be 2 w.used ++ be 3 w.mask.toNat ++ be 1 w.source.code
    ++ be 1 w.state.code

/-- The template, 8 bytes. -/
def Template.bytes (t : Template) : List Byte := be 2 t.offset ++ be 1 t.length ++ be 2 t.capacity ++ be 3 t.mask.toNat

/-- The generator record, its fields in the order of R133. -/
def Generator.bytes (x : Generator) : List Byte :=
  be 1 x.state.code ++ [flagByte x.rotation] ++ be 4 x.anchor ++ be 1 x.index ++ be 4 x.lastStart
    ++ be 1 x.templates.length

/-- The notice record, 15 bytes. -/
def Notice.bytes (n : Notice) : List Byte :=
  [n.kind.code] ++ be 1 n.subject ++ be 4 n.firstEpoch ++ be 4 n.firstTick.toNat ++ be 4 n.value ++ be 1 n.repeats

/-- The six settings in the order of R96. -/
def EpochSettings.bytes (e : EpochSettings) : List Byte :=
  be 1 e.length ++ be 1 e.shift ++ be 1 e.minWindows ++ be 4 e.checkpoint ++ be 1 e.source.code ++ be 1 e.grace

/-- The data of the characters of the reply frame of the station of address `address` (R165, 11 section 11.6). -/
def Reply.bytes (address : Byte) (r : Reply) : List Byte :=
  let covered := BitVec.ofNat 8 (r.data.length + 4) :: r.kind :: r.status.code :: r.attention.bytes ++ r.data
  address :: covered ++ crcBytes covered

/-- The characters of the reply frame: the address byte with mark 1, all others with mark 0 (R165). -/
def Reply.characters (address : Byte) (r : Reply) : List Character :=
  match r.bytes address with
  | [] => []
  | a :: rest => { data := a, mark := true } :: rest.map fun b => { data := b, mark := false }

/-- The reply frame on TXD, character by character, each in its eleven bits with the stop bit high, back to back (R161,
R165). -/
def Reply.lineCharacters (address : Byte) (r : Reply) : List (BitVec 11) :=
  (r.characters address).map fun c => lineBits c.data c.mark true

end Sys2Proof.Machine
end

