-- ==== Sys2Proof/Machine/Link.lean ====
section
/-! DEFINITION. The LNK (10): the receiver, the check of a completed frame, the sending of a reply; the meanings of
CHARACTER_RECEIVED, GAP_LIMIT_EXPIRY, REPLY_START, REPLY_END, BLANKING_END, LINK_SET and COUNTERS. -/

namespace Sys2Proof.Machine

/-- `s` with the link's record replaced. -/
def State.setLnk (s : State) (k : Lnk) : State := { s with lnk := k }

/-- One of the seven link counters increased by 1 is written by `f` (R167). -/
def Lnk.countWith (k : Lnk) (f : LinkCounters → LinkCounters) : Lnk := { k with counters := f k.counters }

/-- CRC errors + 1. -/
def LinkCounters.addCrc (c : LinkCounters) : LinkCounters := { c with crc := bump16 c.crc }
/-- Good frames + 1. -/
def LinkCounters.addGood (c : LinkCounters) : LinkCounters := { c with good := bump16 c.good }
/-- Framing errors + 1. -/
def LinkCounters.addFraming (c : LinkCounters) : LinkCounters := { c with framing := bump16 c.framing }
/-- Gap abandons + 1. -/
def LinkCounters.addGap (c : LinkCounters) : LinkCounters := { c with gap := bump16 c.gap }
/-- Oversize + 1. -/
def LinkCounters.addOversize (c : LinkCounters) : LinkCounters := { c with oversize := bump16 c.oversize }
/-- Collisions + 1. -/
def LinkCounters.addCollision (c : LinkCounters) : LinkCounters := { c with collisions := bump16 c.collisions }
/-- Broadcast discards + 1. -/
def LinkCounters.addDiscard (c : LinkCounters) : LinkCounters := { c with discards := bump16 c.discards }

/-! ### The check and hand-over of a completed frame (R164) -/

/-- The frame that a completed buffer spells: address byte, L, kind, payload, two CRC characters (10 section 10.2). -/
def frameOf (buffer : List Byte) : Frame :=
  { address := byteAt buffer 0, kind := byteAt buffer 2, payload := (buffer.drop 3).take (buffer.length - 5) }

/-- The CRC over L, the kind and the payload is the two characters received (R164, step 1). -/
def crcHolds (buffer : List Byte) : Bool :=
  crcBytes ((buffer.drop 1).take (buffer.length - 3)) = buffer.drop (buffer.length - 2)

/-- A kind code taken by broadcast (R164, step 3). -/
def takenByBroadcast (kind : Byte) : Bool :=
  match ReqKind.ofCode kind with
  | some k => k.broadcastable
  | none => false

/-- A broadcast RESTART ALL (R173, R174). -/
def restartsAll (f : Frame) : Bool :=
  match decodeFrame f with
  | .run (.restartAll .broadcast) => true
  | _ => false

/-- The frame goes to the RQD, where it waits to be taken (log 3). An addressed one makes the reply state PENDING (R164, step
4), and a broadcast RESTART ALL is taken at once (R174). -/
def State.handOver (s : State) (f : Frame) : State :=
  if restartsAll f then s.restartAll else
  let k := s.lnk.countWith .addGood
  let k := match f.delivery with
    | .addressed => { k with replyState := .pending, reply := none }
    | .broadcast => k
  { s with lnk := k, rqd := { s.rqd with handed := s.rqd.handed ++ [f] } }

/-- A completed frame is checked, then discarded or handed over (R164). -/
def State.takeFrame (s : State) (buffer : List Byte) : State :=
  let f := frameOf buffer
  if !crcHolds buffer then s.setLnk (s.lnk.countWith .addCrc)
  else if s.lnk.replyState ≠ .none then s.setLnk (s.lnk.countWith .addCollision)
  else if f.delivery = .broadcast ∧ !takenByBroadcast f.kind then s.setLnk (s.lnk.countWith .addDiscard)
  else s.handOver f

/-! ### The receiver (R162, R163) -/

/-- The receiver returns to IDLE, with nothing being assembled. -/
def Lnk.toIdle (k : Lnk) : Lnk := { k with receiver := .idle, buffer := [] }

/-- A character with mark 1 is judged as in IDLE: it starts a frame, or leaves the receiver IDLE (R162). -/
def Lnk.judge (k : Lnk) (data : Byte) : Lnk :=
  if data = k.address ∨ data = 0 then { k with receiver := .receiving, buffer := [data] } else k.toIdle

/-- L is outside 1–250 (R163). -/
def badLength (l : Byte) : Bool := l = 0 || decide (250 < l.toNat)

/-- A character with mark 0 is stored as the next of the frame (R163). -/
def State.storeCharacter (s : State) (data : Byte) : State :=
  let buffer := s.lnk.buffer ++ [data]
  if buffer.length = 2 ∧ badLength data then s.setLnk (s.lnk.toIdle.countWith .addOversize)
  else if 2 ≤ buffer.length ∧ buffer.length = (byteAt buffer 1).toNat + 4 then (s.setLnk s.lnk.toIdle).takeFrame buffer
  else s.setLnk { s.lnk with buffer := buffer }

/-- A character whose stop bit is found low (R162). -/
def Lnk.framingError (k : Lnk) : Lnk :=
  (match k.receiver with
    | .receiving => k.toIdle
    | .idle | .blanked => k).countWith .addFraming

/-- A character is taken by the receiver's state (R162). -/
def State.takeCharacter (s : State) (data : Byte) (mark stop : Bool) : State :=
  match s.lnk.receiver with
  | .blanked => s
  | .idle =>
    if !stop then s.setLnk s.lnk.framingError
    else if mark then s.setLnk (s.lnk.judge data)
    else s
  | .receiving =>
    if !stop then s.setLnk s.lnk.framingError
    else if mark then s.setLnk (s.lnk.judge data)
    else s.storeCharacter data

/-- Eleven bits have arrived on the line: a character, but with no start bit none (R161, R162). One whose start bit fell in the
blanked span is not received: not judged, stored or counted, whatever the receiver does at its last bit (R165). The command
stands at the last bit, where the receiver's state is tested (DESIGN CHOICE, log 37). -/
def State.receive (s : State) (start : StartBit) (line : BitVec 11) : State :=
  match start with
  | .blanked => s
  | .heard => if lineIdles line then s else s.takeCharacter (lineData line) (lineMark line) (lineStop line)

/-- CHARACTER_RECEIVED (R161 to R165): the receiver reads the character's eleven bits. -/
def execCharacterReceived (start : StartBit) (character : Character) (stop : Bool) (s : State) :
    Host.Outcome State Fault Refusal :=
  .next (s.receive start (lineBits character.data character.mark stop))

/-- The gap limit passes: the frame being assembled is abandoned (R163); with none, there is no gap to measure. -/
def State.gapLimit (s : State) : State :=
  match s.lnk.receiver with
  | .receiving => s.setLnk (s.lnk.toIdle.countWith .addGap)
  | .idle | .blanked => s

/-- GAP_LIMIT_EXPIRY (R163). -/
def execGapLimitExpiry (s : State) : Host.Outcome State Fault Refusal := .next s.gapLimit

/-! ### Replies (R165) -/

/-- A frame still being assembled is cut off by the blanking (R165). -/
def Lnk.cutOff (k : Lnk) : Lnk :=
  match k.receiver with
  | .receiving => (k.toIdle).countWith .addCollision
  | .idle | .blanked => k

/-- The first start bit of the reply `r` (R165). -/
def Lnk.startReply (k : Lnk) (r : Reply) : Lnk :=
  { k.cutOff with receiver := .blanked, replyState := .sending, de := true, tx := r.lineCharacters k.address }

/-- REPLY_START (R165): taken when a reply is PENDING and the RQD has built it. -/
def execReplyStart (s : State) : Host.Outcome State Fault Refusal :=
  .next <| match s.lnk.replyState, s.lnk.reply with
    | .pending, some r => s.setLnk (s.lnk.startReply r)
    | _, _ => s

/-- The last stop bit of the reply ends: the driver is released and a new divisor takes effect (R165, R166). -/
def Lnk.endReply (k : Lnk) : Lnk :=
  { k with replyState := .none, reply := none, de := false, divisor := k.newDivisor.getD k.divisor, newDivisor := none }

/-- REPLY_END (R165, R166, R174): taken while a reply is SENDING. -/
def execReplyEnd (s : State) : Host.Outcome State Fault Refusal :=
  .next <| match s.lnk.replyState with
    | .sending =>
      let ended := s.setLnk s.lnk.endReply
      if s.lnk.restartAtEnd then ended.restartAll else ended
    | .none | .pending => s

/-- BLANKING_END (R165): one character time after the last stop bit, so not while a reply is SENDING. -/
def execBlankingEnd (s : State) : Host.Outcome State Fault Refusal :=
  .next <|
    if s.lnk.receiver = .blanked ∧ s.lnk.replyState ≠ .sending then s.setLnk { s.lnk with receiver := .idle } else s

/-! ### LINK_SET and COUNTERS (R166, R178) -/

/-- LINK_SET (R166). -/
def execLinkSet (divisor : Byte) (s : State) : Host.Outcome State Fault Refusal :=
  .next ((s.setLnk { s.lnk with newDivisor := some divisor }).answer .linkSet .ok [divisor])

/-- The nine counters of COUNTERS (R178). -/
def State.counterData (s : State) : List Byte :=
  let c := s.lnk.counters
  [c.good, c.crc, c.framing, c.gap, c.oversize, c.collisions, c.discards, s.etm.marksIgnored, s.etm.markMismatches].flatMap
    (be 2)

/-- The nine counters at 0 (R178). -/
def State.clearCounters (s : State) : State :=
  { s with
    lnk := { s.lnk with counters := LinkCounters.zero }
    etm := { s.etm with marksIgnored := 0, markMismatches := 0 } }

/-- COUNTERS (R178). -/
def execCounters (s : State) : Host.Outcome State Fault Refusal :=
  .next ((s.clearCounters).answer .counters .ok s.counterData)

end Sys2Proof.Machine
end

