-- ==== Sys2Proof/Machine/Notices.lean ====
section
/-! DEFINITION. The notice requests (09 sections 9.4, 9.5): NOTICE_TAKE and NOTICE_MASK. -/

namespace Sys2Proof.Machine

/-- The head of the queue taken off (R157). -/
def State.dropNotice (s : State) : State := { s with nq := { s.nq with queue := s.nq.queue.tail } }

/-- The notice record of NOTICE_TAKE's reply: the head's, or zeros when the queue is empty (R157). -/
def headBytes (queue : List Notice) : List Byte :=
  match queue with
  | n :: _ => n.bytes
  | [] => List.replicate 15 0

/-- NOTICE_TAKE (R157). -/
def execNoticeTake (s : State) : Host.Outcome State Fault Refusal :=
  .next ((s.dropNotice).answer .noticeTake .ok (headBytes s.nq.queue ++ be 1 s.nq.queue.tail.length))

/-- The mask that five settings give; none when a setting is neither on nor off (R158, 11 section 11.6). -/
def maskOf (settings : Byte) : Option (BitVec 5) := if settings.toNat < 32 then some (settings.setWidth 5) else none

/-- NOTICE_MASK (R158). -/
def execNoticeMask (settings : Byte) (s : State) : Host.Outcome State Fault Refusal :=
  match maskOf settings with
  | none => .next (s.answer .noticeMask .badValue [])
  | some mask =>
    let s := { s with nq := { s.nq with mask := mask } }
    .next (s.answer .noticeMask .ok (be 1 s.nq.mask.toNat))

end Sys2Proof.Machine
end

