-- ==== Sys2Proof/Machine/Tracking.lean ====
section
/-! DEFINITION. The ITU (03): resync, entry, exit, routing and hand-on of items, and what a close does to a segment's lists;
the meaning of ITEM_ANNOUNCE. -/

namespace Sys2Proof.Machine

/-- A flush: both lists of the segment go to the free list, and nothing is counted (R42). -/
def State.flush (s : State) (g : SegNo) : State :=
  let t := s.track g
  (s.setTrack g { t with arrival := [], transit := [] }).giveFree (t.arrival.length + t.transit.length)

/-- A resync (R60). -/
def State.resync (s : State) (g : SegNo) : State :=
  let t := s.track g
  let s := s.flush g
  let s := s.setTrack g { s.track g with resync := true, errors := 0, resyncs := bump16 t.resyncs }
  s.post .trackResync g.val (t.arrival.length + t.transit.length)

/-- A tracking error at a segment, its own counter already increased (R59). -/
def State.trackingError (s : State) (g : SegNo) (d : SegDef) : State :=
  let t := s.track g
  if t.resync then s
  else if t.errors + 1 = d.resyncThreshold then s.resync g
  else s.setTrack g { t with errors := t.errors + 1 }

/-- An item that cannot be tracked: counted and reported with its cause (R47, R51). -/
def State.dropItem (s : State) (g : SegNo) (cause : Nat) : State :=
  let t := s.track g
  (s.setTrack g { t with dropped := bump16 t.dropped }).post .trackOverflow g.val cause

/-- An entry event at a segment with arrivals waiting: the oldest goes to the transit list's tail, or is dropped (R45,
R47). -/
def State.enterAnnounced (s : State) (g : SegNo) (item : Item) (rest : List Item) : State :=
  let t := s.track g
  if t.transit.length < Config.transitCapacity then
    s.setTrack g { t with arrival := rest, transit := t.transit ++ [{ item with travel := 0 }] }
  else ((s.setTrack g { t with arrival := rest }).giveFree 1).dropItem g 1

/-- The unknown item of an unannounced entry (R46). -/
def unknownItem (d : SegDef) : Item :=
  { tag := 0, mass := d.unannouncedMass, route := [], unknown := true, travel := 0 }

/-- An entry event that finds the arrival list empty: counted, then entered or dropped (R46, R47). -/
def State.enterUnannounced (s : State) (g : SegNo) (d : SegDef) : State :=
  let t := s.track g
  let s := (s.setTrack g { t with unannounced := bump16 t.unannounced }).trackingError g d
  let t := s.track g
  if t.transit.length < Config.transitCapacity then
    if 0 < s.itu.free then (s.takeFree).setTrack g { t with transit := t.transit ++ [unknownItem d] }
    else s.dropItem g 2
  else s.dropItem g 1

/-- An entry event at a segment in COUNTING (R45, R46). -/
def State.entryEvent (s : State) (g : SegNo) (d : SegDef) : State :=
  match (s.track g).arrival with
  | item :: rest => s.enterAnnounced g item rest
  | [] => s.enterUnannounced g d

/-- The successor of a departing item and the route it keeps (R50). -/
def chooseSuccessor (d : SegDef) (route : List Bool) : Option SegNo × List Bool :=
  match d.straight, d.divert with
  | some _, some v =>
    match route with
    | true :: rest => (some v, rest)
    | false :: rest => (d.straight, rest)
    | [] => (d.straight, [])
  | some a, none => (some a, route)
  | none, _ => (none, route)

/-- A segment that takes items: it is defined and has an entry gate (R43, R51). -/
def State.takesItems (s : State) (g : SegNo) : Bool :=
  match s.defn g with
  | some d => d.entryGate.isSome
  | none => false

/-- An item that has left segment `g` is handed on by its route: delivered, dropped, or appended to the successor's arrival
list (R50, R51). -/
def State.handOnItem (s : State) (g : SegNo) (d : SegDef) (item : Item) : State :=
  let (successor, route) := chooseSuccessor d item.route
  match successor.filter s.takesItems with
  | none =>
    let t := s.track g
    (s.setTrack g { t with delivered := bump16 t.delivered }).giveFree 1
  | some b =>
    let tb := s.track b
    if tb.arrival.length < Config.arrivalCapacity then
      s.setTrack b { tb with arrival := tb.arrival ++ [{ item with route := route, travel := 0 }] }
    else (s.giveFree 1).dropItem g 3

/-- A clean exit: the head entry leaves, the error count becomes 0, RESYNC ends, and the item is handed on (R49, R57,
R61). -/
def State.cleanExit (s : State) (g : SegNo) (d : SegDef) (item : Item) (rest : List Item) : State :=
  let t := s.track g
  (s.setTrack g { t with transit := rest, errors := 0, resync := false }).handOnItem g d item

/-- An exit event at a tracked segment in COUNTING (R48, R49). -/
def State.exitEvent (s : State) (g : SegNo) (d : SegDef) : State :=
  match (s.track g).transit with
  | item :: rest => s.cleanExit g d item rest
  | [] =>
    let t := s.track g
    (s.setTrack g { t with phantom := bump16 t.phantom }).trackingError g d

/-- The defined segment, lowest first, whose gate (chosen by `gate`) is this line. -/
def State.segmentWithGate (s : State) (gate : SegDef → Option LineNo) (l : LineNo) : Option SegNo :=
  allSegments.find? fun g => match s.defn g with
    | some d => gate d = some l
    | none => false

/-- The exit half of a gate event; discarded at a segment without an entry gate (R43, R52). -/
def State.exitHalf (s : State) (g : SegNo) : State :=
  match s.defn g with
  | some d => if d.entryGate.isSome then s.exitEvent g d else s
  | none => s

/-- The entry half of a gate event. -/
def State.entryHalf (s : State) (g : SegNo) : State :=
  match s.defn g with
  | some d => s.entryEvent g d
  | none => s

/-- A gate event: an exit, an entry, or a transfer taken exit first, by the gates of the defined segments; discarded in
SETUP (R4, R52, R53). -/
def State.gateEvent (s : State) (l : LineNo) : State :=
  match s.rqd.mode with
  | .setup => s
  | .counting =>
    let exitAt := s.segmentWithGate (·.exitGate) l
    let entryAt := s.segmentWithGate (·.entryGate) l
    let s := match exitAt with
      | some g => s.exitHalf g
      | none => s
    match entryAt with
    | some g => s.entryHalf g
    | none => s

/-! ### Closes (R54 to R57) -/

/-- The sum of the masses of the transit list, in 10 g units (R54). -/
def Tracking.massSum (t : Tracking) : Nat := (t.transit.map (·.mass)).sum

/-- The load figure of a close, in kg (R54). -/
def Tracking.load (t : Tracking) (d : SegDef) : Nat :=
  if d.entryGate.isNone then d.fallbackLoad
  else
    let carried := min (t.massSum / 100) 1023
    if t.resync then max carried d.fallbackLoad else carried

/-- An item aged by a close's travel (R55). -/
def Item.age (travel : Nat) (i : Item) : Item := { i with travel := satAdd 65535 i.travel travel }

/-- The stale entries at the head of the transit list are removed, each a tracking error (R56); at most `fuel` of them. -/
def State.removeStale (d : SegDef) (g : SegNo) : Nat → State → State
  | 0, s => s
  | fuel + 1, s =>
    match (s.track g).transit with
    | [] => s
    | item :: rest =>
      if 2 * d.length ≤ item.travel then
        let t := s.track g
        removeStale d g fuel
          (((s.setTrack g { t with transit := rest, stale := bump16 t.stale }).giveFree 1).trackingError g d)
      else s

/-- The entries at the head that have ridden the segment's length leave by travel (R57); at most `fuel` of them. -/
def State.exitByTravel (d : SegDef) (g : SegNo) : Nat → State → State
  | 0, s => s
  | fuel + 1, s =>
    match (s.track g).transit with
    | [] => s
    | item :: rest => if d.length ≤ item.travel then exitByTravel d g fuel (s.cleanExit g d item rest) else s

/-- What a close does at the ITU after the load is given: the items are aged, then removed or passed on (R55 to R57). -/
def State.ageItems (s : State) (g : SegNo) (d : SegDef) (travel : Nat) : State :=
  let t := s.track g
  let s := s.setTrack g { t with transit := t.transit.map (Item.age travel) }
  if d.entryGate.isNone then s
  else if d.exitGate.isSome then State.removeStale d g t.transit.length s
  else State.exitByTravel d g t.transit.length s

/-- The load figure is stored as the segment's last load (R54). -/
def State.storeLoad (s : State) (g : SegNo) (load : Nat) : State :=
  s.setTrack g { s.track g with lastLoad := load }

/-! ### ITEM_ANNOUNCE (R44) -/

/-- The segment and definition an announcement may be for: defined, with an entry gate (R44, check 1). -/
def State.announceTarget (s : State) (segment : Byte) : Option SegNo :=
  (segmentOf segment).filter s.takesItems

/-- The item an announcement gives (R44). -/
def announcedItem (tag mass : BitVec 16) (routeLength : Byte) (route : BitVec 16) : Item :=
  { tag, mass := mass.toNat, route := routeOf routeLength.toNat route, unknown := false, travel := 0 }

/-- ITEM_ANNOUNCE (R44). -/
def execItemAnnounce (segment : Byte) (tag mass : BitVec 16) (routeLength : Byte) (route : BitVec 16) (s : State) :
    Host.Outcome State Fault Refusal :=
  match s.announceTarget segment with
  | none => .next (s.answer .itemAnnounce .badValue [])
  | some g =>
    if 12 < routeLength.toNat then .next (s.answer .itemAnnounce .badValue [])
    else
      let t := s.track g
      if Config.arrivalCapacity ≤ t.arrival.length ∨ s.itu.free = 0 then .next (s.answer .itemAnnounce .noRoom [])
      else
        let s := (s.takeFree).setTrack g { t with arrival := t.arrival ++ [announcedItem tag mass routeLength route] }
        .next (s.answer .itemAnnounce .ok (be 1 (s.track g).arrival.length ++ be 2 s.itu.free))

end Sys2Proof.Machine
end

