-- ==== Sys2Proof/Machine/Wear.lean ====
section
/-! DEFINITION. The WAU's account (04, 05): the evaluation of a member's state, the accrual of a close report, the
projection, and the rate update. -/

namespace Sys2Proof.Machine

/-! ### Levels and evaluation (R63, R64, R80 to R83) -/

/-- The warn level, limit × warn ‰ / 1000 rounded down (R63). -/
def warnLevelOf (limit warn : Nat) : Nat := limit * warn / 1000

/-- The state named by a wear against the two levels (R64). -/
def namedState (wear warnLevel limit : Nat) : WearState :=
  if limit ≤ wear then .due else if warnLevel ≤ wear then .warn else .normal

/-- The named state of a member (R64). -/
def Member.named (m : Member) : WearState := namedState m.wear m.warnLevel m.limit

/-- The place of a state in the order NORMAL, WARN, DUE (R81). -/
def WearState.rank : WearState → Nat
  | .normal => 0 | .warn => 1 | .due => 2

/-- The notices of the levels that a move passes, in their order; none for a move that is not upward (R80, R81). -/
def passedLevels : WearState → WearState → List NoticeKind
  | .normal, .warn => [.memberWarn]
  | .normal, .due => [.memberWarn, .memberDue]
  | .warn, .due => [.memberDue]
  | _, _ => []

/-- The notices that a move to state `new` posts, each with the wear divided by 256 (R81, R82). -/
def Member.levelNotes (m : Member) (new : WearState) : List (NoticeKind × Nat) :=
  (passedLevels m.state new).map fun k => (k, m.wear / 256)

/-- Upward evaluation: the state moves up to the named state, if that stands above it (R80). -/
def Member.evalUpward (m : Member) : Member × List (NoticeKind × Nat) :=
  if m.state.rank < m.named.rank then ({ m with state := m.named }, m.levelNotes m.named) else (m, [])

/-- Full evaluation: the state moves to the named state, upward or downward (R80). -/
def Member.evalFull (m : Member) : Member × List (NoticeKind × Nat) :=
  ({ m with state := m.named }, m.levelNotes m.named)

/-! ### Projection (R102) -/

/-- The projection computed from wear, limit and rate at epoch `epoch` (R102). -/
def projectionOf (wear limit rate epoch : Nat) : Option Nat :=
  if limit ≤ wear then some epoch
  else if rate = 0 then none
  else some (satAdd Config.max32 epoch (ceilDiv (limit - wear) rate))

/-- The member with its projection computed at epoch `epoch`. -/
def Member.project (m : Member) (epoch : Nat) : Member :=
  { m with projection := projectionOf m.wear m.limit m.rate epoch }

/-! ### Accrual (R69 to R72, R79, R86) -/

/-- The kind of a close report (R17). -/
inductive CloseKind where
  | fullWindow | partialWindow | reckoning
deriving DecidableEq, Repr

/-- A close report as the SMU hands it on (R17). -/
structure CloseReport where
  segment : SegNo
  kind : CloseKind
  /-- travel_mm. -/
  travel : Nat
  /-- The slip figure after the close. -/
  slip : Nat
deriving DecidableEq, Repr

/-- F_load (R70). -/
def loadFactor (load kLoad : Nat) : Nat := 1024 + load * kLoad / 16

/-- F_slip (R70). -/
def slipFactor (slip kSlip : Nat) : Nat := 1024 + slip * kSlip / 8

/-- The product of R71. -/
def Member.product (m : Member) (rep : CloseReport) (load : Nat) : Nat :=
  rep.travel * loadFactor load m.kLoad * slipFactor rep.slip m.kSlip + m.residue

/-- ΔW added to the figures that every accrual adds to, and the new residue (R71, R72). -/
def Member.addFigures (m : Member) (rep : CloseReport) (load : Nat) : Member :=
  let product := m.product rep load
  let dW := product / 1048576
  { m with
    residue := product % 1048576
    epochWear := satAdd Config.max32 m.epochWear dW
    unsavedWear := satAdd Config.max32 m.unsavedWear dW
    reckonedWear := if rep.kind = .reckoning then satAdd Config.max32 m.reckonedWear dW else m.reckonedWear }

/-- ΔW taken by a held member into deferred, the excess into lost wear (R86). -/
def Member.defer (m : Member) (dW : Nat) : Member × List (NoticeKind × Nat) :=
  if m.deferred + dW ≤ Config.max24 then ({ m with deferred := m.deferred + dW }, [])
  else
    let lost := satAdd Config.max32 m.lostWear (m.deferred + dW - Config.max24)
    ({ m with deferred := Config.max24, lostWear := lost, overflowNoted := true },
     if m.overflowNoted then [] else [(.deferredOverflow, lost)])

/-- ΔW taken by a member: to the wear and an upward evaluation, or, while held, to deferred (R72). -/
def Member.takeWear (m : Member) (dW : Nat) : Member × List (NoticeKind × Nat) :=
  if m.held then m.defer dW else Member.evalUpward { m with wear := satAdd Config.max40 m.wear dW }

/-- The checkpoint test under threshold `threshold` (R79). -/
def Member.testCheckpoint (m : Member) (threshold : Nat) : Member × List (NoticeKind × Nat) :=
  if 0 < threshold ∧ m.checkpointArmed ∧ threshold ≤ m.unsavedWear then
    ({ m with checkpointArmed := false }, [(.checkpoint, m.unsavedWear)])
  else (m, [])

/-- One accrual: the member after it, and the notices it posts in order (R70 to R72, R79). -/
def Member.accrue (m : Member) (rep : CloseReport) (load threshold : Nat) : Member × List (NoticeKind × Nat) :=
  let dW := m.product rep load / 1048576
  let (m, notes) := (m.addFigures rep load).takeWear dW
  let (m, more) := m.testCheckpoint threshold
  (m, notes ++ more)

/-- One member's accrual at the WAU; a FREE record takes none (R69). Its notices stand together, with none of another member's
between them (DESIGN CHOICE, log 35). -/
def State.accrueMember (rep : CloseReport) (load : Nat) (s : State) (n : MemberNo) : State :=
  match s.member n with
  | none => s
  | some m =>
    let (m, notes) := m.accrue rep load s.etm.settings.checkpoint
    (s.setMember n (some m)).postAll n.val notes

/-- The members bound to a segment, ascending (R69). -/
def State.boundMembers (s : State) (g : SegNo) : List MemberNo :=
  allMembers.filter fun n => match s.member n with
    | some m => m.segment = some g
    | none => false

/-- The WAU accrues a close report to every member bound to its segment, in either order where the spec leaves it open
(R69). -/
def State.accrueAll (s : State) (rep : CloseReport) (load : Nat) : State :=
  (arrange s.arbiter.members (s.boundMembers rep.segment)).foldl (State.accrueMember rep load) s

/-! ### Rate (R101) -/

/-- The rate moved toward the closing wear by the difference over 2^a, truncated toward zero (R101). -/
def rateAfter (rate closing a : Nat) : Nat :=
  if rate ≤ closing then rate + (closing - rate) / 2 ^ a else rate - (rate - closing) / 2 ^ a

end Sys2Proof.Machine
end

