-- ==== Sys2Proof/Machine/Measurement.lean ====
section
/-! DEFINITION. The SMU's measurement windows (01 sections 1.3 to 1.6): the figures a close yields, full and partial closes,
reckoning intervals (R32), and handing a close on to the ITU and the WAU (R17). -/

namespace Sys2Proof.Machine

/-! ### Figures (R11 to R16) -/

/-- The whole millimetres that a travel in µm yields through a residue (R11). -/
def travelMm (um residue : Nat) : Nat := (um + residue) / 1000

/-- The residue left by the same (R11). -/
def travelResidue (um residue : Nat) : Nat := (um + residue) % 1000

/-- The slip figure of a drive and an idler travel (R12). -/
def slipOf (tdUm tiUm : Nat) : Nat := if tiUm < tdUm then min (1000 * (tdUm - tiUm) / tdUm) 1000 else 0

/-- The speed measured over a travel and a time, the time taken as 1 ms when it is 0 (R13). -/
def measuredSpeed (tdUm elapsedMs : Nat) : Nat := tdUm / max elapsedMs 1

/-- The low end of the band of V (R13). -/
def SegDef.lowSpeed (d : SegDef) : Nat := d.nominal - d.maxDeviation

/-- The high end of the band of V (R13). -/
def SegDef.highSpeed (d : SegDef) : Nat := min (d.nominal + d.maxDeviation) 20000

/-- V moved by at most one step toward the measured speed `v`, never past it (R13). -/
def moveSpeed (d : SegDef) (V v : Nat) : Nat :=
  if V + d.deadband < v then min (V + d.step) v
  else if v + d.deadband < V then max (V - d.step) v
  else V

/-- V after a full close: moved, then clamped to the band (R13). -/
def speedAfter (d : SegDef) (V v : Nat) : Nat := min (max (moveSpeed d V v) d.lowSpeed) d.highSpeed

/-- A full close that leaves V at a bound with the measured speed beyond it (R14). -/
def speedLimitHit (d : SegDef) (V v : Nat) : Bool :=
  (V = d.highSpeed && d.highSpeed < v) || (V = d.lowSpeed && v < d.lowSpeed)

/-- The timeout from W, the drive calibration and V (R15). -/
def timeoutOf (d : SegDef) (V : Nat) : Nat := min (max (4 * (d.windowSize * d.driveCal / V)) 20) 60000

/-- The runtime record's initial values at tick `tick`; the two window counts stand (R8, R23). -/
def SegRun.initial (r : SegRun) (defn : Option SegDef) (tick : Tick) : SegRun :=
  { SegRun.reset with
    timingRef := tick
    speed := match defn with
      | some d => d.nominal
      | none => 0
    timeout := match defn with
      | some d => timeoutOf d d.nominal
      | none => 60000
    windowCount := r.windowCount, closingCount := r.closingCount }

/-! ### Handing on (R17) -/

/-- A close is handed on: the ITU gives and stores the load, then ages the items; the WAU then accrues with that load
(R17). -/
def State.handOn (s : State) (g : SegNo) (d : SegDef) (kind : CloseKind) (travel : Nat) : State :=
  let load := (s.track g).load d
  let rep : CloseReport := { segment := g, kind, travel, slip := (s.run g).slip }
  (((s.storeLoad g load).ageItems g d travel)).accrueAll rep load

/-! ### Reckoning (R32) -/

/-- A reckoning interval of `ms` milliseconds is made and handed on (R32). -/
def State.reckon (s : State) (g : SegNo) (d : SegDef) (ms : Nat) : State :=
  let r := s.run g
  let um := r.speed * ms
  (s.setRun g { r with residue := travelResidue um r.residue }).handOn g d .reckoning (travelMm um r.residue)

/-- A part-interval from the timing reference to `tick`; one of 0 ms makes no interval (R32). -/
def State.reckonPart (s : State) (g : SegNo) (d : SegDef) (tick : Tick) : State :=
  let ms := since tick (s.run g).timingRef
  if ms = 0 then s else s.reckon g d ms

/-! ### Closes -/

/-- The open window is closed as a partial window (R19, R20). -/
def State.partialClose (s : State) (g : SegNo) (d : SegDef) (w : MeasWindow) : State :=
  let r := s.run g
  let um := w.drive * d.driveCal
  (s.setRun g { r with window := none, residue := travelResidue um r.residue, partialWindows := bump16 r.partialWindows
                       windowCount := bump16 r.windowCount }).handOn g d .partialWindow (travelMm um r.residue)

/-- The window is abandoned, or none is open (R19). -/
def State.abandonWindow (s : State) (g : SegNo) : State := s.setRun g { s.run g with window := none }

/-- The speed part of a full close: V, the speed-limit counter and flag, and the notice (R13, R14). -/
def SegRun.closeSpeed (r : SegRun) (d : SegDef) (v : Nat) : SegRun × List (NoticeKind × Nat) :=
  let V := speedAfter d r.speed v
  let r := { r with speed := V }
  if speedLimitHit d V v then
    ({ r with speedHits := bump16 r.speedHits, speedArmed := false },
     if r.speedArmed then [(.speedLimit, v)] else [])
  else if d.lowSpeed < V ∧ V < d.highSpeed then ({ r with speedArmed := true }, [])
  else (r, [])

/-- The slip alarm of a full close that computed the slip figure `slip` (R16). -/
def SegRun.closeSlipAlarm (r : SegRun) (d : SegDef) (slip : Nat) : SegRun × List (NoticeKind × Nat) :=
  if d.slipThreshold < slip then
    let run := satAdd 15 r.slipRun 1
    if d.slipRunCount ≤ run ∧ r.slipArmed then
      ({ r with slipRun := run, slipAlarms := bump16 r.slipAlarms, slipArmed := false }, [(.slipAlarm, slip)])
    else ({ r with slipRun := run }, [])
  else ({ r with slipRun := 0, slipArmed := true }, [])

/-- Whether a full close computes a slip figure (R12). -/
def computesSlip (d : SegDef) (idler : Nat) : Bool := d.idlerLine.isSome && decide (1 ≤ idler)

/-- The runtime record after the drive pulse at `tick` closed window `w`, its D now W; the notices posted before the close
is handed on; and travel_mm. The closing pulse opens the next window (R18). -/
def SegRun.fullClose (r : SegRun) (d : SegDef) (w : MeasWindow) (tick : Tick) :
    SegRun × List (NoticeKind × Nat) × Nat :=
  let td := w.drive * d.driveCal
  let travel := travelMm td r.residue
  let slip := if computesSlip d w.idler then slipOf td (w.idler * d.idlerCal) else r.slip
  let r := { r with residue := travelResidue td r.residue, slip := slip }
  let (r, speedNotes) := r.closeSpeed d (measuredSpeed td (since tick w.openTick))
  let r := { r with timeout := timeoutOf d r.speed }
  let (r, slipNotes) := if computesSlip d w.idler then r.closeSlipAlarm d slip else (r, [])
  ({ r with fullWindows := bump16 r.fullWindows, windowCount := bump16 r.windowCount
            window := some { openTick := tick, drive := 0, idler := 0 }, timingRef := tick },
   speedNotes ++ slipNotes, travel)

/-- A window is opened at `tick` (R10). -/
def State.openWindow (s : State) (g : SegNo) (tick : Tick) : State :=
  s.setRun g { s.run g with window := some { openTick := tick, drive := 0, idler := 0 }, timingRef := tick }

/-- An idler pulse at a segment: counted in the open window, or discarded (R10). -/
def State.idlerPulse (s : State) (g : SegNo) : State :=
  let r := s.run g
  match r.window with
  | some w => s.setRun g { r with window := some { w with idler := bump16 w.idler } }
  | none => s

end Sys2Proof.Machine
end

