-- ==== Sys2Proof/Machine/Supervision.lean ====
section
/-! DEFINITION. Segment supervision (02): drive pulses, timer expiries, run events, rearming and the entry to SETUP; the
meanings of SEGMENT_TIMER_EXPIRY and SEGMENT_REARM. -/

namespace Sys2Proof.Machine

/-- The filtered level of a segment's run line is ACTIVE. -/
def State.runLineActive (s : State) (d : SegDef) : Bool :=
  match d.runLine with
  | some l => (s.line l).level = .active
  | none => false

/-- The segment's timer runs (R24). -/
def State.timerRuns (s : State) (g : SegNo) : Bool :=
  match (s.run g).supervision with
  | .acquire | .track | .idlerLost | .driveLost => true
  | .failed => match s.defn g with
    | some d => s.runLineActive d
    | none => false
  | .off | .stopped => false

/-- The segment enters a supervision state at `tick`, which becomes its timing reference (R19, R24, R37; at a run-off to a
state whose timer does not run: DEDUCED, log 12). -/
def State.enter (s : State) (g : SegNo) (state : Supervision) (tick : Tick) : State :=
  s.setRun g { s.run g with supervision := state, timingRef := tick }

/-! ### Drive pulses -/

/-- The supervision state machine's reaction to a full close whose window had idler count `idler` (R27, R29, R30, R34). -/
def State.afterFullClose (s : State) (g : SegNo) (d : SegDef) (idler : Nat) : State :=
  let r := s.run g
  match r.supervision with
  | .acquire => s.setRun g { r with supervision := .track }
  | .track =>
    if d.idlerLine.isSome ∧ idler = 0 then
      (s.setRun g { r with supervision := .idlerLost }).post .segIdlerLost g.val r.slip
    else s
  | .idlerLost =>
    if 1 ≤ idler then (s.setRun g { r with supervision := .track }).post .segRecovered g.val 0 else s
  | .driveLost =>
    (s.setRun g { r with supervision := .track, intervals := 0 }).post .segRecovered g.val r.intervals
  | .off | .stopped | .failed => s

/-- A drive pulse counts in the open window, and closes it in full when it brings D to W (R10, R18). -/
def State.countPulse (s : State) (g : SegNo) (d : SegDef) (w : MeasWindow) : State :=
  let r := s.run g
  let w := { w with drive := w.drive + 1 }
  if w.drive < d.windowSize then s.setRun g { r with window := some w }
  else
    let (r, notes, travel) := r.fullClose d w s.etm.tick
    (((s.setRun g r).postAll g.val notes).handOn g d .fullWindow travel).afterFullClose g d w.idler

/-- A drive pulse at a segment, by its supervision state (R10, R24, R26, R34, R35). -/
def State.drivePulse (s : State) (g : SegNo) (d : SegDef) : State :=
  let r := s.run g
  match r.supervision with
  | .off => s
  | .stopped =>
    if d.runLine.isNone || s.runLineActive d then
      (s.setRun g { r with supervision := .acquire, attemptsLeft := d.acquireAttempts }).openWindow g s.etm.tick
    else s
  | .acquire | .track | .idlerLost =>
    match r.window with
    | some w => s.countPulse g d w
    | none => s.openWindow g s.etm.tick
  | .driveLost =>
    match r.window with
    | some w => s.countPulse g d w
    | none => (s.reckonPart g d s.etm.tick).openWindow g s.etm.tick
  | .failed => s.setRun g { r with pulsesIgnored := bump16 r.pulsesIgnored }

/-! ### Expiries -/

/-- DRIVE_LOST passes on to FAILED when the interval count has reached the loss limit (R31, R33). -/
def State.checkLossLimit (s : State) (g : SegNo) (d : SegDef) : State :=
  let r := s.run g
  if d.lossLimit ≤ r.intervals then (s.setRun g { r with supervision := .failed }).post .segFailed g.val r.intervals
  else s

/-- A full reckoning interval ends, and the interval count becomes `count` (R31, R33, R35). -/
def State.fullInterval (s : State) (g : SegNo) (d : SegDef) (count : Nat) : State :=
  let s := s.reckon g d (s.run g).timeout
  s.setRun g { s.run g with intervals := count }

/-- The reaction to an empty expiry, its window abandoned and the timing reference at the expiry tick (R28, R31, R33,
R35). -/
def State.emptyExpiry (s : State) (g : SegNo) (d : SegDef) : State :=
  let r := s.run g
  match r.supervision with
  | .acquire =>
    if d.runLine.isNone then s.setRun g { r with supervision := .stopped }
    else if 1 < r.attemptsLeft then s.setRun g { r with attemptsLeft := r.attemptsLeft - 1 }
    else
      (s.setRun g { r with attemptsLeft := 0, supervision := .driveLost, intervals := 0 }).post .segLost g.val r.speed
  | .track | .idlerLost =>
    if d.runLine.isNone then s.setRun g { r with supervision := .stopped }
    else
      (((s.setRun g { r with supervision := .driveLost, intervals := 0 }).post .segLost g.val r.speed).fullInterval
        g d 1).checkLossLimit g d
  | .driveLost => (s.fullInterval g d (satAdd Config.max8 r.intervals 1)).checkLossLimit g d
  | .failed => s.fullInterval g d (satAdd Config.max8 r.intervals 1)
  | .off | .stopped => s

/-- The tick at which a segment's timer expires: timeout milliseconds after the timing reference (R19). -/
def SegRun.expiryTick (r : SegRun) : Tick := r.timingRef + BitVec.ofNat 32 r.timeout

/-- The segment's timer expires (R19). -/
def State.expire (s : State) (g : SegNo) (d : SegDef) : State :=
  let r := s.run g
  let s := s.setRun g { r with timeouts := bump16 r.timeouts, timingRef := r.expiryTick }
  match r.window with
  | some w => if 1 ≤ w.drive then s.partialClose g d w else (s.abandonWindow g).emptyExpiry g d
  | none => s.emptyExpiry g d

/-- The timer runs, and timeout milliseconds have passed since the timing reference (R19, R24). -/
def State.expiryDue (s : State) (g : SegNo) : Bool :=
  s.timerRuns g && decide ((s.run g).timeout ≤ since s.etm.tick (s.run g).timingRef)

/-- SEGMENT_TIMER_EXPIRY (R19): taken when the expiry is due; otherwise no expiry occurs (log 4). -/
def execSegmentTimerExpiry (g : SegNo) (s : State) : Host.Outcome State Fault Refusal :=
  match s.defn g with
  | some d => .next (if s.expiryDue g then s.expire g d else s)
  | none => .next s

/-! ### Run events -/

/-- A run-on event at a segment (R26, R35, R36). -/
def State.runOn (s : State) (g : SegNo) (d : SegDef) : State :=
  let r := s.run g
  match r.supervision with
  | .stopped =>
    s.setRun g { r with supervision := .acquire, attemptsLeft := d.acquireAttempts, timingRef := s.etm.tick }
  | .failed => s.setRun g { r with timingRef := s.etm.tick }
  | .off | .acquire | .track | .idlerLost | .driveLost => s

/-- The open window is closed as a partial window if it counted a pulse; otherwise it is abandoned, and, where `reckons`,
the part-interval to `tick` is reckoned (R20, R36, R38). -/
def State.closeOnBehalf (s : State) (g : SegNo) (d : SegDef) (tick : Tick) (reckons : Bool) : State :=
  let without := if reckons then (s.abandonWindow g).reckonPart g d tick else s.abandonWindow g
  match (s.run g).window with
  | some w => if 1 ≤ w.drive then s.partialClose g d w else without
  | none => without

/-- A run-off event at a segment (R35, R36). -/
def State.runOff (s : State) (g : SegNo) (d : SegDef) : State :=
  let tick := s.etm.tick
  match (s.run g).supervision with
  | .off | .stopped => s
  | .acquire | .track | .idlerLost => (s.closeOnBehalf g d tick false).enter g .stopped tick
  | .driveLost =>
    let s := (s.closeOnBehalf g d tick true).enter g .stopped tick
    s.setRun g { s.run g with intervals := 0 }
  | .failed => (s.reckonPart g d tick).enter g .failed tick

/-! ### Entry to SETUP (R38) and to COUNTING (R25) -/

/-- What the entry to SETUP at `tick` closes or reckons at a segment (R38). -/
def State.setupClose (s : State) (g : SegNo) (d : SegDef) (tick : Tick) : State :=
  match (s.run g).supervision with
  | .off | .stopped => s
  | .acquire | .track | .idlerLost => s.closeOnBehalf g d tick false
  | .driveLost => s.closeOnBehalf g d tick true
  | .failed => if s.runLineActive d then s.reckonPart g d tick else s

/-- The segment enters OFF, with attempts left 0 and interval count 0 (R23, R38); every other field stands (R8). -/
def State.enterOff (s : State) (g : SegNo) : State :=
  s.setRun g { s.run g with supervision := .off, attemptsLeft := 0, intervals := 0 }

/-- A segment is taken at the entry to SETUP (R38). -/
def State.setupSegment (tick : Tick) (s : State) (g : SegNo) : State :=
  match s.defn g with
  | some d => (s.setupClose g d tick).enterOff g
  | none => s.enterOff g

/-- A defined segment passes to STOPPED at the change to COUNTING (R25). -/
def State.enterCounting (s : State) (g : SegNo) : State :=
  match s.defn g with
  | some _ =>
    let s := s.enter g .stopped s.etm.tick
    s.setRun g { s.run g with attemptsLeft := 0, intervals := 0 }
  | none => s

/-! ### SEGMENT_REARM (R37) -/

/-- A FAILED segment is rearmed (R37). -/
def State.rearm (s : State) (g : SegNo) : State :=
  match s.defn g with
  | none => s
  | some d =>
    if (s.run g).supervision = .failed then
      let s := if s.runLineActive d then s.reckonPart g d s.etm.tick else s
      let s := s.enter g .stopped s.etm.tick
      s.setRun g { s.run g with intervals := 0 }
    else s

/-- SEGMENT_REARM (R37). -/
def execSegmentRearm (segment : Byte) (s : State) : Host.Outcome State Fault Refusal :=
  match segmentOf segment with
  | none => .next (s.answer .segmentRearm .badValue [])
  | some g => .next ((s.rearm g).answer .segmentRearm .ok [])

end Sys2Proof.Machine
end

