-- ==== Sys2Proof/Machine/SenseLines.lean ====
section
/-! DEFINITION. The SIU (01 section 1.1): sampling and filtering, accepted transitions and where their events go; the meanings
of SAMPLE, ACCEPTED_TRANSITION, LINE_SET and LINE_STATUS. -/

namespace Sys2Proof.Machine

/-- The other level. -/
def Level.flip : Level → Level
  | .active => .inactive | .inactive => .active

/-- A raw level converted by the polarity (R2). -/
def Polarity.convert (p : Polarity) (high : Bool) : Level :=
  match p, high with
  | .activeHigh, true => .active
  | .activeHigh, false => .inactive
  | .activeLow, true => .inactive
  | .activeLow, false => .active

/-- The pins with line `l` driven so that it reads `level` under `p`. -/
def setPin (pins : BitVec 32) (l : LineNo) (p : Polarity) (level : Level) : BitVec 32 :=
  if p.convert true = level then pins ||| (1#32 <<< l.val) else pins &&& ~~~(1#32 <<< l.val)

/-! ### Delivery of events (R4) -/

/-- A pulse event of line `l` at segment `g`: a drive pulse, or an idler pulse, by the definition (R4). -/
def State.pulseAt (l : LineNo) (s : State) (g : SegNo) : State :=
  match s.defn g with
  | some d =>
    let s := if d.driveLine = l then s.drivePulse g d else s
    if d.idlerLine = some l then s.idlerPulse g else s
  | none => s

/-- A run event of line `l` at segment `g` (R4). -/
def State.runAt (l : LineNo) (turnedOn : Bool) (s : State) (g : SegNo) : State :=
  match s.defn g with
  | some d => if d.runLine = some l then (if turnedOn then s.runOn g d else s.runOff g d) else s
  | none => s

/-- The defined segments that pass a test of their definition, in the order they are taken. -/
def State.segmentsThat (s : State) (test : SegDef → Bool) : List SegNo :=
  arrange s.arbiter.segments <| allSegments.filter fun g => match s.defn g with
    | some d => test d
    | none => false

/-- A pulse event goes to each segment whose drive or idler line this is (R4). -/
def State.pulseEvent (s : State) (l : LineNo) : State :=
  (s.segmentsThat fun d => d.driveLine = l || d.idlerLine = some l).foldl (State.pulseAt l) s

/-- A run event goes to each segment whose run line this is (R4). -/
def State.runEvent (s : State) (l : LineNo) (turnedOn : Bool) : State :=
  (s.segmentsThat fun d => d.runLine = some l).foldl (State.runAt l turnedOn) s

/-- The event of a transition to `level` at line `l`, by its role (R3, R4). -/
def State.lineEvent (s : State) (l : LineNo) (level : Level) : State :=
  match (s.line l).role, level with
  | .unused, _ => s
  | .pulse, .active => s.pulseEvent l
  | .pulse, .inactive => s
  | .gate, .active => s.gateEvent l
  | .gate, .inactive => s
  | .run, .active => s.runEvent l true
  | .run, .inactive => s.runEvent l false

/-- The filter accepts the level the line did not show: the change flag is set and the event delivered (R2, R3). The pin
shows that level (DEDUCED, log 9). -/
def State.acceptTransition (s : State) (l : LineNo) : State :=
  let x := s.line l
  let level := x.level.flip
  let s := s.setLine l { x with level := level, runCount := 0, changed := true }
  let s := { s with siu := { s.siu with pins := setPin s.siu.pins l x.polarity level } }
  s.lineEvent l level

/-- ACCEPTED_TRANSITION (R2, R3): the sender says that the filter has accepted the other level (log 5). -/
def execAcceptedTransition (l : LineNo) (s : State) : Host.Outcome State Fault Refusal := .next (s.acceptTransition l)

/-! ### SAMPLE (R1, R2) -/

/-- The level that a sample shows at a line. -/
def Line.sampled (x : Line) (raw : BitVec 32) (l : LineNo) : Level := x.polarity.convert (raw.getLsbD l.val)

/-- The line's first level after a reset (R1). -/
def Line.takeFirst (x : Line) (raw : BitVec 32) (l : LineNo) : Line :=
  { x with level := x.sampled raw l, runCount := 0 }

/-- The sample differs for the (f+1)-th time in a row, so the new level is accepted (R2). -/
def Line.accepts (x : Line) (raw : BitVec 32) (l : LineNo) : Bool :=
  x.sampled raw l ≠ x.level && decide (x.filter + 1 ≤ x.runCount + 1)

/-- The run count after a sample (R2). -/
def Line.count (x : Line) (raw : BitVec 32) (l : LineNo) : Line :=
  if x.sampled raw l = x.level ∨ x.accepts raw l then { x with runCount := 0 } else { x with runCount := x.runCount + 1 }

/-- `s` with each line's record replaced by `f` of it. -/
def State.mapLines (s : State) (f : LineNo → Line → Line) : State :=
  { s with siu := { s.siu with lines := Vector.ofFn fun l => f l (s.line l) } }

/-- One sample of all 32 lines (R1, R2); lines accepted at one sample are taken one after another (log 5, log 6). -/
def State.sampleLines (s : State) (raw : BitVec 32) : State :=
  let s := { s with siu := { s.siu with pins := raw } }
  if s.siu.levelsTaken then
    let accepted := allLines.filter fun l => (s.line l).accepts raw l
    (arrange s.arbiter.lines accepted).foldl State.acceptTransition (s.mapLines fun l x => x.count raw l)
  else
    let s := s.mapLines fun l x => x.takeFirst raw l
    { s with siu := { s.siu with levelsTaken := true } }

/-- SAMPLE (R2). -/
def execSample (raw : BitVec 32) (s : State) : Host.Outcome State Fault Refusal := .next (s.sampleLines raw)

/-! ### LINE_SET and LINE_STATUS (R5, R6) -/

/-- The configuration that an acceptable LINE_SET gives its line (R6). -/
def lineConfig (line role polarity filter : Byte) : Option (LineNo × Role × Polarity) :=
  match lineOf line, roleOf role, polarityOf polarity with
  | some l, some r, some p => if filter.toNat ≤ 15 then some (l, r, p) else none
  | _, _, _ => none

/-- LINE_SET (R6). -/
def execLineSet (line role polarity filter : Byte) (s : State) : Host.Outcome State Fault Refusal :=
  match s.rqd.mode with
  | .counting => .next (s.answer .lineSet .wrongMode [])
  | .setup =>
    match lineConfig line role polarity filter with
    | none => .next (s.answer .lineSet .badValue [])
    | some (l, r, p) =>
      let x : Line :=
        { role := r, polarity := p, filter := filter.toNat, level := p.convert (s.siu.pins.getLsbD l.val)
          runCount := 0, changed := (s.line l).changed }
      .next ((s.setLine l x).answer .lineSet .ok [])

/-- The data of LINE_STATUS: the 32 filtered levels, then the 32 change flags (R5; DEDUCED, log 21). -/
def State.lineStatusData (s : State) : List Byte :=
  (allLines.flatMap fun l => be 1 (s.line l).level.code) ++ allLines.map fun l => flagByte (s.line l).changed

/-- LINE_STATUS (R5). -/
def execLineStatus (s : State) : Host.Outcome State Fault Refusal :=
  .next ((s.mapLines fun _ x => { x with changed := false }).answer .lineStatus .ok s.lineStatusData)

end Sys2Proof.Machine
end

