-- ==== Sys2Proof/Machine/Windows.lean ====
section
/-! DEFINITION. The SPL's maintenance windows and the window pattern (07): the order pool's shared operations, activation and
end at a boundary, generation; the meanings of the window and pattern requests. -/

namespace Sys2Proof.Machine

/-! ### The order pool and the windows' minutes (R106, R109, R123) -/

/-- The slot of a member's open order, if it has one (R106). -/
def State.slotOf (s : State) (n : MemberNo) : Option SlotNo :=
  allSlots.find? fun k => match s.slot k with
    | some o => o.member = n
    | none => false

/-- A member's open order, if it has one. -/
def State.orderOf (s : State) (n : MemberNo) : Option Order := (s.slotOf n).bind s.slot

/-- The lowest-numbered empty slot (R106). -/
def State.emptySlot (s : State) : Option SlotNo := allSlots.find? fun k => (s.slot k).isNone

/-- The number of orders in the pool. -/
def State.orderCount (s : State) : Nat := (allSlots.filter fun k => (s.slot k).isSome).length

/-- The window's used minutes changed by `f`, for the window of this tag. -/
def mapUsed (tag : Nat) (f : Nat → Nat) (ws : List MaintWindow) : List MaintWindow :=
  ws.map fun w => if w.tag = tag then { w with used := f w.used } else w

/-- A SCHEDULED order's minutes are subtracted from its window's used minutes; an order in another state leaves them as they
stand (R109, R123). -/
def State.returnMinutes (s : State) (o : Order) : State :=
  match o.state, o.tag with
  | .scheduled, some tag => s.setWindows (mapUsed tag (· - o.minutes) s.spl.windows)
  | _, _ => s

/-- Minutes are added to the used minutes of the window of this tag (R123). -/
def State.addMinutes (s : State) (tag minutes : Nat) : State :=
  s.setWindows (mapUsed tag (· + minutes) s.spl.windows)

/-- An order back in PROPOSED: no tag, LATE and GANGED cleared (R107). -/
def Order.propose (o : Order) : Order := { o with state := .proposed, tag := none, late := false, ganged := false }

/-- The order leaves the pool, with the window effect of ORDER_CANCEL (R112). -/
def State.removeOrder (s : State) (k : SlotNo) (o : Order) : State := (s.setSlot k none).returnMinutes o

/-- A planning run is in flight (R137). -/
def Planner.running (p : Planner) : Bool := p.stage ≠ .idle

/-- The rerun flag is set, if a planning run is in flight (R141). -/
def State.requestRerun (s : State) : State :=
  if s.spl.planner.running then s.setPlanner { s.spl.planner with rerun := true } else s

/-! ### The window list (R123 to R125) -/

/-- The window's end epoch (R123). -/
def MaintWindow.endEpoch (w : MaintWindow) : Nat := w.start + w.length

/-- The window's free capacity (R123). -/
def MaintWindow.free (w : MaintWindow) : Nat := w.capacity - w.used

/-- A window entered at the place its start gives, behind any with the same start (R124). -/
def insertWindow (w : MaintWindow) : List MaintWindow → List MaintWindow
  | [] => [w]
  | x :: xs => if x.start ≤ w.start then x :: insertWindow w xs else w :: x :: xs

/-- The next tag: the smallest above the last one issued that no listed window uses, counting on from 255 to 1 (R125). -/
def nextTag (last : Nat) (ws : List MaintWindow) : Nat :=
  (((List.range 255).map fun k => (last + k) % 255 + 1).find? fun t => ws.all fun w => w.tag ≠ t).getD 0

/-- A window enters the list, OPEN, with a new tag and no used minutes (R124, R125). -/
def State.listWindow (s : State) (start length capacity : Nat) (mask : BitVec 24) (source : WindowSource) : State :=
  let tag := nextTag s.spl.lastTag s.spl.windows
  let w : MaintWindow := { tag, start, length, capacity, used := 0, mask, source, state := .opened }
  { s with spl := { s.spl with windows := insertWindow w s.spl.windows, lastTag := tag } }

/-- The listed window of a tag. -/
def State.windowOf (s : State) (tag : Nat) : Option MaintWindow := s.spl.windows.find? (fun w => w.tag = tag)

/-- The slots whose orders pass a test, ascending. -/
def State.slotsThat (s : State) (test : Order → Bool) : List SlotNo :=
  allSlots.filter fun k => match s.slot k with
    | some o => test o
    | none => false

/-- The order of a slot, if any, replaced by `f` of it. -/
def State.mapSlot (f : Order → Order) (s : State) (k : SlotNo) : State := s.setSlot k ((s.slot k).map f)

/-! ### Activation and end (R129, R130) -/

/-- The window of this tag becomes ACTIVE. -/
def activateTag (tag : Nat) (ws : List MaintWindow) : List MaintWindow :=
  ws.map fun w => if w.tag = tag then { w with state := .active } else w

/-- One OPEN window whose start has come is activated at the boundary to epoch `n`; its SCHEDULED orders are released if its
end lies ahead (R129). -/
def State.activateWindow (n : Nat) (s : State) (w : MaintWindow) : State :=
  let s := s.setWindows (activateTag w.tag s.spl.windows)
  if n < w.endEpoch then
    let slots := s.slotsThat fun o => o.state = .scheduled && o.tag = some w.tag
    (slots.foldl (State.mapSlot fun o => { o with state := .released }) s).post .windowReleased w.tag slots.length
  else s

/-- Activation at the boundary to epoch `n`, in list order (R129). -/
def State.activateWindows (s : State) (n : Nat) : State :=
  (s.spl.windows.filter fun w => w.state = .opened && decide (w.start ≤ n)).foldl (State.activateWindow n) s

/-- An order returned to PROPOSED by its window's end, with its missed count increased and ORDER_MISSED posted (R130). -/
def State.missOrder (tag : Nat) (s : State) (k : SlotNo) : State :=
  match s.slot k with
  | none => s
  | some o =>
    let missed := satAdd 15 o.missed 1
    (s.setSlot k (some { o.propose with missed := missed })).post .orderMissed o.member.val (tag * 65536 + missed)

/-- The slots of the orders that a window's end returns (R130). -/
def State.slotsToMiss (s : State) (tag : Nat) : List SlotNo :=
  s.slotsThat fun o => (o.state = .released || o.state = .scheduled) && o.tag = some tag

/-- One window ends: its orders return, it leaves the list, and a run in flight is to be repeated if an order was returned
(R130, R152). -/
def State.endWindow (s : State) (w : MaintWindow) : State :=
  let slots := s.slotsToMiss w.tag
  let s := slots.foldl (State.missOrder w.tag) s
  let s := s.setWindows (s.spl.windows.filter fun x => x.tag ≠ w.tag)
  if slots.isEmpty then s else s.requestRerun

/-- Ends at the boundary to epoch `n`, in list order (R130). -/
def State.endWindows (s : State) (n : Nat) : State :=
  (s.spl.windows.filter fun w => decide (w.endEpoch ≤ n)).foldl State.endWindow s

/-! ### Generation (R135, R136) -/

/-- An attempt may make a step: RUNNING, below the fill level, with room in the list (R135). -/
def State.mayGenerate (s : State) : Bool :=
  s.spl.generator.state = .running
    && decide ((s.spl.windows.filter fun w => w.state = .opened).length < s.spl.planner.fillLevel)
    && decide (s.spl.windows.length < Config.windowCapacity)

/-- The end of a step: the wrap of the index, and the stop with PATTERN_END where rotation is off or, `stuck`, where every
later step would be skipped (R136, steps 4 and 5). -/
def State.endStep (s : State) (stuck : Bool) : State :=
  let x := s.spl.generator
  let wraps : Bool := x.index = x.templates.length
  let s := if wraps then (s.setGenerator { x with index := 0 }).post .patternWrap 0 x.lastStart else s
  if (wraps && !x.rotation) || stuck then
    (s.setGenerator { x with index := 0, state := .stopped }).post .patternEnd 0 x.lastStart
  else s

/-- One generation step with template `t`; also whether it added a window (R136). -/
def State.generateStep (s : State) (t : Template) : State × Bool :=
  let x := s.spl.generator
  let start := satAdd Config.max32 x.lastStart t.offset
  let s := s.setGenerator { x with lastStart := start, index := x.index + 1 }
  if start ≤ s.etm.epoch then
    let stuck := decide (Config.max32 < x.lastStart + t.offset) && decide (s.etm.epoch = Config.max32)
    ((s.post .windowSkipped 0 start).endStep stuck, false)
  else ((s.listWindow start t.length t.capacity t.mask .pattern).endStep false, true)

/-- Steps until one adds a window, a condition fails, or the generator stops; at most `fuel` (R135; DEDUCED, log 27). -/
def State.generateSteps : Nat → State → State
  | 0, s => s
  | fuel + 1, s =>
    if s.mayGenerate then
      match s.spl.generator.templates[s.spl.generator.index]? with
      | none => s
      | some t =>
        let (s', added) := s.generateStep t
        if added then s' else generateSteps fuel s'
    else s

/-- A generation attempt (R135). Each skipped step moves the last generated start on by at least 1, so the bound never cuts an
attempt short (log 27). -/
def State.generate (s : State) : State :=
  State.generateSteps (s.etm.epoch - s.spl.generator.lastStart + 1) s

/-! ### Window requests (R126 to R128) -/

/-- WINDOW_ADD (R126). -/
def execWindowAdd (start : BitVec 32) (length : Byte) (capacity : BitVec 16) (mask : BitVec 24) (s : State) :
    Host.Outcome State Fault Refusal :=
  if start.toNat ≤ s.etm.epoch ∨ length = 0 ∨ capacity = 0 ∨ mask = 0 then .next (s.answer .windowAdd .badValue [])
  else if s.spl.planner.running then .next (s.answer .windowAdd .busy [])
  else if Config.windowCapacity ≤ s.spl.windows.length then .next (s.answer .windowAdd .noRoom [])
  else
    let s := s.listWindow start.toNat length.toNat capacity.toNat mask .host
    .next (s.answer .windowAdd .ok (be 1 s.spl.lastTag ++ be 1 s.spl.windows.length))

/-- The window of this tag leaves the list, its SCHEDULED orders returned to PROPOSED; also how many there were (R127). -/
def State.removeWindow (s : State) (tag : Nat) : State × Nat :=
  let slots := s.slotsThat fun o => o.state = .scheduled && o.tag = some tag
  let s := slots.foldl (State.mapSlot Order.propose) s
  (s.setWindows (s.spl.windows.filter fun x => x.tag ≠ tag), slots.length)

/-- WINDOW_REMOVE (R127). The reply is built after the generation attempt, so its summary shows the attempt's notices (R160;
DESIGN CHOICE, log 38). -/
def execWindowRemove (tag : Byte) (s : State) : Host.Outcome State Fault Refusal :=
  if tag = 0 then .next (s.answer .windowRemove .badValue [])
  else if s.spl.planner.running then .next (s.answer .windowRemove .busy [])
  else
    match s.windowOf tag.toNat with
    | none => .next (s.answer .windowRemove .noSuch [])
    | some w =>
      match w.state with
      | .active => .next (s.answer .windowRemove .conflict (be 4 w.start ++ be 5 w.endEpoch))
      | .opened =>
        let (s, returned) := s.removeWindow tag.toNat
        .next ((s.generate).answer .windowRemove .ok (be 1 returned))

/-- The number of orders naming a window (R128). -/
def State.ordersNaming (s : State) (tag : Nat) : Nat := (s.slotsThat fun o => o.tag = some tag).length

/-- The data of WINDOW_READ LIST (R128). -/
def State.windowListData (s : State) : List Byte :=
  be 1 s.spl.windows.length ++ be 1 s.spl.lastTag ++ be 1 s.spl.planner.fillLevel
    ++ s.spl.windows.flatMap fun w => w.bytes ++ be 1 (s.ordersNaming w.tag)

/-- WINDOW_READ with selector LIST (R128). -/
def execWindowReadList (s : State) : Host.Outcome State Fault Refusal :=
  .next (s.answer .windowRead .ok s.windowListData)

/-- The data of WINDOW_READ PATTERN (R128). -/
def State.patternData (s : State) : List Byte :=
  s.spl.generator.bytes ++ s.spl.generator.templates.flatMap Template.bytes

/-- WINDOW_READ with selector PATTERN (R128). -/
def execWindowReadPattern (s : State) : Host.Outcome State Fault Refusal :=
  .next (s.answer .windowRead .ok s.patternData)

/-! ### Pattern requests (R132, R134) -/

/-- The templates that an acceptable PATTERN_LOAD stores: a count of 1–16 and that many templates in range (R132, R169). -/
def loadedTemplates (count : Byte) (templates : List TemplateRecord) : Option (List Template) :=
  if inRange 1 Config.templateCapacity count.toNat && templates.length = count.toNat then checkTemplates templates
  else none

/-- PATTERN_LOAD (R132). -/
def execPatternLoad (count : Byte) (templates : List TemplateRecord) (s : State) : Host.Outcome State Fault Refusal :=
  match loadedTemplates count templates with
  | none => .next (s.answer .patternLoad .badValue [])
  | some ts =>
    if s.spl.planner.running then .next (s.answer .patternLoad .busy [])
    else
      let x := { s.spl.generator with templates := ts, index := 0 }
      .next ((s.setGenerator x).answer .patternLoad .ok (be 1 ts.length ++ be 1 x.state.code))

/-- The generator record as PATTERN_CONTROL writes it (R134, steps 1 to 3). -/
def Generator.control (x : Generator) (enable rotation : Bool) (anchor : Nat) (reset : Bool) : Generator :=
  { x with
    rotation := rotation, anchor := anchor
    index := if reset then 0 else x.index
    lastStart := if reset then anchor else x.lastStart
    state := if enable then .running else .idle }

/-- PATTERN_CONTROL (R134). -/
def execPatternControl (enable rotation : Byte) (anchor : BitVec 32) (reset : Byte) (s : State) :
    Host.Outcome State Fault Refusal :=
  match onOffOf enable, onOffOf rotation, onOffOf reset with
  | some e, some r, some x =>
    if e ∧ s.spl.generator.templates = [] then .next (s.answer .patternControl .conflict [])
    else
      let s := (s.setGenerator (s.spl.generator.control e r anchor.toNat x)).generate
      .next (s.answer .patternControl .ok s.spl.generator.bytes)
  | _, _, _ => .next (s.answer .patternControl .badValue [])

end Sys2Proof.Machine
end

