-- ==== Sys2Proof/Machine/Epoch.lean ====
section
/-! DEFINITION. The ETM and the boundary (05), the entry to SETUP that a boundary may make (R172), the rate pass, and the
planning run's start by the projections-refreshed signal (R140); the meanings of TICK, LOCAL_BOUNDARY, GRACE_DEADLINE,
RATE_PASS_VISIT, PROJECTIONS_REFRESHED, EPOCH_SET and EPOCH_MARK. -/

namespace Sys2Proof.Machine

/-! ### What a boundary does (R95, R97, R98, R172) -/

/-- The RQD applies the pending epoch settings (R97). -/
def State.applySettings (s : State) : State :=
  match s.rqd.pendingSettings with
  | some e => { s with etm := { s.etm with settings := e }, rqd := { s.rqd with pendingSettings := none } }
  | none => s

/-- The pending change to SETUP is taken at the boundary at `tick` (R38, R172). -/
def State.enterSetup (s : State) (tick : Tick) : State :=
  let s := (arrange s.arbiter.segments allSegments).foldl (State.setupSegment tick) s
  let s := { s with rqd := { s.rqd with mode := .setup, pendingSetup := false } }
  s.post .modeChanged 0 s.etm.epoch

/-- The window count moved to the closing window count (R22). -/
def SegRun.moveCount (r : SegRun) : SegRun := { r with closingCount := r.windowCount, windowCount := 0 }

/-- The SMU moves every segment's window count (R22). -/
def State.moveCounts (s : State) : State :=
  { s with smu := { segments := s.smu.segments.map fun x => { x with run := x.run.moveCount } } }

/-- The epoch snapshot of one record (R98). -/
def Member.snapshot (m : Member) : Member :=
  if m.fresh then { m with epochWear := 0, fresh := false }
  else { m with closingWear := some m.epochWear, epochWear := 0 }

/-- The WAU takes the snapshot and begins its rate pass with the settings the boundary carries (R98, R100). A pass still in
flight is given up (DESIGN CHOICE, log 18). -/
def State.beginPass (s : State) (shift minWindows : Nat) : State :=
  { s with wau := { members := s.wau.members.map (·.map Member.snapshot), pass := some { next := 0, shift, minWindows } } }

/-- `s` with this share of a boundary still to be taken. -/
def State.setUntaken (s : State) (u : Option Untaken) : State := { s with etm := { s.etm with untaken := u } }

/-- The block that took its share of the last boundary late takes it (R95, R99): until then a close fell into the ending epoch
there, and into the new one at the other block (DESIGN CHOICE, log 33). -/
def State.settle (s : State) : State :=
  match s.etm.untaken with
  | none => s
  | some .smu => (s.setUntaken none).moveCounts
  | some (.wau shift minWindows) => (s.setUntaken none).beginPass shift minWindows

/-- The block that takes its share of the boundary to epoch `number` late, if either does (log 33). -/
def State.lagAt (s : State) (number : Nat) : Option AccountBlock := s.arbiter.lags.lookup number

/-- What the SMU and the WAU take from a boundary, each in its own right: one of them may leave its share for later (R22, R95,
R98, R99; DESIGN CHOICE, log 33). -/
def State.takeShares (s : State) (shift minWindows : Nat) : State :=
  match s.lagAt s.etm.epoch with
  | none => s.moveCounts.beginPass shift minWindows
  | some .smu => (s.beginPass shift minWindows).setUntaken (some .smu)
  | some .wau => s.moveCounts.setUntaken (some (.wau shift minWindows))

/-- What the RQD, the SMU and the WAU take from a boundary, the RQD first; the closes of an entry to SETUP belong to the ending
epoch at both blocks (R22, R97, R99, R172). -/
def State.closeAccounts (s : State) (shift minWindows : Nat) : State :=
  let s := s.applySettings
  if s.rqd.pendingSetup then
    (s.enterSetup s.etm.boundaryTick).moveCounts.beginPass shift minWindows
  else s.takeShares shift minWindows

/-- What the SPL takes from a boundary: activation, end, one generation attempt (07 section 7.3). -/
def State.tendWindows (s : State) : State :=
  ((s.activateWindows s.etm.epoch).endWindows s.etm.epoch).generate

/-- One part of a boundary; `missed` when the ETM took it for want of a mark (R94, R95). -/
def State.boundaryPart (shift minWindows : Nat) (missed : Bool) (s : State) (p : BoundaryPart) : State :=
  match p with
  | .markNotice => if missed then s.post .markMissed 0 s.etm.epoch else s
  | .accounts => s.closeAccounts shift minWindows
  | .planner => s.tendWindows

/-- The parts of a boundary (R95). -/
def boundaryParts : List BoundaryPart := [.markNotice, .accounts, .planner]

/-- A boundary to epoch `number` at `tick`, with the settings in force handed on to the rate pass; a share of the boundary
before is taken first (R95; log 33). The notices of each part stand together, with none of another part's between them (DESIGN
CHOICE, log 35). -/
def State.takeBoundary (s : State) (number : Nat) (tick : Tick) (missed : Bool) : State :=
  let carried := s.etm.settings
  let s := s.settle
  let s := { s with etm := { s.etm with epoch := number, boundaryTick := tick } }
  (arrange s.arbiter.boundary boundaryParts).foldl
    (State.boundaryPart carried.shift carried.minWindows missed) s

/-! ### When a boundary falls due (R91, R94) -/

/-- Ticks of an epoch of the settings' length (R91). -/
def EpochSettings.lengthTicks (e : EpochSettings) : Nat := e.length * Config.ticksPerMinute

/-- Ticks from a boundary to the one the ETM takes itself (R91, R94). -/
def EpochSettings.deadlineTicks (e : EpochSettings) : Nat :=
  match e.source with
  | .localClock => e.lengthTicks
  | .marked => e.lengthTicks + e.grace * Config.ticksPerSecond

/-- Ticks since the boundary tick. -/
def Etm.elapsed (e : Etm) : Nat := since e.tick e.boundaryTick

/-- The deadline has come (R91, R94). -/
def Etm.deadlineDue (e : Etm) : Bool := decide (e.settings.deadlineTicks ≤ e.elapsed)

/-- The number after the running one, saturating (R90). -/
def Etm.nextEpoch (e : Etm) : Nat := satAdd Config.max32 e.epoch 1

/-- The tick at which the deadline falls (R91, R94). -/
def Etm.deadlineTick (e : Etm) : Tick := e.boundaryTick + BitVec.ofNat 32 e.settings.deadlineTicks

/-- LOCAL_BOUNDARY (R91): taken with source LOCAL when the epoch length has passed; otherwise no boundary occurs (log 4). -/
def execLocalBoundary (s : State) : Host.Outcome State Fault Refusal :=
  .next <|
    if s.etm.settings.source = .localClock ∧ s.etm.deadlineDue then
      s.takeBoundary s.etm.nextEpoch s.etm.deadlineTick false
    else s

/-- GRACE_DEADLINE (R94): taken with source MARKED when the grace deadline has come; otherwise no boundary occurs (log 4). -/
def execGraceDeadline (s : State) : Host.Outcome State Fault Refusal :=
  .next <|
    if s.etm.settings.source = .marked ∧ s.etm.deadlineDue then
      s.takeBoundary s.etm.nextEpoch s.etm.deadlineTick true
    else s

/-- TICK (R89), at which a share of a boundary left untaken is taken (log 33). -/
def execTick (s : State) : Host.Outcome State Fault Refusal :=
  let s := s.settle
  .next { s with etm := { s.etm with tick := s.etm.tick + 1 } }

/-! ### EPOCH_SET and EPOCH_MARK (R92, R93, R96, R97) -/

/-- The data of EPOCH_SET's reply: the settings in force and the pending ones (R97). -/
def State.epochSetData (s : State) : List Byte :=
  s.etm.settings.bytes
    ++ match s.rqd.pendingSettings with
      | some e => 1 :: e.bytes
      | none => 0 :: List.replicate 9 0

/-- An EPOCH_SET taken in SETUP: the settings are replaced, and the boundary is taken at once where the new deadline has
passed; it carries the new settings (R96; DEDUCED, log 20). -/
def State.replaceSettings (s : State) (e : EpochSettings) : State :=
  let s := { s with etm := { s.etm with settings := e } }
  if s.etm.deadlineDue then s.takeBoundary s.etm.nextEpoch s.etm.tick (e.source = .marked) else s

/-- EPOCH_SET (R96, R97). The reply's summary shows the notices of a boundary taken at once (R160; DESIGN CHOICE, log 38). -/
def execEpochSet (r : EpochRecord) (s : State) : Host.Outcome State Fault Refusal :=
  match checkEpoch r with
  | none => .next (s.answer .epochSet .badValue [])
  | some e =>
    match s.rqd.mode with
    | .setup =>
      let s := s.replaceSettings e
      .next (s.answer .epochSet .ok s.epochSetData)
    | .counting =>
      let s := { s with rqd := { s.rqd with pendingSettings := some e } }
      .next (s.answer .epochSet .deferred s.epochSetData)

/-- A mark is too early to cause a boundary, or the source is LOCAL (R91, R92). -/
def Etm.ignoresMark (e : Etm) : Bool :=
  e.settings.source = .localClock || decide (e.elapsed < e.settings.length * 30000)

/-- A mark carrying `number` is taken; also whether it caused a boundary (R91 to R93). -/
def State.takeMark (s : State) (number : Nat) : State × Bool :=
  if s.etm.ignoresMark then
    ({ s with etm := { s.etm with marksIgnored := bump16 s.etm.marksIgnored } }, false)
  else if s.etm.epoch < number then (s.takeBoundary number s.etm.tick false, true)
  else
    let s := { s with etm := { s.etm with markMismatches := bump16 s.etm.markMismatches } }
    (s.takeBoundary s.etm.nextEpoch s.etm.tick false, true)

/-- EPOCH_MARK (R92). The reply's summary shows the notices of the boundary (R160; DESIGN CHOICE, log 38). -/
def execEpochMark (via : Delivery) (number : BitVec 32) (s : State) : Host.Outcome State Fault Refusal :=
  let (s, caused) := s.takeMark number.toNat
  .next (s.answerVia via .epochMark .ok (flagByte caused :: be 4 s.etm.epoch))

/-! ### The rate pass (R100, R101, R104) -/

/-- The pass holds a member's rate (R100). -/
def State.holdsRate (s : State) (p : RatePass) (m : Member) (g : SegNo) : Bool :=
  m.held || (s.defn g).isNone || m.closingWear.isNone || decide ((s.run g).closingCount < p.minWindows)

/-- The member after the pass has visited it (R100, R101). -/
def State.visited (s : State) (p : RatePass) (m : Member) (g : SegNo) : Member :=
  let m := if s.holdsRate p m g then m else { m with rate := rateAfter m.rate (m.closingWear.getD 0) p.shift }
  if m.held then m else m.project s.etm.epoch

/-- The next record the pass visits, from `next` on: not FREE, with a segment (R100). -/
def State.nextVisit (s : State) (next : Nat) : Option MemberNo :=
  allMembers.find? fun n => decide (next ≤ n.val) && match s.member n with
    | some m => m.segment.isSome
    | none => false

/-- The pass visits record `n` (R100). -/
def State.visit (s : State) (p : RatePass) (n : MemberNo) : State :=
  match s.member n with
  | some m =>
    match m.segment with
    | some g => s.setMember n (some (s.visited p m g))
    | none => s
  | none => s

/-- `s` with the rate pass at record `next`. -/
def State.setPass (s : State) (p : Option RatePass) : State := { s with wau := { s.wau with pass := p } }

/-- RATE_PASS_VISIT (R100): the pass in flight visits the next record, or, when none is left, comes to its end (log 17);
with no pass in flight nothing is visited. A share of the boundary left untaken is taken first (log 33). -/
def execRatePassVisit (s : State) : Host.Outcome State Fault Refusal :=
  let s := s.settle
  match s.wau.pass with
  | none => .next s
  | some p =>
    match s.nextVisit p.next with
    | some n => .next ((s.visit p n).setPass (some { p with next := n.val + 1 }))
    | none => .next (s.setPass (some { p with next := 192 }))

/-- The pass has visited its last member (R105). -/
def State.passDone (s : State) : Bool :=
  match s.wau.pass with
  | some p => (s.nextVisit p.next).isNone
  | none => false

/-- A planning run starts: the horizons are copied, the sort list emptied and the counts zeroed (R137). -/
def Planner.start (p : Planner) : Planner :=
  { p with stage := .walk 0, runHorizon := p.horizon, runGangHorizon := p.gangHorizon, sortList := [], placed := 0
           late := 0, unplaced := 0, skipped := 0, leftUnplaced := [] }

/-- The SPL takes the projections-refreshed signal (R140). -/
def Planner.refreshed (p : Planner) : Planner :=
  if !p.autoPlan then p else if p.running then { p with rerun := true } else p.start

/-- PROJECTIONS_REFRESHED (R105, R140): given once the pass in flight has visited its last member; otherwise no signal is
given (log 17). A share of the boundary left untaken is taken first (log 33). -/
def execProjectionsRefreshed (s : State) : Host.Outcome State Fault Refusal :=
  let s := s.settle
  .next <| if s.passDone then (s.setPass none).setPlanner s.spl.planner.refreshed else s

end Sys2Proof.Machine
end

