-- ==== Sys2Proof/Machine/Orders.lean ====
section
/-! DEFINITION. The order requests (06): ORDER_RAISE, ORDER_START, ORDER_CANCEL, ORDER_READ and ORDER_LIST. -/

namespace Sys2Proof.Machine

/-- A new order in PROPOSED (R110, R144). -/
def newOrder (n : MemberNo) (reason : Reason) (due minutes epoch : Nat) : Order :=
  { member := n, reason, state := .proposed, due, tag := none, minutes, late := false, ganged := false, missed := 0
    created := epoch }

/-- ORDER_RAISE (R110). -/
def execOrderRaise (member : Byte) (due : BitVec 32) (s : State) : Host.Outcome State Fault Refusal :=
  match memberOf member with
  | none => .next (s.answer .orderRaise .badValue [])
  | some n =>
    if s.spl.planner.running then .next (s.answer .orderRaise .busy [])
    else
      match s.member n with
      | none => .next (s.answer .orderRaise .noSuch [])
      | some m =>
        match s.orderOf n with
        | some o => .next (s.answer .orderRaise .conflict (be 1 o.state.code ++ be 1 o.reason.code))
        | none =>
          match s.emptySlot with
          | none => .next (s.answer .orderRaise .noRoom [])
          | some k =>
            let o := newOrder n .host due.toNat m.minutes s.etm.epoch
            .next ((s.setSlot k (some o)).answer .orderRaise .ok (be 1 k.val ++ o.bytes))

/-- A member's open order with its slot. -/
def State.openOrder (s : State) (n : MemberNo) : Option (SlotNo × Order) :=
  match s.slotOf n with
  | some k => (s.slot k).map fun o => (k, o)
  | none => none

/-- ORDER_START (R111, R120). -/
def execOrderStart (member : Byte) (s : State) : Host.Outcome State Fault Refusal :=
  match memberOf member with
  | none => .next (s.answer .orderStart .badValue [])
  | some n =>
    match s.openOrder n with
    | none => .next (s.answer .orderStart .noSuch [])
    | some (k, o) =>
      if o.state = .inWork then .next (s.answer .orderStart .conflict [])
      else
        let o' := { o with state := .inWork, tag := none }
        let s := ((s.setSlot k (some o')).returnMinutes o).requestRerun
        .next (s.answer .orderStart .ok (o'.bytes ++ optFigure 1 o.tag))

/-- ORDER_CANCEL (R112, R120). -/
def execOrderCancel (member : Byte) (s : State) : Host.Outcome State Fault Refusal :=
  match memberOf member with
  | none => .next (s.answer .orderCancel .badValue [])
  | some n =>
    match s.openOrder n with
    | none => .next (s.answer .orderCancel .noSuch [])
    | some (k, o) => .next (((s.removeOrder k o).requestRerun).answer .orderCancel .ok (be 1 k.val ++ o.bytes))

/-- A member's open order is removed, if it has one (R113, R117). -/
def State.removeOrderOf (s : State) (n : MemberNo) : State :=
  match s.openOrder n with
  | some (k, o) => s.removeOrder k o
  | none => s

/-- ORDER_READ (R118). -/
def execOrderRead (member : Byte) (s : State) : Host.Outcome State Fault Refusal :=
  match memberOf member with
  | none => .next (s.answer .orderRead .badValue [])
  | some n =>
    match s.openOrder n with
    | none => .next (s.answer .orderRead .noSuch [])
    | some (k, o) => .next (s.answer .orderRead .ok (be 1 k.val ++ o.bytes))

/-- One slot of ORDER_LIST: a presence byte and an order record (R119, 11 section 11.6). -/
def slotBytes (o : Option Order) : List Byte :=
  match o with
  | some o => 1 :: o.bytes
  | none => 0 :: List.replicate 16 0

/-- The data of ORDER_LIST: the order count and the 8 slots of the page (R119). -/
def State.orderPage (s : State) (page : Nat) : List Byte :=
  be 1 s.orderCount ++ ((allSlots.drop (8 * page)).take 8).flatMap fun k => slotBytes (s.slot k)

/-- ORDER_LIST (R119). -/
def execOrderList (page : Byte) (s : State) : Host.Outcome State Fault Refusal :=
  if 5 < page.toNat then .next (s.answer .orderList .badValue [])
  else .next (s.answer .orderList .ok (s.orderPage page.toNat))

end Sys2Proof.Machine
end

