-- ==== Sys2Proof/Machine/Walk.lean ====
section
/-! DEFINITION. The member walk of a planning run (R143, R144): what PLAN_MEMBER_WALK does, and the visits that fall inside a
SERVICE_DONE (R121). -/

namespace Sys2Proof.Machine

/-- The reason that applies to a member at epoch `epoch` with horizon `horizon`, and the due epoch (R143). -/
def reasonFor (m : Member) (epoch horizon : Nat) : Option (Reason × Nat) :=
  if m.limit ≤ m.wear then some (.limit, epoch)
  else if m.warnLevel ≤ m.wear then some (.warn, m.projection.getD (satAdd Config.max32 epoch horizon))
  else
    match m.projection with
    | some p => if p ≤ epoch + horizon then some (.projected, p) else none
    | none => none

/-- The next record the walk visits, from `next` on: neither FREE nor held (R143). -/
def State.nextWalk (s : State) (next : Nat) : Option MemberNo :=
  allMembers.find? fun n => decide (next ≤ n.val) && match s.member n with
    | some m => !m.held
    | none => false

/-- The walk creates an order, or counts the member skipped for want of a slot (R144). -/
def State.walkCreate (s : State) (n : MemberNo) (m : Member) (reason : Reason) (due : Nat) : State :=
  match s.emptySlot with
  | some k => s.setSlot k (some (newOrder n reason due m.minutes s.etm.epoch))
  | none => s.setPlanner { s.spl.planner with skipped := s.spl.planner.skipped + 1 }

/-- The walk withdraws an order whose reason has lapsed (R144). -/
def State.withdraw (s : State) (k : SlotNo) (o : Order) : State :=
  (s.removeOrder k o).post .orderWithdrawn o.member.val o.due

/-- The walk acts on the member's open order (R144). -/
def State.walkMember (s : State) (n : MemberNo) (m : Member) : State :=
  match s.openOrder n, reasonFor m s.etm.epoch s.spl.planner.runHorizon with
  | none, some (reason, due) => s.walkCreate n m reason due
  | none, none => s
  | some (k, o), found =>
    if o.reason = .host then s
    else
      match found with
      | some (reason, due) => s.setSlot k (some { o with reason, due })
      | none => if o.state = .proposed ∨ o.state = .scheduled then s.withdraw k o else s

/-- `s` with the run at stage `st`. -/
def State.setStage (s : State) (st : Stage) : State := s.setPlanner { s.spl.planner with stage := st }

/-- The walk visits the next record from `next` on, or, when none is left, comes to its end (R143). -/
def State.walkStep (s : State) (next : Nat) : State :=
  match s.nextWalk next with
  | none => s.setStage (.walk 192)
  | some n =>
    match s.member n with
    | some m => (s.walkMember n m).setStage (.walk (n.val + 1))
    | none => s

/-- What PLAN_MEMBER_WALK does: the run's next visit, while it is in the walk (R143, R144). -/
def State.walkCommand (s : State) : State :=
  match s.spl.planner.stage with
  | .walk next => s.walkStep next
  | .idle | .takeBack _ | .copyMinutes _ | .sort | .placement _ | .ganging _ | .gangRollers _ _ _ _ => s

/-- As many visits of a member walk in flight, one after another (R121). -/
def State.walkVisits : Nat → State → State
  | 0, s => s
  | k + 1, s => State.walkVisits k s.walkCommand

end Sys2Proof.Machine
end

