-- ==== Sys2Proof/Machine/Members.lean ====
section
/-! DEFINITION. The member requests and the service reports (04 sections 4.2, 4.4, 4.6; 06 section 6.5). -/

namespace Sys2Proof.Machine

/-- The data of an optional projection (11 section 11.6). -/
def Member.projectionBytes (m : Member) : List Byte := optFigure 4 m.projection

/-! ### MEMBER_DEFINE (R65, R66) -/

/-- The BELT member bound to a segment, if there is one (R65). -/
def State.beltOf (s : State) (g : SegNo) : Option MemberNo :=
  allMembers.find? fun n => match s.member n with
    | some m => m.kind = .belt && m.segment = some g
    | none => false

/-- The record that an accepted MEMBER_DEFINE writes (R66). -/
def newMember (kind : MemberKind) (segment : Option SegNo) (r : MemberRecord) (epoch : Nat) : Member :=
  let wear := r.wear.toNat
  let limit := r.limit.toNat
  let level := warnLevelOf limit r.warn.toNat
  { state := namedState wear level limit, held := false, kind, segment, wear, residue := 0, limit, warn := r.warn.toNat
    warnLevel := level, kLoad := r.kLoad.toNat, kSlip := r.kSlip.toNat, minutes := r.minutes.toNat, rate := r.rate.toNat
    projection := projectionOf wear limit r.rate.toNat epoch, epochWear := 0, closingWear := none, deferred := 0
    lostWear := 0, reckonedWear := 0, unsavedWear := 0, checkpointArmed := true, overflowNoted := false, fresh := true
    serviceCount := 0, installedEpoch := epoch }

/-- The kind and segment that MEMBER_DEFINE's first check passes (R65). -/
def memberTarget (member : Byte) (r : MemberRecord) : Option (MemberNo × MemberKind × Option SegNo) :=
  match memberOf member, memberKindOf r.kind, optSegmentOf r.segment with
  | some n, some k, some g => if memberRangesOk r then some (n, k, g) else none
  | _, _, _ => none

/-- The BELT that stands in the way of defining a BELT at this segment (R65, check 3). -/
def State.beltConflict (s : State) (k : MemberKind) (g : Option SegNo) : Option MemberNo :=
  match k, g with
  | .belt, some g => s.beltOf g
  | _, _ => none

/-- MEMBER_DEFINE (R65, R66). -/
def execMemberDefine (member : Byte) (r : MemberRecord) (s : State) : Host.Outcome State Fault Refusal :=
  match memberTarget member r with
  | none => .next (s.answer .memberDefine .badValue [])
  | some (n, k, g) =>
    match s.member n with
    | some m => .next (s.answer .memberDefine .conflict (be 1 m.state.code))
    | none =>
      match s.beltConflict k g with
      | some b => .next (s.answer .memberDefine .conflict (be 1 b.val))
      | none =>
        let m := newMember k g r s.etm.epoch
        .next ((s.setMember n (some m)).answer .memberDefine .ok
          (be 1 m.state.code ++ be 5 m.warnLevel ++ m.projectionBytes))

/-! ### MEMBER_READ, MEMBER_HOLD, MEMBER_ADJUST, MEMBER_RELEASE (R78, R84, R85, R87) -/

/-- MEMBER_READ (R78). -/
def execMemberRead (member : Byte) (s : State) : Host.Outcome State Fault Refusal :=
  match memberOf member with
  | none => .next (s.answer .memberRead .badValue [])
  | some n =>
    match s.member n with
    | none => .next (s.answer .memberRead .noSuch [])
    | some m =>
      .next ((s.setMember n (some { m with unsavedWear := 0, checkpointArmed := true })).answer .memberRead .ok
        (m.bytes n))

/-- MEMBER_HOLD (R84). -/
def execMemberHold (member : Byte) (s : State) : Host.Outcome State Fault Refusal :=
  match memberOf member with
  | none => .next (s.answer .memberHold .badValue [])
  | some n =>
    match s.member n with
    | none => .next (s.answer .memberHold .noSuch [])
    | some m =>
      if m.held then .next (s.answer .memberHold .conflict [])
      else
        .next ((s.setMember n (some { m with held := true, deferred := 0, overflowNoted := false })).answer .memberHold
          .ok (be 5 m.wear))

/-- The present fields of a MEMBER_ADJUST written, the warn level recomputed if limit or warn ‰ is written (R63, R85). -/
def Member.adjust (m : Member) (r : AdjustRecord) : Member :=
  let limit := (r.limit.map (·.toNat)).getD m.limit
  let warn := (r.warn.map (·.toNat)).getD m.warn
  { m with
    wear := (r.wear.map (·.toNat)).getD m.wear, limit := limit, warn := warn
    warnLevel := if r.limit.isSome || r.warn.isSome then warnLevelOf limit warn else m.warnLevel
    kLoad := (r.kLoad.map (·.toNat)).getD m.kLoad, kSlip := (r.kSlip.map (·.toNat)).getD m.kSlip
    minutes := (r.minutes.map (·.toNat)).getD m.minutes, rate := (r.rate.map (·.toNat)).getD m.rate }

/-- A member is written after an evaluation: its notices are posted and its projection recomputed (R80, R103). -/
def State.writeEvaluated (s : State) (n : MemberNo) (e : Member × List (NoticeKind × Nat)) : State :=
  (s.setMember n (some (e.1.project s.etm.epoch))).postAll n.val e.2

/-- The member as `writeEvaluated` writes it, for the reply's data. -/
def State.evaluated (s : State) (e : Member × List (NoticeKind × Nat)) : Member := e.1.project s.etm.epoch

/-- MEMBER_ADJUST (R85). -/
def execMemberAdjust (member : Byte) (r : AdjustRecord) (s : State) : Host.Outcome State Fault Refusal :=
  match memberOf member with
  | none => .next (s.answer .memberAdjust .badValue [])
  | some n =>
    if !adjustRangesOk r then .next (s.answer .memberAdjust .badValue [])
    else
      match s.member n with
      | none => .next (s.answer .memberAdjust .noSuch [])
      | some m =>
        if !m.held then .next (s.answer .memberAdjust .notHeld [])
        else
          let e := (m.adjust r).evalFull
          let m' := s.evaluated e
          .next ((s.writeEvaluated n e).answer .memberAdjust .ok
            (be 1 m'.state.code ++ be 5 m'.warnLevel ++ m'.projectionBytes))

/-- The hold ended, its deferred amount added to the wear (R87). -/
def Member.release (m : Member) : Member :=
  { m with wear := satAdd Config.max40 m.wear m.deferred, deferred := 0, held := false }

/-- MEMBER_RELEASE (R87). -/
def execMemberRelease (member : Byte) (s : State) : Host.Outcome State Fault Refusal :=
  match memberOf member with
  | none => .next (s.answer .memberRelease .badValue [])
  | some n =>
    match s.member n with
    | none => .next (s.answer .memberRelease .noSuch [])
    | some m =>
      if !m.held then .next (s.answer .memberRelease .notHeld [])
      else
        let e := m.release.evalUpward
        let m' := s.evaluated e
        .next ((s.writeEvaluated n e).answer .memberRelease .ok
          (be 3 m.deferred ++ be 5 m'.wear ++ be 1 m'.state.code ++ m'.projectionBytes))

/-! ### MEMBER_RETIRE (R67, R113) -/

/-- The figures of MEMBER_RETIRE's reply (R67, steps 1 and 2). -/
def Member.retireBytes (m : Member) : List Byte :=
  be 5 m.wear ++ be 3 m.deferred ++ be 4 (satAdd Config.max32 m.lostWear m.deferred) ++ be 4 m.reckonedWear
    ++ be 4 m.unsavedWear ++ be 2 m.serviceCount ++ be 4 m.installedEpoch

/-- Whether an order was removed, and its state and reason (R113). -/
def retiredOrderBytes (o : Option Order) : List Byte :=
  match o with
  | some o => 1 :: be 1 o.state.code ++ be 1 o.reason.code
  | none => [0, 0, 0]

/-- MEMBER_RETIRE (R67, R113, R120). -/
def execMemberRetire (member : Byte) (s : State) : Host.Outcome State Fault Refusal :=
  match memberOf member with
  | none => .next (s.answer .memberRetire .badValue [])
  | some n =>
    match s.member n with
    | none => .next (s.answer .memberRetire .noSuch [])
    | some m =>
      let data := m.retireBytes ++ retiredOrderBytes (s.orderOf n)
      .next ((((s.removeOrderOf n).setMember n none).requestRerun).answer .memberRetire .ok data)

/-! ### SERVICE_DONE (R114 to R117) -/

/-- The record after a REPLACED report, before the evaluation (R115). -/
def Member.replaced (m : Member) (epoch : Nat) : Member :=
  { m with wear := 0, residue := 0, reckonedWear := 0, unsavedWear := 0, checkpointArmed := true
           serviceCount := bump16 m.serviceCount, installedEpoch := epoch }

/-- The record after an INSPECTED report, before the evaluation (R116). -/
def Member.inspected (m : Member) (newLimit : Option (BitVec 40)) : Member :=
  match newLimit with
  | some l => { m with limit := l.toNat, warnLevel := warnLevelOf l.toNat m.warn }
  | none => m

/-- Whether an order was removed, and its reason, state and missed count (R117). -/
def servedOrderBytes (o : Option Order) : List Byte :=
  match o with
  | some o => 1 :: be 1 o.reason.code ++ be 1 o.state.code ++ be 1 o.missed
  | none => [0, 0, 0, 0]

/-- The data of SERVICE_DONE's reply (R117). -/
def serviceBytes (outcome : Byte) (o : Option Order) (m : Member) : List Byte :=
  outcome :: servedOrderBytes o ++ be 5 m.wear ++ be 1 m.state.code ++ be 5 m.warnLevel ++ be 2 m.serviceCount
    ++ m.projectionBytes

/-- A service report is taken: the WAU writes and evaluates the record; the visits that a member walk in flight makes in
between; the SPL removes the open order, if the walk has left one; the projection is recomputed; and a run in flight is to be
repeated (R115 to R117, R120, R121; log 6). -/
def State.service (s : State) (n : MemberNo) (m : Member) (outcome : Byte) : State :=
  let e := m.evalFull
  let s := State.walkVisits s.arbiter.walkVisits ((s.setMember n (some e.1)).postAll n.val e.2)
  let m := e.1.project s.etm.epoch
  let data := serviceBytes outcome (s.orderOf n) m
  (((s.removeOrderOf n).setMember n (some m)).requestRerun).answer .serviceDone .ok data

/-- SERVICE_DONE with outcome REPLACED (R114, R115). -/
def execServiceDoneReplaced (member : Byte) (newLimit : Option (BitVec 40)) (s : State) :
    Host.Outcome State Fault Refusal :=
  match memberOf member with
  | none => .next (s.answer .serviceDone .badValue [])
  | some n =>
    if newLimit.isSome then .next (s.answer .serviceDone .badValue [])
    else
      match s.member n with
      | none => .next (s.answer .serviceDone .noSuch [])
      | some m =>
        if m.held then .next (s.answer .serviceDone .conflict [])
        else .next (s.service n (m.replaced s.etm.epoch) 1)

/-- The new limit given stands at or below the wear (R114, check 4). -/
def limitBelowWear (newLimit : Option (BitVec 40)) (wear : Nat) : Bool :=
  match newLimit with
  | some l => decide (l.toNat ≤ wear)
  | none => false

/-- SERVICE_DONE with outcome INSPECTED (R114, R116). -/
def execServiceDoneInspected (member : Byte) (newLimit : Option (BitVec 40)) (s : State) :
    Host.Outcome State Fault Refusal :=
  match memberOf member with
  | none => .next (s.answer .serviceDone .badValue [])
  | some n =>
    if !absentOr limitOk newLimit then .next (s.answer .serviceDone .badValue [])
    else
      match s.member n with
      | none => .next (s.answer .serviceDone .noSuch [])
      | some m =>
        if m.held then .next (s.answer .serviceDone .conflict [])
        else if limitBelowWear newLimit m.wear then .next (s.answer .serviceDone .badValue [])
        else .next (s.service n (m.inspected newLimit) 2)

end Sys2Proof.Machine
end

