-- ==== Sys2Proof/Machine/Planning.lean ====
section
/-! DEFINITION. The planning run (08): its stages as commands, PLAN_SET and PLAN_RUN. A stage's command that comes when the run
is not at that stage finds nothing to take, and the state stands (log 25). -/

namespace Sys2Proof.Machine

/-- PLAN_MEMBER_WALK (R143, R144). -/
def execPlanMemberWalk (s : State) : Host.Outcome State Fault Refusal := .next s.walkCommand

/-! ### The placement reset and the sort (R145, R146) -/

/-- The next slot whose order is in a state, from `next` on. -/
def State.nextSlotIn (s : State) (st : OrderState) (next : Nat) : Option SlotNo :=
  allSlots.find? fun k => decide (next ≤ k.val) && match s.slot k with
    | some o => o.state = st
    | none => false

/-- An order's minutes copied afresh from its member's service minutes (R145). -/
def State.copyMinutes (s : State) (o : Order) : Order :=
  { o with minutes := match s.member o.member with
      | some m => m.minutes
      | none => o.minutes }

/-- The minutes of the RELEASED orders naming a window (R145). -/
def State.releasedMinutes (s : State) (tag : Nat) : Nat :=
  (allSlots.map fun k => match s.slot k with
    | some o => if o.state = .released ∧ o.tag = some tag then o.minutes else 0
    | none => 0).sum

/-- Every window's used minutes set to those of the RELEASED orders naming it (R145). -/
def State.rebuildUsed (s : State) : State :=
  s.setWindows (s.spl.windows.map fun w => { w with used := s.releasedMinutes w.tag })

/-- The reset copies the minutes of the next PROPOSED order from slot `next` on; with none left it sets the windows' used
minutes, and the sort begins (R145). -/
def State.copyStep (s : State) (next : Nat) : State :=
  match s.nextSlotIn .proposed next with
  | some k => (s.mapSlot s.copyMinutes k).setStage (.copyMinutes (k.val + 1))
  | none => s.rebuildUsed.setStage .sort

/-- The reset takes back the next SCHEDULED order from slot `next` on; with none left it goes on to the minutes (R145). -/
def State.takeBackStep (s : State) (next : Nat) : State :=
  match s.nextSlotIn .scheduled next with
  | some k => (s.mapSlot Order.propose k).setStage (.takeBack (k.val + 1))
  | none => s.copyStep 0

/-- PLACEMENT_RESET (R145), once the walk has visited its last member: one order a command (log 25). -/
def execPlacementReset (s : State) : Host.Outcome State Fault Refusal :=
  match s.spl.planner.stage with
  | .walk next => .next (if (s.nextWalk next).isNone then s.takeBackStep 0 else s)
  | .takeBack next => .next (s.takeBackStep next)
  | .copyMinutes next => .next (s.copyStep next)
  | .idle | .sort | .placement _ | .ganging _ | .gangRollers _ _ _ _ => .next s

/-- The place of an order in the sort: due epoch, then BELT before ROLLER, then member number (R146). -/
def State.sortKey (s : State) (o : Order) : Nat × Nat × Nat :=
  (o.due, (match s.member o.member with
    | some m => m.kind.code
    | none => 2), o.member.val)

/-- The lexicographic order of sort keys. -/
def keyLe (a b : Nat × Nat × Nat) : Bool :=
  decide (a.1 < b.1) || (a.1 = b.1 && (decide (a.2.1 < b.2.1) || (a.2.1 = b.2.1 && decide (a.2.2 ≤ b.2.2))))

/-- An order put at its place in a sorted list. -/
def State.insertOrder (s : State) (o : Order) : List Order → List Order
  | [] => [o]
  | x :: xs => if keyLe (s.sortKey o) (s.sortKey x) then o :: x :: xs else x :: s.insertOrder o xs

/-- The PROPOSED orders of the pool, in the sort's order (R146). -/
def State.sortedOrders (s : State) : List Order :=
  (allSlots.filterMap fun k => (s.slot k).filter fun o => o.state = .proposed).foldr s.insertOrder []

/-- PLAN_SORT (R146). -/
def execPlanSort (s : State) : Host.Outcome State Fault Refusal :=
  match s.spl.planner.stage with
  | .sort =>
    .next (s.setPlanner { s.spl.planner with sortList := s.sortedOrders.map (·.member), stage := .placement 0 })
  | .idle | .walk _ | .takeBack _ | .copyMinutes _ | .placement _ | .ganging _ | .gangRollers _ _ _ _ => .next s

/-! ### Placement (R147, R148) -/

/-- A window that can take an order of `minutes` for segment `g` (R147). -/
def MaintWindow.takes (w : MaintWindow) (g : SegNo) (minutes : Nat) : Bool :=
  w.state = .opened && w.mask.getLsbD g.val && decide (minutes ≤ w.free)

/-- The window with the latest start, the nearest the head among equals. -/
def latest : List MaintWindow → Option MaintWindow
  | [] => none
  | w :: ws => match latest ws with
    | some x => if w.start < x.start then some x else some w
    | none => some w

/-- The window with the earliest start, the nearest the head among equals. -/
def earliest : List MaintWindow → Option MaintWindow
  | [] => none
  | w :: ws => match earliest ws with
    | some x => if x.start < w.start then some x else some w
    | none => some w

/-- The candidate windows of an order: those listed that can take it; none for a member bound to no segment (R147, R148). -/
def State.candidates (s : State) (o : Order) : List MaintWindow :=
  match (s.member o.member).bind (·.segment) with
  | some g => s.spl.windows.filter fun w => w.takes g o.minutes
  | none => []

/-- The window an order goes to, and whether it goes LATE (R147). -/
def State.chooseWindow (s : State) (o : Order) : Option (MaintWindow × Bool) :=
  let ws := s.candidates o
  match latest (ws.filter fun w => decide (w.start ≤ o.due)) with
  | some w => some (w, false)
  | none => (earliest ws).map fun w => (w, true)

/-- The order is placed in the window (R147). -/
def State.placeOrder (s : State) (k : SlotNo) (o : Order) (w : MaintWindow) (late : Bool) : State :=
  let s := (s.setSlot k (some { o with state := .scheduled, tag := some w.tag, late := late })).addMinutes w.tag o.minutes
  let p := s.spl.planner
  s.setPlanner { p with placed := p.placed + 1, late := p.late + late.toNat }

/-- The order is left unplaced (R148). -/
def State.leaveUnplaced (s : State) (o : Order) : State :=
  let p := s.spl.planner
  let s := s.setPlanner { p with unplaced := p.unplaced + 1, leftUnplaced := o.member :: p.leftUnplaced }
  if o.reason = .limit then s.post .dueUnplaced o.member.val o.minutes else s

/-- A member's order is placed, left unplaced, or passed over where it has left the pool or PROPOSED (R121, R147). -/
def State.placeMember (s : State) (n : MemberNo) : State :=
  match s.openOrder n with
  | none => s
  | some (k, o) =>
    if o.state = .proposed then
      match s.chooseWindow o with
      | some (w, late) => s.placeOrder k o w late
      | none => s.leaveUnplaced o
    else s

/-- ORDER_PLACEMENT (R147): the next order of the sort list. -/
def execOrderPlacement (s : State) : Host.Outcome State Fault Refusal :=
  match s.spl.planner.stage with
  | .placement i =>
    match s.spl.planner.sortList[i]? with
    | some n => .next ((s.placeMember n).setStage (.placement (i + 1)))
    | none => .next s
  | .idle | .walk _ | .takeBack _ | .copyMinutes _ | .sort | .ganging _ | .gangRollers _ _ _ _ => .next s

/-! ### Ganging (R149) -/

/-- A member that is a ROLLER bound to segment `g`. -/
def State.isRollerOf (s : State) (g : SegNo) (n : MemberNo) : Bool :=
  match s.member n with
  | some m => m.kind = .roller && m.segment = some g
  | none => false

/-- A roller's order may be moved into window `w` (R149), while that is still OPEN (R109; DEDUCED, log 32). -/
def State.gangs (s : State) (o : Order) (w : MaintWindow) : Bool :=
  w.state = .opened && ((o.state = .proposed && s.spl.planner.leftUnplaced.contains o.member)
    || (o.state = .scheduled && match o.tag.bind s.windowOf with
        | some x => decide (w.start < x.start)
        | none => false))
    && decide (o.due ≤ w.start + s.spl.planner.runGangHorizon) && decide (o.minutes ≤ w.free)

/-- The run counts after a move of an order into a window where it is LATE or not (R149). -/
def Planner.countMove (p : Planner) (o : Order) (late : Bool) : Planner :=
  let p := if o.state = .proposed then
      { p with unplaced := p.unplaced - 1, placed := p.placed + 1, leftUnplaced := p.leftUnplaced.erase o.member }
    else p
  { p with late := p.late + late.toNat - o.late.toNat }

/-- A roller's order is moved into window `w` (R149). -/
def State.gangOrder (s : State) (k : SlotNo) (o : Order) (w : MaintWindow) : State :=
  let late := decide (o.due < w.start)
  let s := (s.returnMinutes o).setSlot k
    (some { o with state := .scheduled, tag := some w.tag, ganged := true, late := late })
  let s := s.addMinutes w.tag o.minutes
  s.setPlanner (s.spl.planner.countMove o late)

/-- One roller is considered against the window of tag `tag`, read as it stands (R149). The belt's window is held by its tag:
where that window has ended since and the tag was issued again, the new window stands in its place, whatever its mask
(DEDUCED, log 32). -/
def State.gangMember (tag : Nat) (s : State) (n : MemberNo) : State :=
  match s.openOrder n, s.windowOf tag with
  | some (k, o), some w => if s.gangs o w then s.gangOrder k o w else s
  | _, _ => s

/-- The member is a BELT as its record stands. -/
def State.isBelt (s : State) (n : MemberNo) : Bool :=
  match s.member n with
  | some m => m.kind = .belt
  | none => false

/-- The place of the next BELT of the sort list, from place `i` on. -/
def State.nextBelt (s : State) (i : Nat) : Option Nat :=
  (List.range s.spl.planner.sortList.length).find? fun j => decide (i ≤ j) && match s.spl.planner.sortList[j]? with
    | some n => s.isBelt n
    | none => false

/-- The next order of a roller of segment `g`, by its member, from member `next` on (R149). -/
def State.nextRoller (s : State) (g : SegNo) (next : Nat) : Option MemberNo :=
  allMembers.find? fun n => decide (next ≤ n.val) && s.isRollerOf g n && (s.openOrder n).isSome

/-- The segment and the window tag of a BELT's order that is SCHEDULED; none where the order has left the pool or SCHEDULED
(R149). -/
def State.beltWindow (s : State) (n : MemberNo) : Option (SegNo × Nat) :=
  match s.openOrder n, (s.member n).bind (·.segment) with
  | some (_, o), some g => if o.state = .scheduled then o.tag.map fun tag => (g, tag) else none
  | _, _ => none

/-- The ganging stage takes the next BELT order of the sort list from place `i` on, with the window it names, or passes over
it; with none left the stage comes to its end (R149). -/
def State.gangStep (s : State) (i : Nat) : State :=
  match s.nextBelt i with
  | none => s.setStage (.ganging s.spl.planner.sortList.length)
  | some j =>
    match (s.spl.planner.sortList[j]?).bind s.beltWindow with
    | some (g, tag) => s.setStage (.gangRollers j g tag 0)
    | none => s.setStage (.ganging (j + 1))

/-- The ganging stage takes the next roller order of the belt at place `j`; with none left it goes on to the next BELT
(R149). -/
def State.gangRollerStep (s : State) (j : Nat) (g : SegNo) (tag next : Nat) : State :=
  match s.nextRoller g next with
  | some n => (State.gangMember tag s n).setStage (.gangRollers j g tag (n.val + 1))
  | none => s.gangStep (j + 1)

/-- Placement has taken the whole sort list, and ganging is not passed over (R149). -/
def Planner.gangingBegins (p : Planner) (place : Nat) : Bool :=
  decide (p.sortList.length ≤ place) && decide (0 < p.runGangHorizon)

/-- GANGING (R149): one BELT order, or one roller order of it, a command (log 25). -/
def execGanging (s : State) : Host.Outcome State Fault Refusal :=
  match s.spl.planner.stage with
  | .placement i => .next (if s.spl.planner.gangingBegins i then s.gangStep 0 else s)
  | .ganging i => .next (s.gangStep i)
  | .gangRollers j g tag next => .next (s.gangRollerStep j g tag next)
  | .idle | .walk _ | .takeBack _ | .copyMinutes _ | .sort => .next s

/-! ### The report (R141, R142, R150) -/

/-- The value of PLAN_DONE (R150). -/
def Planner.report (p : Planner) (abandoned : Bool) : Nat :=
  abandoned.toNat * 2 ^ 31 + p.placed * 2 ^ 24 + p.late * 2 ^ 16 + p.unplaced * 2 ^ 8 + p.skipped

/-- The run's stages before the report have finished (R143). -/
def State.reportDue (s : State) : Bool :=
  let p := s.spl.planner
  match p.stage with
  | .placement i => decide (p.sortList.length ≤ i) && (p.runGangHorizon = 0 || (s.nextBelt 0).isNone)
  | .ganging i => (s.nextBelt i).isNone
  | .gangRollers j g _ next => (s.nextRoller g next).isNone && (s.nextBelt (j + 1)).isNone
  | .idle | .walk _ | .takeBack _ | .copyMinutes _ | .sort => false

/-- The planner after a run completes: a rerun, or IDLE (R141). -/
def Planner.finish (p : Planner) : Planner :=
  if p.rerun then { p with rerun := false }.start else { p with stage := .idle }

/-- PLAN_DONE (R150), once ganging has finished or is passed over. -/
def execPlanDone (s : State) : Host.Outcome State Fault Refusal :=
  .next <|
    if s.reportDue then
      (s.setPlanner s.spl.planner.finish).post .planDone 0 (s.spl.planner.report false)
    else s

/-! ### PLAN_SET and PLAN_RUN (R138, R139) -/

/-- The data of PLAN_SET's reply (R138). -/
def Planner.bytes (p : Planner) : List Byte :=
  [flagByte p.autoPlan] ++ be 2 p.horizon ++ be 2 p.gangHorizon ++ be 1 p.fillLevel ++ [flagByte p.running, flagByte p.rerun]

/-- PLAN_SET (R138). The reply is built after the generation attempt, so its summary shows the attempt's notices (R160; DESIGN
CHOICE, log 38). -/
def execPlanSet (autoPlan : Byte) (horizon gangHorizon : BitVec 16) (fillLevel : Byte) (s : State) :
    Host.Outcome State Fault Refusal :=
  match onOffOf autoPlan with
  | none => .next (s.answer .planSet .badValue [])
  | some auto =>
    if horizon = 0 ∨ !inRange 1 8 fillLevel.toNat then .next (s.answer .planSet .badValue [])
    else
      let p := { s.spl.planner with
        autoPlan := auto, horizon := horizon.toNat, gangHorizon := gangHorizon.toNat, fillLevel := fillLevel.toNat }
      let s := (s.setPlanner p).generate
      .next (s.answer .planSet .ok s.spl.planner.bytes)

/-- PLAN_RUN (R139). The run's stages may follow as soon as the reply is built, PENDING or sent (DESIGN CHOICE, log 34). -/
def execPlanRun (s : State) : Host.Outcome State Fault Refusal :=
  if s.spl.planner.running then .next (s.answer .planRun .busy [])
  else .next ((s.setPlanner s.spl.planner.start).answer .planRun .accepted [])

end Sys2Proof.Machine
end

