-- ==== Sys2Proof/Machine/Requests.lean ====
section
/-! DEFINITION. The RQD's own requests (11), the segment requests (01 sections 1.2 and 1.6), and cold reset (R175). -/

namespace Sys2Proof.Machine

/-! ### COLD_RESET, UNKNOWN_KIND, IDENT and STATUS (R169, R175 to R177) -/

/-- The divisor after cold reset (R161). -/
def resetDivisor : Byte := 7

/-- COLD_RESET (R175), with the straps read as `straps`. -/
def execColdReset (straps : BitVec 5) (s : State) : Host.Outcome State Fault Refusal :=
  .next (s.resetWith straps (straps.setWidth 8 + 1) resetDivisor)

/-- UNKNOWN_KIND (R169, step 1). -/
def execUnknownKind (kind : Byte) (s : State) : Host.Outcome State Fault Refusal :=
  match ReqKind.ofCode kind with
  | none => .next (s.answerKind kind .unknownKind [])
  | some _ => .refused .illFormedCommand

/-- The data of IDENT (R176; sizes: DEDUCED, log 21). -/
def State.identData (s : State) : List Byte :=
  be 2 Config.partCode ++ be 1 Config.revision ++ [s.lnk.address] ++ be 1 32 ++ be 1 24 ++ be 1 192 ++ be 2 Config.itemPool
    ++ be 1 Config.arrivalCapacity ++ be 1 Config.transitCapacity ++ be 1 Config.orderCapacity ++ be 1 Config.windowCapacity
    ++ be 1 Config.templateCapacity ++ be 1 Config.noticeCapacity

/-- IDENT (R176). -/
def execIdent (s : State) : Host.Outcome State Fault Refusal := .next (s.answer .ident .ok s.identData)

/-- The number of members not FREE (R177). -/
def State.memberCount (s : State) : Nat := (allMembers.filter fun n => (s.member n).isSome).length

/-- The data of STATUS (R177). -/
def State.statusData (s : State) : List Byte :=
  be 1 s.rqd.mode.code ++ [flagByte s.rqd.pendingSetup, flagByte s.rqd.pendingSettings.isSome]
    ++ [flagByte s.spl.planner.running, flagByte s.spl.planner.rerun]
    ++ be 4 s.etm.epoch ++ be 4 s.etm.tick.toNat
    ++ be 2 s.itu.free ++ be 1 s.memberCount ++ be 1 s.orderCount ++ be 1 s.spl.windows.length
    ++ be 1 s.spl.generator.state.code ++ be 1 s.nq.lost

/-- STATUS (R177). -/
def execStatus (s : State) : Host.Outcome State Fault Refusal :=
  .next (State.answer { s with nq := { s.nq with lost := 0, lostBit := false } } .status .ok s.statusData)

/-! ### MODE (R170, R171) -/

/-- The data of MODE's reply: the mode in force and the pending SETUP change (R170). -/
def State.modeData (s : State) : List Byte := be 1 s.rqd.mode.code ++ [flagByte s.rqd.pendingSetup]

/-- `s` with this mode. -/
def State.setMode (s : State) (m : Mode) : State := { s with rqd := { s.rqd with mode := m } }

/-- `s` with the pending SETUP change as given. -/
def State.setPendingSetup (s : State) (b : Bool) : State := { s with rqd := { s.rqd with pendingSetup := b } }

/-- MODE SETUP (R170). -/
def execModeSetup (via : Delivery) (s : State) : Host.Outcome State Fault Refusal :=
  match s.rqd.mode with
  | .setup => .next (s.answerVia via .mode .ok s.modeData)
  | .counting =>
    let s := s.setPendingSetup true
    .next (s.answerVia via .mode .deferred s.modeData)

/-- A line, where one is given, does not have the role. -/
def State.lacksRole (s : State) (l : Option LineNo) (r : Role) : Bool :=
  match l with
  | some l => (s.line l).role ≠ r
  | none => false

/-- A gate, where one is given, is also that gate of a lower-numbered defined segment (R171). -/
def State.sharesGate (s : State) (g : SegNo) (gate : SegDef → Option LineNo) (l : Option LineNo) : Bool :=
  l.isSome && allSegments.any fun h => decide (h < g) && match s.defn h with
    | some e => gate e = l
    | none => false

/-- A successor, where one is given, is undefined. -/
def State.lacksSuccessor (s : State) (g : Option SegNo) : Bool :=
  match g with
  | some g => (s.defn g).isNone
  | none => false

/-- The reason code of the first test that fails at a segment, if any (R171). -/
def State.testFailed (s : State) (g : SegNo) (d : SegDef) : Option Nat :=
  if (s.line d.driveLine).role ≠ .pulse then some 1
  else if s.lacksRole d.idlerLine .pulse then some 2
  else if s.lacksRole d.entryGate .gate then some 3
  else if s.lacksRole d.exitGate .gate then some 4
  else if s.lacksRole d.runLine .run then some 5
  else if s.sharesGate g (·.entryGate) d.entryGate then some 6
  else if s.sharesGate g (·.exitGate) d.exitGate then some 7
  else if s.lacksSuccessor d.straight then some 8
  else if s.lacksSuccessor d.divert then some 9
  else none

/-- The first segment, ascending, that fails a test, with the reason code; none when the configuration passes (R171). -/
def State.validate (s : State) : Option (SegNo × Nat) :=
  allSegments.findSome? fun g => match s.defn g with
    | some d => (s.testFailed g d).map fun code => (g, code)
    | none => none

/-- The change to COUNTING: every defined segment passes to STOPPED (R25, R171). -/
def State.changeToCounting (s : State) : State := allSegments.foldl State.enterCounting (s.setMode .counting)

/-- MODE COUNTING (R170, R171). -/
def execModeCounting (via : Delivery) (s : State) : Host.Outcome State Fault Refusal :=
  match s.rqd.mode with
  | .counting =>
    let s := s.setPendingSetup false
    .next (s.answerVia via .mode .ok s.modeData)
  | .setup =>
    match s.validate with
    | some (g, code) => .next (s.answerVia via .mode .badValue (be 1 g.val ++ be 1 code))
    | none =>
      let s := s.changeToCounting
      .next (s.answerVia via .mode .ok s.modeData)

/-! ### RESTART (R173, R174) -/

/-- A segment's tracking record after RESTART TRACKING: its lists empty, the last load kept (R42, R173). -/
def Tracking.restart (t : Tracking) : Tracking := { Tracking.reset with lastLoad := t.lastLoad }

/-- A segment at RESTART TRACKING (R42, R173). -/
def State.restartTrack (s : State) (g : SegNo) : State := (s.flush g).setTrack g (s.track g).restart

/-- RESTART TRACKING (R173). -/
def execRestartTracking (via : Delivery) (s : State) : Host.Outcome State Fault Refusal :=
  .next ((allSegments.foldl State.restartTrack s).answerVia via .restart .ok [1])

/-- A run in flight is abandoned: the run's report is posted with the abandoned bit (R142). The sort list, the run counts and
the copies stand, as they do when a run completes (DESIGN CHOICE, log 36). -/
def State.abandonRun (s : State) : State :=
  let p := s.spl.planner
  if p.running then
    (s.setPlanner { p with stage := .idle, rerun := false }).post .planDone 0 (p.report true)
  else s.setPlanner { p with rerun := false }

/-- The plan after RESTART PLAN: no order, no window, the generator IDLE at index 0 (R106, R124, R133). -/
def State.clearPlan (s : State) : State :=
  { s with spl := { s.spl with
      orders := Vector.replicate 48 none, windows := [], lastTag := 0
      generator := { s.spl.generator with state := .idle, index := 0 } } }

/-- RESTART PLAN (R142, R173). The reply's summary shows PLAN_DONE (R160; DESIGN CHOICE, log 38). -/
def execRestartPlan (via : Delivery) (s : State) : Host.Outcome State Fault Refusal :=
  .next (((s.clearPlan).abandonRun).answerVia via .restart .ok [2])

/-- RESTART ALL (R174): an addressed one is taken at the end of its reply, a broadcast at once. -/
def execRestartAll (via : Delivery) (s : State) : Host.Outcome State Fault Refusal :=
  match via with
  | .addressed => .next ((s.setLnk { s.lnk with restartAtEnd := true }).answer .restart .ok [3])
  | .broadcast => .next s.restartAll

/-! ### SEGMENT_SET and SEGMENT_READ (R7, R9, R21) -/

/-- A segment's definition is stored or removed: its lists flushed, its tracking record and runtime record at their initial
values (R8, R9, R42). -/
def State.redefine (s : State) (g : SegNo) (defn : Option SegDef) : State :=
  ((s.flush g).setTrack g Tracking.reset).setSegment g { defn, run := (s.run g).initial defn s.etm.tick }

/-- SEGMENT_SET without the undefine option (R7, R9). -/
def execSegmentSet (segment : Byte) (massGiven : Bool) (r : SegmentRecord) (s : State) :
    Host.Outcome State Fault Refusal :=
  match s.rqd.mode with
  | .counting => .next (s.answer .segmentSet .wrongMode [])
  | .setup =>
    match segmentOf segment with
    | none => .next (s.answer .segmentSet .badValue [])
    | some g =>
      match checkSegment g massGiven r with
      | none => .next (s.answer .segmentSet .badValue [])
      | some d => .next ((s.redefine g (some d)).answer .segmentSet .ok [])

/-- SEGMENT_SET with the undefine option (R9); a segment that is undefined already stands (DEDUCED, log 11). -/
def execSegmentUndefine (segment : Byte) (s : State) : Host.Outcome State Fault Refusal :=
  match s.rqd.mode with
  | .counting => .next (s.answer .segmentSet .wrongMode [])
  | .setup =>
    match segmentOf segment with
    | none => .next (s.answer .segmentSet .badValue [])
    | some g =>
      match s.defn g with
      | none => .next (s.answer .segmentSet .ok [])
      | some _ => .next ((s.redefine g none).answer .segmentSet .ok [])

/-- The definition as SEGMENT_READ reports it (01 section 1.2, R21). -/
def defnBytes (d : Option SegDef) : List Byte :=
  match d with
  | some d => 1 :: d.bytes
  | none => 0 :: undefinedBytes

/-- The filtered level of the segment's run line, or absent (02 section 2.1). -/
def State.runLineByte (s : State) (g : SegNo) : Byte :=
  optByte (((s.defn g).bind (·.runLine)).map fun l => (s.line l).level.code)

/-- Whether a window is open, and its D and I (R21). -/
def windowBytes (w : Option MeasWindow) : List Byte :=
  match w with
  | some w => 1 :: be 2 w.drive ++ be 2 w.idler
  | none => [0, 0, 0, 0, 0]

/-- The data of SEGMENT_READ: the definition, the supervision figures, the measurement figures and counters, and the
tracking figures and counters (R21, R62, 02 section 2.1). -/
def State.segmentData (s : State) (g : SegNo) : List Byte :=
  let r := s.run g
  let t := s.track g
  defnBytes (s.defn g)
    ++ be 1 r.supervision.code ++ be 1 r.attemptsLeft ++ be 1 r.intervals ++ [flagByte (s.timerRuns g)]
    ++ be 4 r.timingRef.toNat ++ be 2 r.timeout ++ [s.runLineByte g]
    ++ be 2 r.speed ++ be 2 r.slip ++ be 2 r.residue ++ windowBytes r.window ++ be 2 r.windowCount ++ be 2 r.closingCount
    ++ [r.fullWindows, r.partialWindows, r.timeouts, r.slipAlarms, r.speedHits, r.pulsesIgnored].flatMap (be 2)
    ++ be 1 t.arrival.length ++ be 1 t.transit.length ++ be 3 t.massSum ++ be 2 t.lastLoad
    ++ [flagByte t.resync] ++ be 1 t.errors
    ++ [t.unannounced, t.phantom, t.stale, t.dropped, t.delivered, t.resyncs].flatMap (be 2)

/-- The six measurement counters at 0 (R21). -/
def SegRun.clearCounters (r : SegRun) : SegRun :=
  { r with fullWindows := 0, partialWindows := 0, timeouts := 0, slipAlarms := 0, speedHits := 0, pulsesIgnored := 0 }

/-- The six tracking counters at 0 (R21, R62). -/
def Tracking.clearCounters (t : Tracking) : Tracking :=
  { t with unannounced := 0, phantom := 0, stale := 0, dropped := 0, delivered := 0, resyncs := 0 }

/-- The twelve counters of a segment at 0 (R21). -/
def State.clearSegmentCounters (s : State) (g : SegNo) : State :=
  (s.setRun g (s.run g).clearCounters).setTrack g (s.track g).clearCounters

/-- SEGMENT_READ (R21, R62). -/
def execSegmentRead (segment : Byte) (clear : Bool) (s : State) : Host.Outcome State Fault Refusal :=
  match segmentOf segment with
  | none => .next (s.answer .segmentRead .badValue [])
  | some g =>
    .next ((if clear then s.clearSegmentCounters g else s).answer .segmentRead .ok (s.segmentData g))

end Sys2Proof.Machine
end

