-- ==== Sys2Proof/Machine/Dispatch.lean ====
section
/-! DEFINITION. One arm for each command, each one direct call of its meaning. -/

namespace Sys2Proof.Machine

/-- A command's effect on everything but the queue. -/
def exec (i : Instr) (s : State) : Host.Outcome State Fault Refusal :=
  match i with
  | .coldReset straps => Sys2Proof.Machine.execColdReset straps s
  | .acceptedTransition line => Sys2Proof.Machine.execAcceptedTransition line s
  | .segmentTimerExpiry segment => Sys2Proof.Machine.execSegmentTimerExpiry segment s
  | .localBoundary => Sys2Proof.Machine.execLocalBoundary s
  | .graceDeadline => Sys2Proof.Machine.execGraceDeadline s
  | .ratePassVisit => Sys2Proof.Machine.execRatePassVisit s
  | .projectionsRefreshed => Sys2Proof.Machine.execProjectionsRefreshed s
  | .planMemberWalk => Sys2Proof.Machine.execPlanMemberWalk s
  | .placementReset => Sys2Proof.Machine.execPlacementReset s
  | .planSort => Sys2Proof.Machine.execPlanSort s
  | .orderPlacement => Sys2Proof.Machine.execOrderPlacement s
  | .ganging => Sys2Proof.Machine.execGanging s
  | .planDone => Sys2Proof.Machine.execPlanDone s
  | .characterReceived start character stop => Sys2Proof.Machine.execCharacterReceived start character stop s
  | .gapLimitExpiry => Sys2Proof.Machine.execGapLimitExpiry s
  | .replyStart => Sys2Proof.Machine.execReplyStart s
  | .replyEnd => Sys2Proof.Machine.execReplyEnd s
  | .blankingEnd => Sys2Proof.Machine.execBlankingEnd s
  | .unknownKind kind => Sys2Proof.Machine.execUnknownKind kind s
  | .ident => Sys2Proof.Machine.execIdent s
  | .status => Sys2Proof.Machine.execStatus s
  | .modeSetup via => Sys2Proof.Machine.execModeSetup via s
  | .modeCounting via => Sys2Proof.Machine.execModeCounting via s
  | .restartTracking via => Sys2Proof.Machine.execRestartTracking via s
  | .restartPlan via => Sys2Proof.Machine.execRestartPlan via s
  | .restartAll via => Sys2Proof.Machine.execRestartAll via s
  | .linkSet divisor => Sys2Proof.Machine.execLinkSet divisor s
  | .counters => Sys2Proof.Machine.execCounters s
  | .epochSet fields => Sys2Proof.Machine.execEpochSet fields s
  | .epochMark via number => Sys2Proof.Machine.execEpochMark via number s
  | .lineSet line role polarity filter => Sys2Proof.Machine.execLineSet line role polarity filter s
  | .lineStatus => Sys2Proof.Machine.execLineStatus s
  | .segmentSet segment massGiven fields => Sys2Proof.Machine.execSegmentSet segment massGiven fields s
  | .segmentUndefine segment => Sys2Proof.Machine.execSegmentUndefine segment s
  | .segmentRead segment clear => Sys2Proof.Machine.execSegmentRead segment clear s
  | .segmentRearm segment => Sys2Proof.Machine.execSegmentRearm segment s
  | .itemAnnounce segment tag mass routeLength route => Sys2Proof.Machine.execItemAnnounce segment tag mass routeLength route s
  | .memberDefine member fields => Sys2Proof.Machine.execMemberDefine member fields s
  | .memberRead member => Sys2Proof.Machine.execMemberRead member s
  | .memberHold member => Sys2Proof.Machine.execMemberHold member s
  | .memberAdjust member fields => Sys2Proof.Machine.execMemberAdjust member fields s
  | .memberRelease member => Sys2Proof.Machine.execMemberRelease member s
  | .memberRetire member => Sys2Proof.Machine.execMemberRetire member s
  | .serviceDoneReplaced member newLimit => Sys2Proof.Machine.execServiceDoneReplaced member newLimit s
  | .serviceDoneInspected member newLimit => Sys2Proof.Machine.execServiceDoneInspected member newLimit s
  | .planSet autoPlan horizon gangHorizon fillLevel => Sys2Proof.Machine.execPlanSet autoPlan horizon gangHorizon fillLevel s
  | .planRun => Sys2Proof.Machine.execPlanRun s
  | .windowAdd start length capacity mask => Sys2Proof.Machine.execWindowAdd start length capacity mask s
  | .windowRemove tag => Sys2Proof.Machine.execWindowRemove tag s
  | .windowReadList => Sys2Proof.Machine.execWindowReadList s
  | .windowReadPattern => Sys2Proof.Machine.execWindowReadPattern s
  | .patternLoad count templates => Sys2Proof.Machine.execPatternLoad count templates s
  | .patternControl enable rotation anchor reset => Sys2Proof.Machine.execPatternControl enable rotation anchor reset s
  | .orderRead member => Sys2Proof.Machine.execOrderRead member s
  | .orderList page => Sys2Proof.Machine.execOrderList page s
  | .orderRaise member due => Sys2Proof.Machine.execOrderRaise member due s
  | .orderStart member => Sys2Proof.Machine.execOrderStart member s
  | .orderCancel member => Sys2Proof.Machine.execOrderCancel member s
  | .noticeTake => Sys2Proof.Machine.execNoticeTake s
  | .noticeMask settings => Sys2Proof.Machine.execNoticeMask settings s
  | .sample raw => Sys2Proof.Machine.execSample raw s
  | .tick => Sys2Proof.Machine.execTick s

end Sys2Proof.Machine
end

