-- ==== Sys2Proof/Machine/Serve.lean ====
section
/-! DEFINITION. What the part does while no command waits: the RQD takes the oldest frame handed over to it (R168, R169; log
3). -/

namespace Sys2Proof.Machine

/-- The reply BAD_VALUE to a frame that fails the RQD's own checks; a broadcast gets none (R169). -/
def State.answerFrame (s : State) (f : Frame) (status : Status) : State :=
  match f.delivery with
  | .addressed => s.answerKind f.kind status []
  | .broadcast => s.takeHanded

/-- The RQD takes a frame: its kind code, its payload length, then the request's own checks and effect (R169). -/
def serveFrame (f : Frame) (s : State) : Host.Outcome State Fault Refusal :=
  match decodeFrame f with
  | .run i => exec i s
  | .badValue => .next (s.answerFrame f .badValue)
  | .unknown => .next (s.answerFrame f .unknownKind)

/-- With no command waiting, the oldest handed-over frame is taken; with none, the block idles (DESIGN CHOICE, log 3). -/
def idle (s : State) : Host.Outcome State Fault Refusal :=
  match s.rqd.handed with
  | f :: _ => serveFrame f s
  | [] => .next s

end Sys2Proof.Machine
end

