-- ==== Sys2Proof/WellFormed.lean ====
section
/-! DEFINITION. The commands that a sender can give. Every operand of a request is a field of its payload at its full width,
so most commands are well-formed at every value; the two that are not are named here. -/

namespace Sys2Proof

/-- UNKNOWN_KIND's kind code names no request (R169, step 1). -/
def Instr.kindUndefined : Instr → Bool
  | .unknownKind k => (ReqKind.ofCode k).isNone
  | _ => true

/-- PATTERN_LOAD carries as many templates as its count says, 1 to 16 (R132, R169). -/
def Instr.templatesMatch : Instr → Bool
  | .patternLoad count ts => decide (1 ≤ count.toNat ∧ count.toNat ≤ 16 ∧ ts.length = count.toNat)
  | _ => true

/-- A command that a frame, a pin or the clock can give. -/
def Instr.wellFormed (i : Instr) : Bool := i.kindUndefined && i.templatesMatch

end Sys2Proof
end

