-- ==== Sys2Proof/Safety.lean ====
section
/-! DEFINITION. The terms that statements about the WA24 use: which blocks a step leaves alone, what an answer is, what a
boundary hands on, the state a reset leaves, and the invariants of the tables, lists, queues and the link. -/

namespace Sys2Proof

/-- The kind code of a request sent to this station; none for a broadcast and for a command that is no request. -/
def Instr.addressedKind (i : Instr) : Option Byte :=
  match i with
  | .unknownKind k => some k
  | _ => match encodeRequest i with
    | some (k, .addressed, _) => some k.code
    | _ => none

end Sys2Proof

namespace Sys2Proof.Machine

/-! ### Frames -/

/-- The nine blocks (00_scope.md, Block overview). -/
inductive Block where
  | siu | smu | itu | wau | etm | spl | nq | lnk | rqd
deriving DecidableEq, Repr

/-- Two states hold the same in a block. -/
def SameBlock (b : Block) (s t : State) : Prop :=
  match b with
  | .siu => t.siu = s.siu
  | .smu => t.smu = s.smu
  | .itu => t.itu = s.itu
  | .wau => t.wau = s.wau
  | .etm => t.etm = s.etm
  | .spl => t.spl = s.spl
  | .nq => t.nq = s.nq
  | .lnk => t.lnk = s.lnk
  | .rqd => t.rqd = s.rqd

/-- Every block but those named is unchanged, and so are the arbiter and the queue of commands. -/
def KeepsAllBut (bs : List Block) (s t : State) : Prop :=
  (∀ b, b ∉ bs → SameBlock b s t) ∧ t.arbiter = s.arbiter ∧ t.pending = s.pending

/-- Every SMU record but that of segment `g` is unchanged. -/
def KeepsOtherSegments (g : SegNo) (s t : State) : Prop := ∀ h, h ≠ g → t.segment h = s.segment h

/-- Every segment's lists and tracking record but that of `g` are unchanged. -/
def KeepsOtherTracks (g : SegNo) (s t : State) : Prop := ∀ h, h ≠ g → t.track h = s.track h

/-- Every member record but that of `n` is unchanged, and so is the rate pass. -/
def KeepsOtherMembers (n : MemberNo) (s t : State) : Prop :=
  (∀ m, m ≠ n → t.member m = s.member m) ∧ t.wau.pass = s.wau.pass

/-! ### Answers (R159, R168) -/

/-- The reply built for the LNK: PENDING, with the request's kind plus 0x80 and the summary of the NQ as it stands after the
request (R159, R164, R168). -/
def Lnk.withReply (k : Lnk) (kind : Byte) (status : Status) (attention : Attention) (data : List Byte) : Lnk :=
  { k with replyState := .pending, de := false, reply := some { kind := kind + 0x80, status, attention, data } }

/-- `t` is a state that an addressed request of kind code `k` leaves from `s`: answered with `status` and `data`, every block
outside `bs`, LNK and RQD unchanged, and the RQD as `q` with its oldest handed-over frame taken. -/
def AnswersAs (q : Rqd) (bs : List Block) (k : Byte) (status : Status) (data : List Byte) (s t : State) : Prop :=
  KeepsAllBut (.lnk :: .rqd :: bs) s t
    ∧ t.rqd = { q with handed := s.rqd.handed.tail }
    ∧ t.lnk = s.lnk.withReply k status t.nq.attention data

/-- The same, with nothing else of the RQD changed. -/
def Answers (bs : List Block) (k : Byte) (status : Status) (data : List Byte) (s t : State) : Prop :=
  AnswersAs s.rqd bs k status data s t

/-- A refused request: answered, and nothing changed in any block (R168). -/
def Refuses (k : Byte) (status : Status) (data : List Byte) (s t : State) : Prop := Answers [] k status data s t

/-- A request taken either way: answered if addressed; taken with no reply if broadcast (R169). -/
def AnswersVia (via : Delivery) (q : Rqd) (bs : List Block) (k : Byte) (status : Status) (data : List Byte)
    (s t : State) : Prop :=
  match via with
  | .addressed => AnswersAs q bs k status data s t
  | .broadcast => KeepsAllBut (.rqd :: bs) s t ∧ t.rqd = { q with handed := s.rqd.handed.tail }

/-- The statuses of refused requests (R168). -/
def Status.refuses : Status → Bool
  | .ok | .accepted | .deferred => false
  | .busy | .wrongMode | .badValue | .noRoom | .noSuch | .conflict | .notHeld | .unknownKind => true

/-! ### Reset (R174, R175) -/

/-- The state that a reset leaves, value by value, with this strap reading, station address and divisor. -/
structure ResetValues (straps : BitVec 5) (address divisor : Byte) (t : State) : Prop where
  lines : ∀ l, (t.line l).role = .unused ∧ (t.line l).polarity = .activeHigh ∧ (t.line l).filter = 3
    ∧ (t.line l).changed = false ∧ (t.line l).runCount = 0
  firstSample : t.siu.levelsTaken = false
  segments : ∀ g, t.defn g = none ∧ t.run g =
    { window := none, timingRef := 0, timeout := 60000, residue := 0, slip := 0, speed := 0, slipRun := 0
      slipArmed := true, speedArmed := true, fullWindows := 0, partialWindows := 0, timeouts := 0, slipAlarms := 0
      speedHits := 0, pulsesIgnored := 0, windowCount := 0, closingCount := 0, supervision := .off, attemptsLeft := 0
      intervals := 0 }
  free : t.itu.free = 384
  tracks : ∀ g, t.track g =
    { arrival := [], transit := [], resync := false, errors := 0, lastLoad := 0, unannounced := 0, phantom := 0
      stale := 0, dropped := 0, delivered := 0, resyncs := 0 }
  members : ∀ n, t.member n = none
  pass : t.wau.pass = none
  epoch : t.etm =
    { tick := 0, epoch := 0, boundaryTick := 0, marksIgnored := 0, markMismatches := 0, untaken := none
      settings := { length := 15, shift := 3, minWindows := 4, checkpoint := 0, source := .localClock, grace := 10 } }
  orders : ∀ k, t.slot k = none
  windows : t.spl.windows = [] ∧ t.spl.lastTag = 0
  generator : t.spl.generator =
    { state := .idle, rotation := false, anchor := 0, index := 0, lastStart := 0, templates := [] }
  planner : t.spl.planner.stage = .idle ∧ t.spl.planner.rerun = false ∧ t.spl.planner.autoPlan = false
    ∧ t.spl.planner.horizon = 672 ∧ t.spl.planner.gangHorizon = 0 ∧ t.spl.planner.fillLevel = 4
    ∧ t.spl.planner.sortList = [] ∧ t.spl.planner.placed = 0 ∧ t.spl.planner.late = 0 ∧ t.spl.planner.unplaced = 0
    ∧ t.spl.planner.skipped = 0
  notices : t.nq = { queue := [], mask := 0b11111, lost := 0, lostBit := false }
  link : t.lnk.straps = straps ∧ t.lnk.address = address ∧ t.lnk.divisor = divisor ∧ t.lnk.receiver = .idle
    ∧ t.lnk.buffer = [] ∧ t.lnk.replyState = .none ∧ t.lnk.reply = none ∧ t.lnk.de = false
    ∧ t.lnk.newDivisor = none ∧ t.lnk.restartAtEnd = false
    ∧ t.lnk.counters = { good := 0, crc := 0, framing := 0, gap := 0, oversize := 0, collisions := 0, discards := 0 }
  requests : t.rqd = { mode := .setup, pendingSetup := false, pendingSettings := none, handed := [] }

/-! ### Invariants -/

/-- The entries that stand in a segment's two lists. -/
def Tracking.count (t : Tracking) : Nat := t.arrival.length + t.transit.length

/-- Every item entry stands in exactly one place, and no list is over its capacity (R40, R41). -/
def PoolInv (s : State) : Prop :=
  s.itu.free + (allSegments.map fun g => (s.track g).count).sum = 384
    ∧ ∀ g, (s.track g).arrival.length ≤ 32 ∧ (s.track g).transit.length ≤ 64

/-- The queue holds at most 32 notices and never two of one kind and subject, every repeat count is 1–255, and the lost
counter at most 255 (R153, R154, R155). -/
def NoticeInv (q : Nq) : Prop :=
  q.queue.length ≤ 32 ∧ q.queue.Pairwise (fun a b => ¬ (a.kind = b.kind ∧ a.subject = b.subject))
    ∧ (∀ n ∈ q.queue, 1 ≤ n.repeats ∧ n.repeats ≤ 255) ∧ q.lost ≤ 255

/-- A segment definition in its ranges (01 section 1.2; the idler calibration without an idler line: log 10). -/
structure DefnOk (d : SegDef) : Prop where
  calibrations : (1 ≤ d.driveCal ∧ d.driveCal ≤ 65535) ∧ 1 ≤ d.idlerCal ∧ d.idlerCal ≤ 65535
  windowSize : 16 ≤ d.windowSize ∧ d.windowSize ≤ 4096
  speeds : 1 ≤ d.nominal ∧ d.nominal ≤ 20000 ∧ d.maxDeviation < d.nominal
  moves : d.deadband ≤ 20000 ∧ 1 ≤ d.step ∧ d.step ≤ 255
  supervision : (1 ≤ d.acquireAttempts ∧ d.acquireAttempts ≤ 15) ∧ 1 ≤ d.lossLimit ∧ d.lossLimit ≤ 255
  slip : d.slipThreshold ≤ 1000 ∧ 1 ≤ d.slipRunCount ∧ d.slipRunCount ≤ 15
  items : (1 ≤ d.length ∧ d.length ≤ 65535) ∧ d.fallbackLoad ≤ 1023 ∧ d.unannouncedMass ≤ 65535
    ∧ 1 ≤ d.resyncThreshold ∧ d.resyncThreshold ≤ 15

/-- A segment's runtime and supervision record in its ranges (R8, R21 to R23): V inside the band of its definition (R13); a
window open only in ACQUIRE, TRACK, IDLER_LOST and DRIVE_LOST, with D below W (R10, R18); an undefined segment in OFF with
no window and its initial V and timeout. -/
structure RunOk (defn : Option SegDef) (r : SegRun) : Prop where
  timeout : 20 ≤ r.timeout ∧ r.timeout ≤ 60000
  figures : r.residue < 1000 ∧ r.slip ≤ 1000 ∧ r.slipRun ≤ 15
  counters : ∀ x ∈ [r.fullWindows, r.partialWindows, r.timeouts, r.slipAlarms, r.speedHits, r.pulsesIgnored, r.windowCount,
    r.closingCount], x ≤ 65535
  supervised : r.attemptsLeft ≤ 15 ∧ r.intervals ≤ 255
  speed : ∀ d, defn = some d → d.nominal - d.maxDeviation ≤ r.speed ∧ r.speed ≤ min (d.nominal + d.maxDeviation) 20000
  window : ∀ w, r.window = some w → r.supervision ∈ [.acquire, .track, .idlerLost, .driveLost] ∧ w.idler ≤ 65535
    ∧ ∀ d, defn = some d → w.drive < d.windowSize
  undefined : defn = none → r.supervision = .off ∧ r.window = none ∧ r.speed = 0 ∧ r.timeout = 60000

/-- Every definition and every runtime record is in order; in SETUP every segment is in OFF, and in COUNTING no defined one is
(R23, R25, R38). -/
def SegmentInv (s : State) : Prop :=
  (∀ g d, s.defn g = some d → DefnOk d) ∧ (∀ g, RunOk (s.defn g) (s.run g))
    ∧ (s.rqd.mode = .setup → ∀ g, (s.run g).supervision = .off)
    ∧ (s.rqd.mode = .counting → ∀ g, (s.defn g).isSome → (s.run g).supervision ≠ .off)

/-- What holds of every member that is not FREE: the state is the named state (R83), deferred wear is 0 unless held (R84),
the warn level is that of its limit and warn ‰ (R63), closing wear is absent while the fresh mark is set (R98), and every
figure keeps the range of section 4.1 of chapter 4. -/
structure MemberOk (m : Member) : Prop where
  named : m.state = (if m.limit ≤ m.wear then .due else if m.warnLevel ≤ m.wear then .warn else .normal)
  notHeld : m.held = false → m.deferred = 0
  level : m.warnLevel = m.limit * m.warn / 1000
  fresh : m.fresh = true → m.closingWear = none
  wear : m.wear ≤ 2 ^ 40 - 1
  residue : m.residue < 2 ^ 20
  limit : 1000 ≤ m.limit ∧ m.limit ≤ 2 ^ 40 - 1
  warn : 500 ≤ m.warn ∧ m.warn ≤ 999
  factors : m.kLoad ≤ 255 ∧ m.kSlip ≤ 255
  minutes : 1 ≤ m.minutes ∧ m.minutes ≤ 600
  rate : m.rate ≤ 2 ^ 32 - 1
  epochWear : m.epochWear ≤ 2 ^ 32 - 1
  closingWear : ∀ x, m.closingWear = some x → x ≤ 2 ^ 32 - 1
  deferred : m.deferred ≤ 2 ^ 24 - 1
  lostWear : m.lostWear ≤ 2 ^ 32 - 1
  reckonedWear : m.reckonedWear ≤ 2 ^ 32 - 1
  unsavedWear : m.unsavedWear ≤ 2 ^ 32 - 1
  serviceCount : m.serviceCount ≤ 65535

/-- Every record is in order, the epoch number and those that records hold are epoch numbers (R90), and at most one BELT is
bound to a segment (R65). -/
def MemberInv (s : State) : Prop :=
  (∀ n m, s.member n = some m → MemberOk m)
    ∧ s.etm.epoch ≤ 2 ^ 32 - 1
    ∧ (∀ n m, s.member n = some m → m.installedEpoch ≤ 2 ^ 32 - 1 ∧ ∀ x, m.projection = some x → x ≤ 2 ^ 32 - 1)
    ∧ ∀ n n' m m', s.member n = some m → s.member n' = some m' → m.kind = .belt → m'.kind = .belt →
      m.segment.isSome → m.segment = m'.segment → n = n'

/-- The window list: at most 8, in ascending order of start, under distinct tags of 1–255 (R124, R125). -/
def WindowInv (s : State) : Prop :=
  s.spl.windows.length ≤ 8 ∧ s.spl.windows.Pairwise (fun a b => a.start ≤ b.start)
    ∧ s.spl.windows.Pairwise (fun a b => a.tag ≠ b.tag) ∧ ∀ w ∈ s.spl.windows, 1 ≤ w.tag ∧ w.tag ≤ 255

/-- What holds of every order: its tag is present exactly while SCHEDULED or RELEASED, LATE and GANGED are clear in PROPOSED,
and the missed count is at most 15 (R107). -/
structure OrderOk (o : Order) : Prop where
  tag : o.tag.isSome ↔ o.state = .scheduled ∨ o.state = .released
  flags : o.state = .proposed → o.late = false ∧ o.ganged = false
  missed : o.missed ≤ 15

/-- The order pool: every order in order, at most one for a member, and none for a FREE record (R106). -/
def OrderInv (s : State) : Prop :=
  (∀ k o, s.slot k = some o → OrderOk o ∧ (s.member o.member).isSome)
    ∧ ∀ k k' o o', s.slot k = some o → s.slot k' = some o' → o.member = o'.member → k = k'

/-- The minutes of the orders that name the window of a tag. -/
def State.namedMinutes (s : State) (tag : Nat) : Nat :=
  (allSlots.map fun k => match s.slot k with
    | some o => if o.tag = some tag then o.minutes else 0
    | none => 0).sum

/-- The plan: every tag names a listed window, OPEN where the order is SCHEDULED and ACTIVE where it is RELEASED (R109); the
minutes naming a window lie within its used minutes, and those within its capacity (R123); no order is SCHEDULED where the
placement reset has passed, until placement begins (R145); and the figures of orders, windows and templates are in range
(06 section 6.2, 07 sections 7.1 and 7.4). -/
structure PlanInv (s : State) : Prop where
  tags : ∀ k o tag, s.slot k = some o → o.tag = some tag → ∃ w ∈ s.spl.windows, w.tag = tag
    ∧ (o.state = .scheduled → w.state = .opened) ∧ (o.state = .released → w.state = .active)
  used : ∀ w ∈ s.spl.windows, s.namedMinutes w.tag ≤ w.used ∧ w.used ≤ w.capacity
  bare : ∀ k o, s.slot k = some o → (s.spl.planner.stage = .sort ∨ (∃ i, s.spl.planner.stage = .copyMinutes i)
    ∨ ∃ i, s.spl.planner.stage = .takeBack i ∧ k.val < i) → o.state ≠ .scheduled
  orders : ∀ k o, s.slot k = some o → (1 ≤ o.minutes ∧ o.minutes ≤ 600) ∧ o.due ≤ 2 ^ 32 - 1 ∧ o.missed ≤ 15
    ∧ o.created ≤ 2 ^ 32 - 1
  windows : ∀ w ∈ s.spl.windows, (1 ≤ w.start ∧ w.start ≤ 2 ^ 32 - 1) ∧ (1 ≤ w.length ∧ w.length ≤ 255)
    ∧ (1 ≤ w.capacity ∧ w.capacity ≤ 65535) ∧ w.mask ≠ 0
  templates : s.spl.generator.templates.length ≤ 16
    ∧ ∀ x ∈ s.spl.generator.templates, (1 ≤ x.offset ∧ x.offset ≤ 65535) ∧ (1 ≤ x.length ∧ x.length ≤ 255)
      ∧ (1 ≤ x.capacity ∧ x.capacity ≤ 65535) ∧ x.mask ≠ 0

/-- The link: DE is active exactly while SENDING, the receiver is BLANKED while SENDING (R165), and a frame is being
assembled exactly while RECEIVING, for this station or for all, with fewer characters than its L gives (R162, R163). -/
structure LinkInv (k : Lnk) : Prop where
  driver : k.de = true ↔ k.replyState = .sending
  blanked : k.replyState = .sending → k.receiver = .blanked
  buffer : k.buffer = [] ↔ k.receiver ≠ .receiving
  address : ∀ a rest, k.buffer = a :: rest → a = k.address ∨ a = 0
  length : ∀ a l rest, k.buffer = a :: l :: rest →
    1 ≤ l.toNat ∧ l.toNat ≤ 250 ∧ k.buffer.length < l.toNat + 4

/-! ### Terms of particular statements -/

/-- The member record with its projection as R102 gives it at epoch `e`. -/
def Projected (e : Nat) (m : Member) : Prop :=
  m.projection = if m.limit ≤ m.wear then some e
    else if m.rate = 0 then none
    else some (min (e + (m.limit - m.wear + m.rate - 1) / m.rate) (2 ^ 32 - 1))

/-- The pulse events of a line reach segment `g` alone, as its drive pulses (R4). -/
def DrivesOnly (s : State) (l : LineNo) (g : SegNo) (d : SegDef) : Prop :=
  s.defn g = some d ∧ d.driveLine = l ∧ d.idlerLine ≠ some l
    ∧ ∀ h e, s.defn h = some e → e.driveLine = l ∨ e.idlerLine = some l → h = g

/-- The line is the entry gate of segment `g` alone, and no segment's exit gate (R4). -/
def EntersOnly (s : State) (l : LineNo) (g : SegNo) (d : SegDef) : Prop :=
  s.defn g = some d ∧ d.entryGate = some l
    ∧ ∀ h e, s.defn h = some e → (e.entryGate = some l → h = g) ∧ e.exitGate ≠ some l

/-- The line is the exit gate of segment `g` alone, a segment with an entry gate, and no segment's entry gate (R4, R43). -/
def ExitsOnly (s : State) (l : LineNo) (g : SegNo) (d : SegDef) : Prop :=
  s.defn g = some d ∧ d.exitGate = some l ∧ d.entryGate.isSome
    ∧ ∀ h e, s.defn h = some e → (e.exitGate = some l → h = g) ∧ e.entryGate ≠ some l

/-- The line stands INACTIVE in the role, so that ACCEPTED_TRANSITION is its role's event at the ACTIVE edge (R3). -/
def ReadyToRise (s : State) (l : LineNo) (r : Role) : Prop := (s.line l).role = r ∧ (s.line l).level = .inactive

/-- The SIU after the filter of line `l` has accepted the other level: that line flipped and flagged, the others as they
were (R2, R3). -/
def LineAccepted (l : LineNo) (s t : State) : Prop :=
  t.line l = { s.line l with
      level := (match (s.line l).level with | .active => .inactive | .inactive => .active), runCount := 0, changed := true }
    ∧ (∀ j, j ≠ l → t.line j = s.line j) ∧ t.siu.levelsTaken = s.siu.levelsTaken

/-- The characters of a frame, given to the part one after another: the address byte with mark 1, the rest with mark 0, every
start bit heard and every stop bit high (10 section 10.2). -/
def frameCommands (f : Frame) : List Instr :=
  match f.bytes with
  | [] => []
  | a :: rest => .characterReceived .heard ⟨a, true⟩ true :: rest.map fun b => .characterReceived .heard ⟨b, false⟩ true

/-- The commands of a list, one after another, to the first that does not answer a next state. -/
def execAll : List Instr → State → Host.Outcome State Fault Refusal
  | [], s => .next s
  | c :: cs, s =>
    match exec c s with
    | .next t => execAll cs t
    | .fault r => .fault r
    | .refused r => .refused r

/-! ### Closes and notices -/

/-- The notices posted between two states, in order: kind, subject and value, stamped with the epoch number and the tick of
the first (R154, R156). -/
def Posts (notes : List (NoticeKind × Nat × Nat)) (s t : State) : Prop :=
  t.nq = notes.foldl (fun q n => q.post n.1 n.2.1 n.2.2 s.etm.epoch s.etm.tick) s.nq

/-- The kinds that a close report, handed on, may post (R46 to R60, R79, R81, R86). -/
def handOnKinds : List NoticeKind :=
  [.trackResync, .trackOverflow, .memberWarn, .memberDue, .checkpoint, .deferredOverflow]

/-- The notices `before`, then those of a close handed on, then the notices `after`. -/
def PostsAround (before after : List (NoticeKind × Nat × Nat)) (s t : State) : Prop :=
  ∃ between, (∀ n ∈ between, n.1 ∈ handOnKinds) ∧ Posts (before ++ between ++ after) s t

/-- A close of kind `kind` was handed on: the ITU stored the load and aged the segment's items by `travel`; the WAU accrued
to every member bound to the segment, and to no other, with the load as it stood before (R17, R69). -/
def HandedOn (g : SegNo) (d : SegDef) (kind : CloseKind) (travel slip : Nat) (s t : State) : Prop :=
  t.itu = ((s.storeLoad g ((s.track g).load d)).ageItems g d travel).itu
    ∧ t.wau.pass = s.wau.pass
    ∧ ∀ n, match s.member n with
      | none => t.member n = none
      | some m =>
        if m.segment = some g then
          t.member n = some (m.accrue { segment := g, kind, travel, slip } ((s.track g).load d)
            s.etm.settings.checkpoint).1
        else t.member n = some m

/-- What a pulse of line `l` hands on from a segment that it drives, with this slip figure: the full close of the window that
it closes, or the part-interval of a lost drive; from the others nothing (R4, R11, R18, R32, R34). -/
def State.pulseReport (s : State) (l : LineNo) (g : SegNo) (slip : Nat) : Option CloseReport :=
  (s.defn g).bind fun d =>
    let r := s.run g
    let ms := (s.etm.tick - r.timingRef).toNat
    let close : Option CloseReport := (r.window.filter fun w => decide (d.windowSize ≤ w.drive + 1)).map fun w =>
      { segment := g, kind := .fullWindow, travel := ((w.drive + 1) * d.driveCal + r.residue) / 1000, slip }
    let interval : Option CloseReport :=
      if r.window.isSome ∨ ms = 0 then none
      else some { segment := g, kind := .reckoning, travel := (r.speed * ms + r.residue) / 1000, slip }
    if d.driveLine ≠ l then none
    else match r.supervision with
      | .off | .stopped | .failed => none
      | .acquire | .track | .idlerLost => close
      | .driveLost => close.or interval

/-- A segment's close or part-interval is handed on at the ITU, with the load as it then stands (R17). -/
def State.ageAt (s : State) (g : SegNo) (d : SegDef) (travel : Nat) : State :=
  (s.storeLoad g ((s.track g).load d)).ageItems g d travel

/-- The reports of several segments were handed on: the ITU aged the items of one after another, in some order, and the WAU
accrued each to the members bound to its segment, and to no other, with the segment's load as it stood before (R17, R69). -/
def AllHandedOn (report : SegNo → Option CloseReport) (threshold : Nat) (s t : State) : Prop :=
  (∃ order : List SegNo, order.Perm allSegments
      ∧ t.itu = (order.foldl (fun u g => match s.defn g, report g with
          | some d, some rep => u.ageAt g d rep.travel
          | _, _ => u) s).itu)
    ∧ t.wau.pass = s.wau.pass
    ∧ ∀ n, t.member n = (s.member n).map fun m =>
        match m.segment.bind fun g => (s.defn g).bind fun d => (report g).map fun rep => (d, rep) with
        | some (d, rep) => (m.accrue rep ((s.track rep.segment).load d) threshold).1
        | none => m

/-- The items and the members are as they were. -/
def NothingHandedOn (s t : State) : Prop := t.itu = s.itu ∧ t.wau = s.wau

/-- A drive pulse of line `l` closes the window `w` of segment `g`, whatever other segments the line serves (R4, R10,
R18). -/
def ClosesAt (s : State) (l : LineNo) (g : SegNo) (d : SegDef) (w : MeasWindow) : Prop :=
  s.defn g = some d ∧ d.driveLine = l ∧ d.idlerLine ≠ some l ∧ (s.run g).window = some w ∧ w.drive + 1 = d.windowSize
    ∧ (s.run g).supervision ∈ [.acquire, .track, .idlerLost, .driveLost]

/-- The segment's run line stands ACTIVE. -/
def RunsNow (s : State) (d : SegDef) : Prop := ∃ r, d.runLine = some r ∧ (s.line r).level = .active

/-- The timer of a segment runs (R24). -/
def TimerRuns (s : State) (g : SegNo) (d : SegDef) : Prop :=
  (s.run g).supervision ∈ [.acquire, .track, .idlerLost, .driveLost] ∨ ((s.run g).supervision = .failed ∧ RunsNow s d)

/-- The expiry of segment `g` is due (R19). -/
def ExpiryDue (s : State) (g : SegNo) (d : SegDef) : Prop :=
  s.defn g = some d ∧ TimerRuns s g d ∧ (s.run g).timeout ≤ (s.etm.tick - (s.run g).timingRef).toNat

/-- The open window counted a pulse: it closes as a partial window (R19, R20). -/
def PartialAt (s : State) (g : SegNo) (w : MeasWindow) : Prop := (s.run g).window = some w ∧ 1 ≤ w.drive

/-- No window is open, or one with D = 0 (R19). -/
def EmptyAt (s : State) (g : SegNo) : Prop := ∀ w, (s.run g).window = some w → w.drive = 0

/-- The runtime record after a partial close (R19, R20). -/
def SegRun.partlyClosed (r : SegRun) (d : SegDef) (w : MeasWindow) : SegRun :=
  { r with
    window := none, residue := (w.drive * d.driveCal + r.residue) % 1000
    partialWindows := min (r.partialWindows + 1) 65535, windowCount := min (r.windowCount + 1) 65535 }

/-- The travel of a partial close (R11). -/
def SegRun.partialTravel (r : SegRun) (d : SegDef) (w : MeasWindow) : Nat := (w.drive * d.driveCal + r.residue) / 1000

/-- The runtime record after a reckoning interval of `ms` milliseconds, any window abandoned (R11, R32). -/
def SegRun.reckoned (r : SegRun) (ms : Nat) : SegRun :=
  { r with window := none, residue := (r.speed * ms + r.residue) % 1000 }

/-- The same for a part-interval; one of 0 ms makes no interval (R32). -/
def SegRun.partReckoned (r : SegRun) (ms : Nat) : SegRun := if ms = 0 then { r with window := none } else r.reckoned ms

/-- The travel of a reckoning interval (R11, R32). -/
def SegRun.reckonedTravel (r : SegRun) (ms : Nat) : Nat := (r.speed * ms + r.residue) / 1000

/-- A part-interval of `ms` milliseconds was reckoned; one of 0 ms makes no interval (R32). -/
def PartReckoned (g : SegNo) (d : SegDef) (ms : Nat) (s t : State) : Prop :=
  if ms = 0 then NothingHandedOn s t
  else HandedOn g d .reckoning ((s.run g).reckonedTravel ms) (s.run g).slip s t

/-- What a segment whose timer runs, stopped at `now`, hands on: a window that counted a pulse, as a partial close; without
one the part-interval of a lost drive, and of a FAILED segment; from the others nothing (R20, R32, R35, R36, R38). -/
def State.stopReport (s : State) (now : Tick) (g : SegNo) (d : SegDef) : Option CloseReport :=
  let r := s.run g
  let ms := (now - r.timingRef).toNat
  let interval : Option CloseReport :=
    if ms = 0 then none
    else some { segment := g, kind := .reckoning, travel := r.reckonedTravel ms, slip := r.slip }
  let close : Option CloseReport := (r.window.filter fun w => decide (1 ≤ w.drive)).map fun w =>
    { segment := g, kind := .partialWindow, travel := r.partialTravel d w, slip := r.slip }
  match r.supervision with
  | .off | .stopped => none
  | .acquire | .track | .idlerLost => close
  | .driveLost => close.or interval
  | .failed => interval

/-- What a run-off event of line `l` hands on from a segment (R4, R35, R36). -/
def State.runOffReport (s : State) (l : LineNo) (g : SegNo) : Option CloseReport :=
  (s.defn g).bind fun d => if d.runLine = some l then s.stopReport s.etm.tick g d else none

/-! ### Items -/

/-- A segment that takes items: defined, with an entry gate (R43, R51). -/
def Takes (s : State) (b : SegNo) : Prop := ∃ e, s.defn b = some e ∧ e.entryGate.isSome

/-- A tracking error that brings the count to the threshold (R59). -/
def Tracking.resyncsAt (t : Tracking) (threshold : Nat) : Bool := !t.resync && t.errors + 1 = threshold

/-- The tracking record after a tracking error, its own counter already increased (R59, R60). -/
def Tracking.erred (t : Tracking) (threshold : Nat) : Tracking :=
  if t.resyncsAt threshold then
    { t with arrival := [], transit := [], resync := true, errors := 0, resyncs := min (t.resyncs + 1) 65535 }
  else if t.resync then t
  else { t with errors := t.errors + 1 }

/-- The entries that a tracking error returns to the free list (R60). -/
def Tracking.flushedAt (t : Tracking) (threshold : Nat) : Nat := if t.resyncsAt threshold then t.count else 0

/-- The notice of a tracking error at segment `g` (R60). -/
def Tracking.resyncNotes (t : Tracking) (g : SegNo) (threshold : Nat) : List (NoticeKind × Nat × Nat) :=
  if t.resyncsAt threshold then [(.trackResync, g.val, t.count)] else []

/-- A segment's tracking record after a clean exit that leaves `rest` in transit (R49). -/
def Tracking.left (t : Tracking) (rest : List Item) : Tracking := { t with transit := rest, errors := 0, resync := false }

/-- The line is the exit gate of segment `a` alone and the entry gate of segment `b` alone (R52). -/
def Transfers (s : State) (l : LineNo) (a b : SegNo) (da db : SegDef) : Prop :=
  a ≠ b ∧ s.defn a = some da ∧ da.exitGate = some l ∧ s.defn b = some db ∧ db.entryGate = some l
    ∧ ∀ h e, s.defn h = some e → (e.exitGate = some l → h = a) ∧ (e.entryGate = some l → h = b)

/-- The item that was at the head of segment `g`'s transit list departs, leaving `rest`: delivered where its route gives no
successor that takes items, and otherwise handed on, or dropped at a full arrival list (R49 to R51, R61). -/
def Departs (g : SegNo) (d : SegDef) (item : Item) (rest : List Item) (s t : State) : Prop :=
  let a := s.track g
  let chosen := chooseSuccessor d item.route
  ((∀ b, chosen.1 = some b → ¬ Takes s b) →
      t.track g = { a.left rest with delivered := min (a.delivered + 1) 65535 } ∧ KeepsOtherTracks g s t
      ∧ t.itu.free = s.itu.free + 1 ∧ Posts [] s t)
    ∧ ∀ b, chosen.1 = some b → Takes s b → b ≠ g →
      ((s.track b).arrival.length < 32 →
        t.track g = a.left rest
        ∧ t.track b = { s.track b with
            arrival := (s.track b).arrival ++ [{ item with route := chosen.2, travel := 0 }] }
        ∧ (∀ h, h ≠ g → h ≠ b → t.track h = s.track h) ∧ t.itu.free = s.itu.free ∧ Posts [] s t)
      ∧ (32 ≤ (s.track b).arrival.length →
        t.track g = { a.left rest with dropped := min (a.dropped + 1) 65535 } ∧ KeepsOtherTracks g s t
        ∧ t.itu.free = s.itu.free + 1 ∧ Posts [(.trackOverflow, g.val, 3)] s t)

/-- The items depart from the head of segment `g`'s transit list one after another, leaving `rest` (R57). -/
def DepartAll (g : SegNo) (d : SegDef) : List Item → List Item → State → State → Prop
  | [], _, s, t => t = s
  | item :: items, rest, s, t =>
    ∃ u, KeepsAllBut [.itu, .nq] s u ∧ Departs g d item (items ++ rest) s u ∧ DepartAll g d items rest u t

/-- The exit half of a gate event at the tracked segment `g`: a phantom and its tracking error, or the head departs (R48,
R49, R59, R60). -/
def ItemExits (g : SegNo) (d : SegDef) (s t : State) : Prop :=
  let a := s.track g
  let p := { a with phantom := min (a.phantom + 1) 65535 }
  (a.transit = [] →
      t.track g = p.erred d.resyncThreshold ∧ KeepsOtherTracks g s t
      ∧ t.itu.free = s.itu.free + p.flushedAt d.resyncThreshold ∧ Posts (p.resyncNotes g d.resyncThreshold) s t)
    ∧ ∀ item rest, a.transit = item :: rest → Departs g d item rest s t

/-- The entry half of a gate event at segment `g`: the oldest arrival, or an unknown item after its tracking error, enters,
or is dropped with its cause (R45 to R47, R59, R60). -/
def ItemEnters (g : SegNo) (d : SegDef) (s t : State) : Prop :=
  let a := s.track g
  let e := { a with unannounced := min (a.unannounced + 1) 65535 }
  let u := e.erred d.resyncThreshold
  let freed := s.itu.free + e.flushedAt d.resyncThreshold
  let notes := e.resyncNotes g d.resyncThreshold
  KeepsOtherTracks g s t
    ∧ (∀ item rest, a.arrival = item :: rest → a.transit.length < 64 →
        t.track g = { a with arrival := rest, transit := a.transit ++ [{ item with travel := 0 }] }
        ∧ t.itu.free = s.itu.free ∧ Posts [] s t)
    ∧ (∀ item rest, a.arrival = item :: rest → 64 ≤ a.transit.length →
        t.track g = { a with arrival := rest, dropped := min (a.dropped + 1) 65535 }
        ∧ t.itu.free = s.itu.free + 1 ∧ Posts [(.trackOverflow, g.val, 1)] s t)
    ∧ (a.arrival = [] → u.transit.length < 64 → 0 < freed →
        t.track g = { u with
          transit := u.transit ++
            [{ tag := 0, mass := d.unannouncedMass, route := [], unknown := true, travel := 0 }] }
        ∧ t.itu.free = freed - 1 ∧ Posts notes s t)
    ∧ (a.arrival = [] → u.transit.length < 64 → freed = 0 →
        t.track g = { u with dropped := min (u.dropped + 1) 65535 } ∧ t.itu.free = 0
        ∧ Posts (notes ++ [(.trackOverflow, g.val, 2)]) s t)
    ∧ (a.arrival = [] → 64 ≤ u.transit.length →
        t.track g = { u with dropped := min (u.dropped + 1) 65535 } ∧ t.itu.free = freed
        ∧ Posts (notes ++ [(.trackOverflow, g.val, 1)]) s t)

/-- The items of a list after a close of this travel (R55). -/
def agedBy (travel : Nat) (items : List Item) : List Item :=
  items.map fun i => { i with travel := min (i.travel + travel) 65535 }

/-- Every segment's lists and tracking record but those of `a` and `b` are unchanged. -/
def KeepsTracksBut (a b : SegNo) (s t : State) : Prop := ∀ h, h ≠ a → h ≠ b → t.track h = s.track h

/-! ### Orders, boundaries and modes -/

/-- Slot `k` holds the member's one open order `o` (R106). -/
def OrderAt (s : State) (n : MemberNo) (k : SlotNo) (o : Order) : Prop :=
  s.slot k = some o ∧ o.member = n ∧ ∀ j p, s.slot j = some p → p.member = n → j = k

/-- The member has no open order. -/
def NoOrder (s : State) (n : MemberNo) : Prop := ∀ k o, s.slot k = some o → o.member ≠ n

/-- Every slot but `k` is unchanged. -/
def KeepsOtherSlots (k : SlotNo) (s t : State) : Prop := ∀ j, j ≠ k → t.slot j = s.slot j

/-- The window list after an order in `o`'s state leaves its window by a request: a SCHEDULED order's minutes are subtracted
from the window it names (R109, R123). -/
def windowsWithout (o : Order) (ws : List MaintWindow) : List MaintWindow :=
  if o.state = .scheduled then ws.map fun w => if some w.tag = o.tag then { w with used := w.used - o.minutes } else w
  else ws

/-- The rest of the SPL, but for the rerun flag, is unchanged; a run in flight is to be repeated (R120, R141). -/
def RerunAsked (s t : State) : Prop :=
  t.spl.generator = s.spl.generator ∧ t.spl.lastTag = s.spl.lastTag
    ∧ t.spl.planner = { s.spl.planner with rerun := s.spl.planner.rerun || decide (s.spl.planner.stage ≠ .idle) }

/-- The order `o` of slot `k` left the pool as ORDER_CANCEL removes it (R112, R113, R117). -/
def OrderRemoved (k : SlotNo) (o : Order) (s t : State) : Prop :=
  t.slot k = none ∧ KeepsOtherSlots k s t ∧ t.spl.windows = windowsWithout o s.spl.windows

/-- The orders and the windows are as they were. -/
def KeepsPlan (s t : State) : Prop := t.spl.orders = s.spl.orders ∧ t.spl.windows = s.spl.windows

/-- The RQD's record after a boundary (R97, R172). -/
def Rqd.atBoundary (q : Rqd) : Rqd :=
  { q with mode := if q.pendingSetup then .setup else q.mode, pendingSetup := false, pendingSettings := none }

/-- `s` with the epoch number `number` running. -/
def State.inEpoch (s : State) (number : Nat) : State := { s with etm := { s.etm with epoch := number } }

/-- The SMU moved every segment's window count to its closing window count (R22). -/
def CountsMoved (s t : State) : Prop :=
  ∀ g, t.defn g = s.defn g ∧ t.run g = { s.run g with closingCount := (s.run g).windowCount, windowCount := 0 }

/-- The WAU took the snapshot and began a rate pass with these settings (R98, R100). -/
def SnapshotTaken (shift minWindows : Nat) (s t : State) : Prop :=
  t.wau.pass = some { next := 0, shift, minWindows }
    ∧ ∀ n, t.member n = (s.member n).map fun m =>
        { m with
          epochWear := 0, fresh := false, closingWear := if m.fresh then m.closingWear else some m.epochWear }

/-- `u` is `s` with the share of the last boundary that one of the SMU and the WAU had left, if any, taken (R95, R99;
log 33). -/
def ShareTaken (s u : State) : Prop :=
  match s.etm.untaken with
  | none => u = s
  | some .smu => KeepsAllBut [.smu, .etm] s u ∧ u.etm = { s.etm with untaken := none } ∧ CountsMoved s u
  | some (.wau shift minWindows) =>
    KeepsAllBut [.wau, .etm] s u ∧ u.etm = { s.etm with untaken := none } ∧ SnapshotTaken shift minWindows s u

/-- The share that a boundary to epoch `number` with these settings leaves untaken: none where it enters SETUP, and otherwise
that of the block that the arbiter names for it, if any (R95, R99; log 33). -/
def State.shareLeft (s : State) (number : Nat) (carried : EpochSettings) : Option Untaken :=
  if s.rqd.pendingSetup then none
  else match s.lagAt number with
    | none => none
    | some .smu => some .smu
    | some .wau => some (.wau carried.shift carried.minWindows)

/-- What a boundary to epoch `number` leaves outside the ETM and the RQD, with no change to SETUP pending: the window counts
are moved, but where the SMU leaves its share; the snapshot is taken and a rate pass begins with the settings carried, but
where the WAU leaves its share; the SPL activates, ends and generates, and MARK_MISSED is posted exactly where the boundary
was taken for want of a mark (R22, R94, R95, R98 to R100). -/
def BoundaryTaken (number : Nat) (carried : EpochSettings) (missed : Bool) (s t : State) : Prop :=
  (if s.lagAt number = some .smu then t.smu = s.smu else CountsMoved s t)
    ∧ t.itu = s.itu
    ∧ (if s.lagAt number = some .wau then t.wau = s.wau else SnapshotTaken carried.shift carried.minWindows s t)
    ∧ t.spl = (s.inEpoch number).tendWindows.spl
    ∧ ∃ notes, Posts notes (s.inEpoch number) t ∧ (missed = true ↔ (.markMissed, 0, number) ∈ notes)
        ∧ ∀ n ∈ notes, n = (.markMissed, 0, number)
            ∨ n.1 ∈ [.windowReleased, .orderMissed, .patternWrap, .patternEnd, .windowSkipped]

/-- What the entry to SETUP at `now` hands on from a segment: its close, but nothing from a FAILED one whose run line is not
ACTIVE (R38). -/
def State.setupReport (s : State) (now : Tick) (g : SegNo) : Option CloseReport :=
  (s.defn g).bind fun d =>
    if (s.run g).supervision = .failed ∧ ¬ s.runLineActive d then none else s.stopReport now g d

/-- The runtime record of a segment that the entry to SETUP at `now` has closed or reckoned (R20, R32, R38). -/
def State.setupRun (s : State) (now : Tick) (g : SegNo) : SegRun :=
  let r := s.run g
  let reckoned := r.partReckoned (now - r.timingRef).toNat
  match s.defn g, r.supervision, r.window with
  | none, _, _ => r
  | some _, .off, _ | some _, .stopped, _ => r
  | some d, .failed, _ => if s.runLineActive d then { r with residue := reckoned.residue } else r
  | some _, .driveLost, none => reckoned
  | some _, _, none => r
  | some d, .driveLost, some w => if 1 ≤ w.drive then r.partlyClosed d w else reckoned
  | some d, _, some w => if 1 ≤ w.drive then r.partlyClosed d w else { r with window := none }

/-- What a boundary to epoch `number` at `now` leaves outside the ETM where the change to SETUP is pending: every segment closed
or reckoned, its record otherwise as it stood, and in OFF; those closes handed on, segment after segment, to the ITU, and to
the members bound, whose wear the snapshot then takes; the mode SETUP, and MODE_CHANGED posted; the rate pass, the SPL and
MARK_MISSED as at any boundary (R8, R17, R20, R22, R38, R98 to R100, R172). -/
def SetupEntered (number : Nat) (now : Tick) (carried : EpochSettings) (threshold : Nat) (missed : Bool)
    (s t : State) : Prop :=
  t.rqd = s.rqd.atBoundary ∧ t.rqd.mode = .setup ∧ t.siu = s.siu ∧ t.etm.untaken = none
    ∧ (∀ g, t.defn g = s.defn g
      ∧ t.run g = { s.setupRun now g with
          supervision := .off, attemptsLeft := 0, intervals := 0, closingCount := (s.setupRun now g).windowCount
          windowCount := 0 })
    ∧ (∃ order : List SegNo, order.Perm allSegments
      ∧ t.itu = (order.foldl (fun u g => match s.defn g, s.setupReport now g with
          | some d, some rep => u.ageAt g d rep.travel
          | _, _ => u) s).itu)
    ∧ t.wau.pass = some { next := 0, shift := carried.shift, minWindows := carried.minWindows }
    ∧ (∀ n, t.member n = (s.member n).map fun m =>
        let after := match m.segment.bind fun g => (s.defn g).bind fun d => (s.setupReport now g).map fun rep => (d, rep) with
          | some (d, rep) => (m.accrue rep ((s.track rep.segment).load d) threshold).1
          | none => m
        { after with
          epochWear := 0, fresh := false, closingWear := if m.fresh then m.closingWear else some after.epochWear })
    ∧ t.spl = (s.inEpoch number).tendWindows.spl
    ∧ ∃ notes, Posts notes (s.inEpoch number) t ∧ (.modeChanged, 0, number) ∈ notes
        ∧ (missed = true ↔ (.markMissed, 0, number) ∈ notes)

/-- Test `code` of the change to COUNTING fails at segment `g` (R171). -/
def TestFails (s : State) (g : SegNo) (d : SegDef) (code : Nat) : Prop :=
  match code with
  | 1 => (s.line d.driveLine).role ≠ .pulse
  | 2 => ∃ l, d.idlerLine = some l ∧ (s.line l).role ≠ .pulse
  | 3 => ∃ l, d.entryGate = some l ∧ (s.line l).role ≠ .gate
  | 4 => ∃ l, d.exitGate = some l ∧ (s.line l).role ≠ .gate
  | 5 => ∃ l, d.runLine = some l ∧ (s.line l).role ≠ .run
  | 6 => ∃ l h e, d.entryGate = some l ∧ h < g ∧ s.defn h = some e ∧ e.entryGate = some l
  | 7 => ∃ l h e, d.exitGate = some l ∧ h < g ∧ s.defn h = some e ∧ e.exitGate = some l
  | 8 => ∃ h, d.straight = some h ∧ s.defn h = none
  | 9 => ∃ h, d.divert = some h ∧ s.defn h = none
  | _ => False

/-! ### Windows and the planning run -/

/-- The SPL but for its orders, windows and last tag is unchanged. -/
def KeepsRun (s t : State) : Prop := t.spl.generator = s.spl.generator ∧ t.spl.planner = s.spl.planner

/-- Every slot, and the windows, are as they were. -/
def KeepsGenerator (s t : State) : Prop := t.spl.generator = s.spl.generator ∧ t.spl.lastTag = s.spl.lastTag

/-- The window `w` entered the list by its start, behind those with the same start; the others keep their order (R124). -/
def WindowEntered (w : MaintWindow) (s t : State) : Prop :=
  ∃ front back, s.spl.windows = front ++ back ∧ t.spl.windows = front ++ w :: back ∧ t.spl.lastTag = w.tag
    ∧ (∀ x ∈ front, x.start ≤ w.start) ∧ ∀ x, back.head? = some x → w.start < x.start

/-- The window can take an order of these minutes for segment `g`, as it stands (R147). -/
def CanTake (w : MaintWindow) (g : SegNo) (minutes : Nat) : Prop :=
  w.state = .opened ∧ w.mask.getLsbD g.val = true ∧ minutes ≤ w.capacity - w.used

/-- The windows with `minutes` more used in the window of this tag (R123). -/
def windowsWith (tag minutes : Nat) (ws : List MaintWindow) : List MaintWindow :=
  ws.map fun w => if w.tag = tag then { w with used := w.used + minutes } else w

/-- The order back in PROPOSED (R107). -/
def Order.proposed (o : Order) : Order := { o with state := .proposed, tag := none, late := false, ganged := false }

/-- Member `r` is a ROLLER bound to segment `g` with an open order: one that ganging considers (R149). -/
def RollerOrder (s : State) (g : SegNo) (r : MemberNo) : Prop :=
  (∃ m, s.member r = some m ∧ m.kind = .roller ∧ m.segment = some g) ∧ ¬ NoOrder s r

/-- The order's place in the sort comes at or before that of the other (R146). -/
def SortsBefore (s : State) (a b : Order) : Prop :=
  let belt : Order → Nat := fun o => match s.member o.member with
    | some m => if m.kind = .belt then 0 else 1
    | none => 1
  a.due < b.due ∨ (a.due = b.due ∧ (belt a < belt b ∨ (belt a = belt b ∧ a.member ≤ b.member)))

end Sys2Proof.Machine
end

