-- ==== Sys2Proof/Certificates/Slice0/Obligations.lean ====
section
/-! DEFINITION. The statements about the WA24 for the provers, block by block in the order of the manual. -/

open Sys2Proof Sys2Proof.Machine

/-! ### The queue and the RQD's own checks -/

/-- One step takes the command at the front of the queue and runs it on the state with the queue's rest. -/
def Obligations.QueueFrontRuns : Prop :=
  ∀ (c : Instr) (rest : List Instr) (s : State), s.pending = c :: rest → step s = exec c { s with pending := rest }

/-- With no command waiting the RQD serves the oldest frame handed over to it: the request that its kind code and payload
spell, or the reply BAD_VALUE or UNKNOWN_KIND of R169, none for a broadcast; with no frame waiting nothing happens. When a
waiting frame is served is the model's choice (log 3), and that the reply to an undefined code of 0x80 or above carries
the sum modulo 256 is its reading (log 22). A kind code that is none of section 11.6's is unknown; a payload of another
length than the one that section fixes for its kind is a BAD_VALUE, and so are a MODE, RESTART, WINDOW_READ or
SERVICE_DONE code not defined and a PATTERN_LOAD whose count lies outside 1–16 or does not match its length (R114, R128,
R169, R170, R173). -/
def Obligations.WaitingFramesAreServed : Prop :=
  (∀ s : State, s.pending = [] →
      (s.rqd.handed = [] → step s = .next s)
      ∧ ∀ (f : Frame) (rest : List Frame), s.rqd.handed = f :: rest →
        (∀ i, decodeFrame f = .run i → step s = exec i s)
        ∧ (f.address ≠ 0 → decodeFrame f = .badValue → ∃ t, step s = .next t ∧ Refuses f.kind .badValue [] s t)
        ∧ (f.address ≠ 0 → decodeFrame f = .unknown → ∃ t, step s = .next t ∧ Refuses f.kind .unknownKind [] s t)
        ∧ (f.address = 0 → decodeFrame f = .badValue → ∃ t, step s = .next t ∧ KeepsAllBut [.rqd] s t
            ∧ t.rqd = { s.rqd with handed := rest }))
  ∧ (∀ f : Frame,
        ((∀ k : ReqKind, k.code ≠ f.kind) → decodeFrame f = .unknown)
        ∧ (∀ p ∈ ([(0x01, 0), (0x02, 0), (0x03, 1), (0x04, 1), (0x05, 1), (0x06, 0), (0x08, 9), (0x09, 4), (0x10, 4), (0x11, 0),
              (0x12, 34), (0x13, 2), (0x14, 1), (0x18, 8), (0x20, 23), (0x21, 1), (0x22, 1), (0x23, 22), (0x24, 1), (0x25, 1),
              (0x26, 8), (0x30, 6), (0x31, 0), (0x32, 10), (0x33, 1), (0x34, 1), (0x36, 7), (0x37, 1), (0x38, 1), (0x39, 5),
              (0x3A, 1), (0x3B, 1), (0x40, 0), (0x41, 1)] : List (Byte × Nat)),
            f.kind = p.1 → f.payload.length ≠ p.2 → decodeFrame f = .badValue)
        ∧ (∀ code, f.payload = [code] →
            (f.kind = 0x03 → 1 < code.toNat → decodeFrame f = .badValue)
            ∧ (f.kind = 0x04 → code = 0 ∨ 3 < code.toNat → decodeFrame f = .badValue)
            ∧ (f.kind = 0x34 → 1 < code.toNat → decodeFrame f = .badValue))
        ∧ (∀ member outcome rest, f.kind = 0x26 → f.payload = member :: outcome :: rest → outcome ≠ 1 → outcome ≠ 2 →
            decodeFrame f = .badValue)
        ∧ (f.kind = 0x35 →
            (f.payload = [] → decodeFrame f = .badValue)
            ∧ ∀ count rest, f.payload = count :: rest →
              (count.toNat = 0 ∨ 16 < count.toNat ∨ rest.length ≠ 8 * count.toNat ↔ decodeFrame f = .badValue)))

/-- Decoding the frame that spells a request gives the request back, for every request with every operand at every value
its fields admit, addressed or broadcast as it is sent (11 section 11.6). -/
def Obligations.DecodeEncodeAgree : Prop :=
  ∀ (i : Instr) (station : Byte) (f : Frame),
    i.wellFormed = true → station ≠ 0 → encodeFrame station i = some f → decodeFrame f = .run i

/-- Every addressed request, whatever the state, is answered once: a next state in which the reply state is PENDING and
the reply built for the LNK carries the request's kind with 0x80 added and the attention summary as the NQ stands after
the request (R159, R164, R168). A refused request changes nothing in any block but for its reply (R168). That a request is
taken also while a reply is PENDING or SENDING is the model's choice (log 2), and that for an undefined kind of 0x80 or
above the sum is taken modulo 256 is its reading (log 22). -/
def Obligations.RequestsAreAnswered : Prop :=
  (∀ (i : Instr) (k : Byte) (s : State), i.wellFormed = true → i.addressedKind = some k →
      ∃ t r, exec i s = .next t ∧ t.lnk.replyState = .pending ∧ t.lnk.reply = some r ∧ r.kind = k + 0x80
        ∧ r.attention = t.nq.attention ∧ t.rqd.handed = s.rqd.handed.tail)
  ∧ (∀ (i : Instr) (k : Byte) (s t : State) (r : Reply), i.addressedKind = some k → exec i s = .next t →
        t.lnk.reply = some r → r.status.refuses = true → Refuses k r.status r.data s t)

/-! ### Reset and restart (11 section 11.4) -/

/-- Cold reset leaves every piece of state at its reset value, whatever stood there, with the station address read from
the straps; the machine's reset state has the same values. That State.reset stands for straps of 0 is the model's choice
(log 8), and so is what is kept outside the reset (log 24). RESTART ALL: broadcast, every piece of state takes its reset
value at once, the station address and the rate divisor kept; addressed, it is answered first and changes nothing else,
and the reset is taken at the end of the reply's last stop bit (R174). -/
def Obligations.ResetValuesGiven : Prop :=
  (ResetValues 0 1 7 State.reset
      ∧ ∀ (straps : BitVec 5) (s : State), ∃ t, exec (.coldReset straps) s = .next t
        ∧ ResetValues straps (straps.setWidth 8 + 1) 7 t
        ∧ t.siu.pins = s.siu.pins ∧ t.arbiter = s.arbiter ∧ t.pending = s.pending)
  ∧ (∀ s : State,
        (∃ t, exec (.restartAll .broadcast) s = .next t ∧ ResetValues s.lnk.straps s.lnk.address s.lnk.divisor t)
        ∧ (∃ t, exec (.restartAll .addressed) s = .next t ∧ KeepsAllBut [.lnk, .rqd] s t
            ∧ t.rqd = { s.rqd with handed := s.rqd.handed.tail }
            ∧ t.lnk = { s.lnk.withReply 0x04 .ok t.nq.attention [3] with restartAtEnd := true })
        ∧ (s.lnk.replyState = .sending → s.lnk.restartAtEnd = true → s.lnk.newDivisor = none →
            ∃ t, exec .replyEnd s = .next t ∧ ResetValues s.lnk.straps s.lnk.address s.lnk.divisor t))

/-- RESTART TRACKING flushes every list of every segment to the free list, clears every RESYNC flag, error count and
tracking counter, and keeps the last loads; RESTART PLAN deletes every order and window, sets the generator IDLE at index
0, and abandons a run in flight with PLAN_DONE posted and its abandoned bit set (R42, R142, R150, R173). Neither touches
another block. That the sort list, the run counts and the run's copies stand at RESTART PLAN is the model's choice (log
36), and so is that its reply's summary shows PLAN_DONE (R160; log 38). -/
def Obligations.PartialRestarts : Prop :=
  ∀ (via : Delivery) (s : State),
    (∃ t, exec (.restartTracking via) s = .next t ∧ AnswersVia via s.rqd [.itu] 0x04 .ok [1] s t
      ∧ (∀ g, t.track g =
          { s.track g with
            arrival := [], transit := [], resync := false, errors := 0, unannounced := 0, phantom := 0, stale := 0
            dropped := 0, delivered := 0, resyncs := 0 })
      ∧ t.itu.free = s.itu.free + (allSegments.map fun g => (s.track g).count).sum)
    ∧ ∃ t, exec (.restartPlan via) s = .next t ∧ AnswersVia via s.rqd [.spl, .nq] 0x04 .ok [2] s t
      ∧ (∀ k, t.slot k = none) ∧ t.spl.windows = [] ∧ t.spl.lastTag = 0
      ∧ t.spl.generator = { s.spl.generator with state := .idle, index := 0 }
      ∧ t.spl.planner = { s.spl.planner with stage := .idle, rerun := false }
      ∧ t.nq = if s.spl.planner.stage = .idle then s.nq else
          s.nq.post .planDone 0
            (2 ^ 31 + s.spl.planner.placed * 2 ^ 24 + s.spl.planner.late * 2 ^ 16 + s.spl.planner.unplaced * 2 ^ 8
              + s.spl.planner.skipped) s.etm.epoch s.etm.tick

/-! ### Sense lines (01 section 1.1) -/

/-- SAMPLE: the first sample after a reset gives every line its level, with no flag and no event; a later one counts the
samples in a row that differ from the filtered level, and the (f+1)-th is an accepted transition, whose event is delivered
as ACCEPTED_TRANSITION delivers it; a sample at which no line is accepted changes the SIU alone (R1 to R3). The lines
accepted at one sample are delivered one after another, in an order that the model leaves open (logs 5 and 6), the notices
of each together (log 35). -/
def Obligations.SampleFilters : Prop :=
  (∀ (p : Polarity) (high : Bool), p.convert high = .active ↔ (high = true ↔ p = .activeHigh))
  ∧ ∀ (raw : BitVec 32) (s : State),
    let shown : LineNo → Level := fun l => (s.line l).polarity.convert (raw.getLsbD l.val)
    let accepted : LineNo → Prop := fun l => shown l ≠ (s.line l).level ∧ (s.line l).filter + 1 ≤ (s.line l).runCount + 1
    ∃ t, exec (.sample raw) s = .next t ∧ t.siu.pins = raw ∧ t.siu.levelsTaken = true
      ∧ KeepsAllBut [.siu, .smu, .itu, .wau, .nq] s t
      ∧ (s.siu.levelsTaken = false →
          KeepsAllBut [.siu] s t ∧ ∀ l, t.line l = { s.line l with level := shown l, runCount := 0 })
      ∧ (s.siu.levelsTaken = true →
          (∀ l, (shown l = (s.line l).level → t.line l = { s.line l with runCount := 0 })
            ∧ (accepted l → t.line l = { s.line l with level := shown l, runCount := 0, changed := true })
            ∧ (shown l ≠ (s.line l).level → ¬ accepted l →
                t.line l = { s.line l with runCount := (s.line l).runCount + 1 }))
          ∧ ((∀ l, ¬ accepted l) → KeepsAllBut [.siu] s t)
          ∧ ∃ (order : List LineNo) (u : State), order.Nodup ∧ (∀ l, l ∈ order ↔ accepted l)
              ∧ KeepsAllBut [.siu] s u ∧ u.siu.pins = raw ∧ u.siu.levelsTaken = true
              ∧ (∀ l, (shown l = (s.line l).level ∨ accepted l → u.line l = { s.line l with runCount := 0 })
                ∧ (shown l ≠ (s.line l).level → ¬ accepted l →
                    u.line l = { s.line l with runCount := (s.line l).runCount + 1 }))
              ∧ exec (.sample raw) s = execAll (order.map .acceptedTransition) u)

/-- ACCEPTED_TRANSITION flips the line's filtered level, sets its change flag and delivers the role's event: none for
UNUSED, and for PULSE and GATE none at the INACTIVE edge. A pulse or run event finds every segment in OFF with nothing
to do, and the ITU discards a gate event in SETUP. That the pin shows the accepted level is the model's choice (R2 to
R4, R53; log 9). -/
def Obligations.TransitionAccepted : Prop :=
  ∀ (l : LineNo) (s : State), ∃ t, exec (.acceptedTransition l) s = .next t ∧ LineAccepted l s t
    ∧ KeepsAllBut [.siu, .smu, .itu, .wau, .nq] s t
    ∧ (t.line l).polarity.convert (t.siu.pins.getLsbD l.val) = (t.line l).level
    ∧ (∀ j, j ≠ l → t.siu.pins.getLsbD j.val = s.siu.pins.getLsbD j.val)
    ∧ ((s.line l).role = .unused → KeepsAllBut [.siu] s t)
    ∧ ((s.line l).role = .pulse ∨ (s.line l).role = .gate → (s.line l).level = .active → KeepsAllBut [.siu] s t)
    ∧ ((s.line l).role = .pulse ∨ (s.line l).role = .run →
        (∀ g, (s.run g).supervision = .off ∧ (s.run g).window = none) → KeepsAllBut [.siu] s t)
    ∧ ((s.line l).role = .gate → s.rqd.mode = .setup → KeepsAllBut [.siu] s t)

/-- LINE_STATUS reports the 32 filtered levels and the 32 change flags and clears the flags; an accepted transition sets a
flag again (R5). The layout of the data is the model's reading (log 21). LINE_SET: WRONG_MODE in COUNTING; BAD_VALUE for a
line above 31, a role or polarity code not defined, or f above 15; otherwise the configuration is replaced and the filter
restarts at the current raw level, with no event and the change flag as it was (R6). That the current raw level is the pin
as last sampled or accepted is the model's reading (log 9). -/
def Obligations.LineRequests : Prop :=
  (∀ s : State,
      (∃ t data, exec .lineStatus s = .next t ∧ Answers [.siu] 0x11 .ok data s t ∧ data.length = 64
        ∧ (∀ l : LineNo, data[l.val]? = some (if (s.line l).level = .active then 1 else 0))
        ∧ (∀ l : LineNo, data[32 + l.val]? = some (if (s.line l).changed then 1 else 0))
        ∧ (∀ l, t.line l = { s.line l with changed := false })
        ∧ t.siu.pins = s.siu.pins ∧ t.siu.levelsTaken = s.siu.levelsTaken)
      ∧ ∀ l, ∃ t, exec (.acceptedTransition l) s = .next t ∧ (t.line l).changed = true)
  ∧ (∀ (line role polarity filter : Byte) (s : State),
        (s.rqd.mode = .counting → ∃ t, exec (.lineSet line role polarity filter) s = .next t ∧ Refuses 0x10 .wrongMode [] s t)
        ∧ (s.rqd.mode = .setup → (31 < line.toNat ∨ 3 < role.toNat ∨ 1 < polarity.toNat ∨ 15 < filter.toNat) →
            ∃ t, exec (.lineSet line role polarity filter) s = .next t ∧ Refuses 0x10 .badValue [] s t)
        ∧ ∀ (l : LineNo) (r : Role) (p : Polarity), s.rqd.mode = .setup → line.toNat = l.val → filter.toNat ≤ 15 →
            (role, r) ∈ [((0 : Byte), Role.unused), (1, .pulse), (2, .gate), (3, .run)] →
            (polarity, p) ∈ [((0 : Byte), Polarity.activeHigh), (1, .activeLow)] →
            ∃ t, exec (.lineSet line role polarity filter) s = .next t ∧ Answers [.siu] 0x10 .ok [] s t
              ∧ t.line l = { role := r, polarity := p, filter := filter.toNat, level := p.convert (s.siu.pins.getLsbD l.val)
                             runCount := 0, changed := (s.line l).changed }
              ∧ (∀ j, j ≠ l → t.line j = s.line j) ∧ t.siu.pins = s.siu.pins ∧ t.siu.levelsTaken = s.siu.levelsTaken)

/-! ### Segment definitions (01 section 1.2) -/

/-- SEGMENT_SET without the undefine option: WRONG_MODE in COUNTING; in SETUP, BAD_VALUE when the segment number exceeds
23, when a field lies outside its range, or when the fields do not agree; otherwise OK, with the definition stored whole
and an unannounced mass omitted stored as 150 (R7, R9). That the idler calibration is in range without an idler line is
the model's reading (log 10). An accepted SEGMENT_SET gives the runtime record its initial values, the two window counts
standing, and flushes the segment's lists and tracking record; with the undefine option the definition is removed and
the values are those of an undefined segment. Undefining checks the segment number alone (R7 to R9, R42). That
undefining an undefined segment changes nothing at all is the model's reading (log 11). -/
def Obligations.SegmentSetRules : Prop :=
  (∀ (segment : Byte) (massGiven : Bool) (r : SegmentRecord) (s : State),
      let optional : Byte → Nat → Prop := fun b n => b = 0xFF ∨ b.toNat < n
      let good : Prop :=
        segment.toNat ≤ 23
        ∧ r.driveLine.toNat < 32 ∧ optional r.idlerLine 32 ∧ optional r.entryGate 32 ∧ optional r.exitGate 32
        ∧ optional r.runLine 32 ∧ optional r.straight 24 ∧ optional r.divert 24
        ∧ 1 ≤ r.driveCal.toNat ∧ 1 ≤ r.idlerCal.toNat ∧ (16 ≤ r.windowSize.toNat ∧ r.windowSize.toNat ≤ 4096)
        ∧ (1 ≤ r.nominal.toNat ∧ r.nominal.toNat ≤ 20000) ∧ r.maxDeviation.toNat < r.nominal.toNat
        ∧ r.deadband.toNat ≤ 20000 ∧ 1 ≤ r.step.toNat ∧ (1 ≤ r.acquireAttempts.toNat ∧ r.acquireAttempts.toNat ≤ 15)
        ∧ 1 ≤ r.lossLimit.toNat ∧ r.slipThreshold.toNat ≤ 1000 ∧ (1 ≤ r.slipRunCount.toNat ∧ r.slipRunCount.toNat ≤ 15)
        ∧ 1 ≤ r.length.toNat ∧ r.fallbackLoad.toNat ≤ 1023 ∧ (1 ≤ r.resyncThreshold.toNat ∧ r.resyncThreshold.toNat ≤ 15)
        ∧ r.idlerLine ≠ r.driveLine ∧ (r.entryGate = 0xFF ∨ r.entryGate ≠ r.exitGate)
        ∧ r.straight ≠ segment ∧ r.divert ≠ segment ∧ (r.divert ≠ 0xFF → r.straight ≠ 0xFF)
      (s.rqd.mode = .counting →
        ∃ t, exec (.segmentSet segment massGiven r) s = .next t ∧ Refuses 0x12 .wrongMode [] s t)
      ∧ (s.rqd.mode = .setup → ¬ good →
          ∃ t, exec (.segmentSet segment massGiven r) s = .next t ∧ Refuses 0x12 .badValue [] s t)
      ∧ (s.rqd.mode = .setup → good →
          ∃ t g d, exec (.segmentSet segment massGiven r) s = .next t ∧ Answers [.smu, .itu] 0x12 .ok [] s t
            ∧ g.val = segment.toNat ∧ t.defn g = some d ∧ KeepsOtherSegments g s t
            ∧ d.driveLine.val = r.driveLine.toNat
            ∧ (∀ p ∈ [(d.idlerLine, r.idlerLine), (d.entryGate, r.entryGate), (d.exitGate, r.exitGate),
                  (d.runLine, r.runLine)], p.1.map (·.val) = if p.2 = 0xFF then none else some p.2.toNat)
            ∧ (∀ p ∈ [(d.straight, r.straight), (d.divert, r.divert)],
                  p.1.map (·.val) = if p.2 = 0xFF then none else some p.2.toNat)
            ∧ [d.driveCal, d.idlerCal, d.windowSize, d.nominal, d.maxDeviation, d.deadband, d.slipThreshold, d.length,
                d.fallbackLoad]
              = [r.driveCal, r.idlerCal, r.windowSize, r.nominal, r.maxDeviation, r.deadband, r.slipThreshold, r.length,
                  r.fallbackLoad].map (·.toNat)
            ∧ [d.step, d.acquireAttempts, d.lossLimit, d.slipRunCount, d.resyncThreshold]
              = [r.step, r.acquireAttempts, r.lossLimit, r.slipRunCount, r.resyncThreshold].map (·.toNat)
            ∧ d.unannouncedMass = if massGiven then r.unannouncedMass.toNat else 150))
  ∧ ((∀ (b : Byte) (s : State), s.rqd.mode = .counting →
        ∃ t, exec (.segmentUndefine b) s = .next t ∧ Refuses 0x12 .wrongMode [] s t)
      ∧ ∀ (g : SegNo) (s : State), s.rqd.mode = .setup →
        let initial : Nat → Nat → SegRun := fun V timeout =>
          { window := none, timingRef := s.etm.tick, timeout, residue := 0, slip := 0, speed := V, slipRun := 0
            slipArmed := true, speedArmed := true, fullWindows := 0, partialWindows := 0, timeouts := 0, slipAlarms := 0
            speedHits := 0, pulsesIgnored := 0, windowCount := (s.run g).windowCount
            closingCount := (s.run g).closingCount, supervision := .off, attemptsLeft := 0, intervals := 0 }
        let flushed : State → Prop := fun t =>
          t.track g = { arrival := [], transit := [], resync := false, errors := 0, lastLoad := 0, unannounced := 0
                        phantom := 0, stale := 0, dropped := 0, delivered := 0, resyncs := 0 }
          ∧ t.itu.free = s.itu.free + (s.track g).count ∧ KeepsOtherTracks g s t
        (∀ massGiven r t d, exec (.segmentSet (BitVec.ofNat 8 g.val) massGiven r) s = .next t → t.defn g = some d →
          Answers [.smu, .itu] 0x12 .ok [] s t →
          t.run g = initial d.nominal (min (max (4 * (d.windowSize * d.driveCal / d.nominal)) 20) 60000) ∧ flushed t)
        ∧ (∀ d, s.defn g = some d →
            ∃ t, exec (.segmentUndefine (BitVec.ofNat 8 g.val)) s = .next t ∧ Answers [.smu, .itu] 0x12 .ok [] s t
              ∧ t.segment g = { defn := none, run := initial 0 60000 } ∧ KeepsOtherSegments g s t ∧ flushed t)
        ∧ (s.defn g = none →
            ∃ t, exec (.segmentUndefine (BitVec.ofNat 8 g.val)) s = .next t ∧ Answers [] 0x12 .ok [] s t)
        ∧ ∀ b : Byte, 23 < b.toNat →
            ∃ t, exec (.segmentUndefine b) s = .next t ∧ Refuses 0x12 .badValue [] s t)

/-- SEGMENT_READ: BAD_VALUE above 23; otherwise OK, in both modes. The data report the whole record: the defined flag and
the definition, zeros and absent fields for an undefined segment; the supervision state, attempts left, the interval
count, whether the timer runs, the timing reference, the timeout and the run line's level; V, the slip figure and the
residue; the open window with D and I; both window counts; the six measurement counters; and the tracking figures and
counters. With the clear option the twelve counters become 0, and nothing else changes (R21, R23, R24, R62). The sizes and
the order within a group are the model's reading (log 21). -/
def Obligations.SegmentReadRule : Prop :=
  ∀ (segment : Byte) (clear : Bool) (s : State),
    (23 < segment.toNat → ∃ t, exec (.segmentRead segment clear) s = .next t ∧ Refuses 0x13 .badValue [] s t)
    ∧ ∀ g : SegNo, segment.toNat = g.val →
      let r := s.run g
      let k := s.track g
      let optional : Option Nat → Byte := fun o => match o with
        | none => 0xFF
        | some x => BitVec.ofNat 8 x
      let definition : List Byte := match s.defn g with
        | none => [0, 0, 255, 255, 255, 255, 255, 255] ++ List.replicate 25 0
        | some d => [1, BitVec.ofNat 8 d.driveLine.val]
            ++ [d.idlerLine, d.entryGate, d.exitGate, d.runLine].map (fun l => optional (l.map (·.val)))
            ++ [d.straight, d.divert].map (fun h => optional (h.map (·.val)))
            ++ [d.driveCal, d.idlerCal, d.windowSize, d.nominal, d.maxDeviation, d.deadband].flatMap (be 2)
            ++ [d.step, d.acquireAttempts, d.lossLimit].flatMap (be 1) ++ be 2 d.slipThreshold ++ be 1 d.slipRunCount
            ++ [d.length, d.fallbackLoad, d.unannouncedMass].flatMap (be 2) ++ be 1 d.resyncThreshold
      let state : Byte := match r.supervision with
        | .off => 0 | .stopped => 1 | .acquire => 2 | .track => 3 | .idlerLost => 4 | .driveLost => 5 | .failed => 6
      let level : Byte := match (s.defn g).bind (·.runLine) with
        | none => 0xFF
        | some l => match (s.line l).level with
          | .inactive => 0
          | .active => 1
      let window : List Byte := match r.window with
        | none => [0, 0, 0, 0, 0]
        | some w => [1] ++ be 2 w.drive ++ be 2 w.idler
      ∃ (t : State) (data : List Byte) (timer : Byte),
        exec (.segmentRead segment clear) s = .next t ∧ Answers [.smu, .itu] 0x13 .ok data s t ∧ data.length = 92
        ∧ (timer = 0 ∨ timer = 1)
        ∧ (timer = 1 ↔ r.supervision ∈ [.acquire, .track, .idlerLost, .driveLost]
            ∨ (r.supervision = .failed ∧ ∃ d, s.defn g = some d ∧ RunsNow s d))
        ∧ data = definition ++ [state] ++ be 1 r.attemptsLeft ++ be 1 r.intervals ++ [timer] ++ be 4 r.timingRef.toNat
            ++ be 2 r.timeout ++ [level] ++ [r.speed, r.slip, r.residue].flatMap (be 2) ++ window
            ++ [r.windowCount, r.closingCount, r.fullWindows, r.partialWindows, r.timeouts, r.slipAlarms, r.speedHits,
              r.pulsesIgnored].flatMap (be 2)
            ++ be 1 k.arrival.length ++ be 1 k.transit.length ++ be 3 (k.transit.map (·.mass)).sum ++ be 2 k.lastLoad
            ++ [if k.resync then 1 else 0] ++ be 1 k.errors
            ++ [k.unannounced, k.phantom, k.stale, k.dropped, k.delivered, k.resyncs].flatMap (be 2)
        ∧ t.itu.free = s.itu.free ∧ KeepsOtherSegments g s t ∧ KeepsOtherTracks g s t
        ∧ (clear = false → t.segment g = s.segment g ∧ t.track g = s.track g)
        ∧ (clear = true → t.defn g = s.defn g
            ∧ t.run g = { s.run g with
                fullWindows := 0, partialWindows := 0, timeouts := 0, slipAlarms := 0, speedHits := 0
                pulsesIgnored := 0 }
            ∧ t.track g = { s.track g with
                unannounced := 0, phantom := 0, stale := 0, dropped := 0, delivered := 0, resyncs := 0 })

/-! ### Measurement windows and closes (01 sections 1.3 to 1.6, 02) -/

/-- A pulse event goes to every segment whose drive or idler line it is, each on its own account, and to no other: an
idler pulse counts in the open window, and a drive pulse that closes no window is discarded, counted as ignored, counted
in the window, or opens one, by the supervision state; one that finds a lost drive with no window open reckons the
part-interval too (R4, R10, R24, R26, R32, R34, R35). -/
def Obligations.PulsesReachTheirSegments : Prop :=
  ∀ (l : LineNo) (s : State), ReadyToRise s l .pulse →
    ∃ t, exec (.acceptedTransition l) s = .next t ∧ KeepsAllBut [.siu, .smu, .itu, .wau, .nq] s t
      ∧ (∀ g, t.defn g = s.defn g)
      ∧ (∀ g, (∀ d, s.defn g = some d → d.driveLine ≠ l ∧ d.idlerLine ≠ some l) → t.run g = s.run g)
      ∧ (∀ g d, s.defn g = some d → d.driveLine ≠ l → d.idlerLine = some l →
          t.run g = { s.run g with
            window := (s.run g).window.map fun w => { w with idler := min (w.idler + 1) 65535 } })
      ∧ ∀ g d, s.defn g = some d → d.driveLine = l → d.idlerLine ≠ some l →
          let r := s.run g
          let opened : Option MeasWindow := some { openTick := s.etm.tick, drive := 0, idler := 0 }
          (r.supervision = .off → t.run g = r)
          ∧ (r.supervision = .failed → t.run g = { r with pulsesIgnored := min (r.pulsesIgnored + 1) 65535 })
          ∧ (r.supervision = .stopped → d.runLine.isSome → ¬ RunsNow t d → t.run g = r)
          ∧ (r.supervision = .stopped → d.runLine = none ∨ RunsNow t d →
              t.run g = { r with
                supervision := .acquire, attemptsLeft := d.acquireAttempts, window := opened, timingRef := s.etm.tick })
          ∧ (r.supervision ∈ [.acquire, .track, .idlerLost] → r.window = none →
              t.run g = { r with window := opened, timingRef := s.etm.tick })
          ∧ (r.supervision = .driveLost → r.window = none →
              t.run g = { r.partReckoned (s.etm.tick - r.timingRef).toNat with
                window := opened, timingRef := s.etm.tick })
          ∧ (r.supervision ∈ [.acquire, .track, .idlerLost, .driveLost] → ∀ w, r.window = some w →
              w.drive + 1 < d.windowSize → t.run g = { r with window := some { w with drive := w.drive + 1 } })

/-- A drive pulse that brings D to W closes the window in full at each segment that it drives, whatever other segments the line
serves: the close yields the travel through the residue, the slip figure where the idler turned, V moved by at most one
step toward the measured speed and clamped to the band, and the new timeout (R4, R10 to R13, R15, R18). The closes, and the
part-intervals of lost drives, are handed on segment by segment with their travel and the slip figure after the close,
first to the ITU and then to the WAU; every field of a segment's record that the close does not name, and every segment
that the line does not serve, is as it was (R17, R18, R32); that attempts left is one of those fields where the close ends
ACQUIRE is the model's reading (log 13). The order of the segments is left open (log 6). -/
def Obligations.FullCloseFigures : Prop :=
  (∀ (l : LineNo) (g : SegNo) (d : SegDef) (w : MeasWindow) (s : State), ReadyToRise s l .pulse → ClosesAt s l g d w →
      let r := s.run g
      let td := d.windowSize * d.driveCal
      let ti := w.idler * d.idlerCal
      let v := td / max (s.etm.tick - w.openTick).toNat 1
      let lo := d.nominal - d.maxDeviation
      let hi := min (d.nominal + d.maxDeviation) 20000
      ∃ t, exec (.acceptedTransition l) s = .next t
        ∧ (t.run g).residue = (td + r.residue) % 1000
        ∧ (d.idlerLine.isSome → 1 ≤ w.idler → ti < td → (t.run g).slip = min (1000 * (td - ti) / td) 1000)
        ∧ (d.idlerLine.isSome → 1 ≤ w.idler → td ≤ ti → (t.run g).slip = 0)
        ∧ ((d.idlerLine = none ∨ w.idler = 0) → (t.run g).slip = r.slip)
        ∧ (r.speed + d.deadband < v → (t.run g).speed = min (max (min (r.speed + d.step) v) lo) hi)
        ∧ (v + d.deadband < r.speed → (t.run g).speed = min (max (max (r.speed - d.step) v) lo) hi)
        ∧ (r.speed ≤ v + d.deadband → v ≤ r.speed + d.deadband → (t.run g).speed = min (max r.speed lo) hi)
        ∧ (t.run g).timeout = min (max (4 * (td / (t.run g).speed)) 20) 60000)
  ∧ (∀ (l : LineNo) (s : State), ReadyToRise s l .pulse →
        ∃ t, exec (.acceptedTransition l) s = .next t ∧ KeepsAllBut [.siu, .smu, .itu, .wau, .nq] s t
          ∧ AllHandedOn (fun g => s.pulseReport l g (t.run g).slip) s.etm.settings.checkpoint s t
          ∧ (∀ g, t.defn g = s.defn g)
          ∧ (∀ g, (∀ d, s.defn g = some d → d.driveLine ≠ l ∧ d.idlerLine ≠ some l) → t.segment g = s.segment g)
          ∧ ∀ g d w, ClosesAt s l g d w →
            (t.run g).partialWindows = (s.run g).partialWindows ∧ (t.run g).timeouts = (s.run g).timeouts
            ∧ (t.run g).pulsesIgnored = (s.run g).pulsesIgnored ∧ (t.run g).closingCount = (s.run g).closingCount
            ∧ (t.run g).attemptsLeft = (s.run g).attemptsLeft)

/-- At each segment whose window a drive pulse closes, the full close counts a full window, opens the next window at the
closing pulse, updates the speed-limit flag and the slip alarm with their notices, and moves the supervision state:
ACQUIRE and DRIVE_LOST to TRACK, TRACK to IDLER_LOST when a fitted idler stood still, IDLER_LOST back to TRACK when it
turned (R4, R14, R16, R18, R21, R27, R29, R30, R34, R39). That each segment's notices stand together is the model's choice
(log 35), that those of the close handed on come between the SMU's own is the model's reading (log 14), and the order of
the segments is left open (log 6). A segment that hands nothing on posts none. -/
def Obligations.FullCloseReactions : Prop :=
  ∀ (l : LineNo) (s : State), ReadyToRise s l .pulse →
    ∃ (t : State) (notes : SegNo → List (NoticeKind × Nat × Nat)) (order : List SegNo),
      exec (.acceptedTransition l) s = .next t ∧ order.Perm allSegments ∧ Posts (order.flatMap notes) s t
    ∧ (∀ g, s.pulseReport l g 0 = none → notes g = [])
    ∧ (∀ g, (s.run g).window = none → ∀ n ∈ notes g, n.1 ∈ handOnKinds)
    ∧ ∀ (g : SegNo) (d : SegDef) (w : MeasWindow), ClosesAt s l g d w →
    let r := s.run g
    let v := d.windowSize * d.driveCal / max (s.etm.tick - w.openTick).toNat 1
    let lo := d.nominal - d.maxDeviation
    let hi := min (d.nominal + d.maxDeviation) 20000
    let V := (t.run g).speed
    let slip := (t.run g).slip
    let hit := (V = hi ∧ hi < v) ∨ (V = lo ∧ v < lo)
    let slips := d.idlerLine.isSome ∧ 1 ≤ w.idler
    let beyond := slips ∧ d.slipThreshold < slip
    let alarm := beyond ∧ d.slipRunCount ≤ min (r.slipRun + 1) 15 ∧ r.slipArmed = true
    let lost := r.supervision = .track ∧ d.idlerLine.isSome ∧ w.idler = 0
    let stays := r.supervision = .idlerLost ∧ w.idler = 0
    (t.run g).window = some { openTick := s.etm.tick, drive := 0, idler := 0 } ∧ (t.run g).timingRef = s.etm.tick
    ∧ (t.run g).fullWindows = min (r.fullWindows + 1) 65535
    ∧ (t.run g).windowCount = min (r.windowCount + 1) 65535
    ∧ (hit → (t.run g).speedHits = min (r.speedHits + 1) 65535 ∧ (t.run g).speedArmed = false)
    ∧ (¬ hit → (t.run g).speedHits = r.speedHits
        ∧ ((t.run g).speedArmed = true ↔ (lo < V ∧ V < hi) ∨ r.speedArmed = true))
    ∧ (beyond → (t.run g).slipRun = min (r.slipRun + 1) 15)
    ∧ (slips → ¬ beyond → (t.run g).slipRun = 0 ∧ (t.run g).slipArmed = true)
    ∧ (¬ slips → (t.run g).slipRun = r.slipRun ∧ (t.run g).slipArmed = r.slipArmed)
    ∧ (alarm → (t.run g).slipArmed = false ∧ (t.run g).slipAlarms = min (r.slipAlarms + 1) 65535)
    ∧ (beyond → ¬ alarm → (t.run g).slipArmed = r.slipArmed) ∧ (¬ alarm → (t.run g).slipAlarms = r.slipAlarms)
    ∧ (lost ∨ stays → (t.run g).supervision = .idlerLost) ∧ (¬ lost → ¬ stays → (t.run g).supervision = .track)
    ∧ (t.run g).intervals = (if r.supervision = .driveLost then 0 else r.intervals)
    ∧ ∃ before between after, notes g = before ++ between ++ after ∧ (∀ n ∈ between, n.1 ∈ handOnKinds)
        ∧ (hit ∧ r.speedArmed = true → alarm → before = [(.speedLimit, g.val, v), (.slipAlarm, g.val, slip)])
        ∧ (hit ∧ r.speedArmed = true → ¬ alarm → before = [(.speedLimit, g.val, v)])
        ∧ (¬ (hit ∧ r.speedArmed = true) → alarm → before = [(.slipAlarm, g.val, slip)])
        ∧ (¬ (hit ∧ r.speedArmed = true) → ¬ alarm → before = [])
        ∧ after = (if r.supervision = .track ∧ d.idlerLine.isSome ∧ w.idler = 0 then [(.segIdlerLost, g.val, r.slip)]
            else if r.supervision = .idlerLost ∧ 1 ≤ w.idler then [(.segRecovered, g.val, 0)]
            else if r.supervision = .driveLost then [(.segRecovered, g.val, r.intervals)] else [])

/-- A drive pulse that reaches a segment in DRIVE_LOST with no window open reckons the part-interval from the timing
reference to its tick, and opens a window (R32, R34). SEGMENT_REARM: BAD_VALUE above 23; a segment in FAILED has the
part-interval reckoned while its run line is ACTIVE and enters STOPPED with interval count 0 and no notice of its own;
in any other state, and for an undefined segment, the reply is OK and nothing else changes (R37). -/
def Obligations.PartIntervalsAreReckoned : Prop :=
  (∀ (l : LineNo) (g : SegNo) (d : SegDef) (s : State), ReadyToRise s l .pulse → DrivesOnly s l g d →
      (s.run g).supervision = .driveLost → (s.run g).window = none →
      let ms := (s.etm.tick - (s.run g).timingRef).toNat
      ∃ t, exec (.acceptedTransition l) s = .next t
        ∧ t.run g = { (s.run g).partReckoned ms with
            window := some { openTick := s.etm.tick, drive := 0, idler := 0 }, timingRef := s.etm.tick }
        ∧ PartReckoned g d ms s t ∧ KeepsOtherSegments g s t ∧ PostsAround [] [] s t)
  ∧ (∀ (segment : Byte) (s : State),
        (23 < segment.toNat → ∃ t, exec (.segmentRearm segment) s = .next t ∧ Refuses 0x14 .badValue [] s t)
        ∧ ∀ g : SegNo, segment.toNat = g.val →
          ((s.run g).supervision ≠ .failed ∨ s.defn g = none →
            ∃ t, exec (.segmentRearm segment) s = .next t ∧ Answers [] 0x14 .ok [] s t)
          ∧ ∀ d, s.defn g = some d → (s.run g).supervision = .failed → (s.run g).window = none →
            let ms := (s.etm.tick - (s.run g).timingRef).toNat
            ∃ t, exec (.segmentRearm segment) s = .next t ∧ Answers [.smu, .itu, .wau, .nq] 0x14 .ok [] s t
              ∧ KeepsOtherSegments g s t ∧ t.defn g = s.defn g ∧ PostsAround [] [] s t
              ∧ (RunsNow s d →
                  t.run g = { (s.run g).partReckoned ms with
                    supervision := .stopped, timingRef := s.etm.tick, intervals := 0 }
                  ∧ PartReckoned g d ms s t)
              ∧ (¬ RunsNow s d →
                  t.run g = { s.run g with supervision := .stopped, timingRef := s.etm.tick, intervals := 0 }
                  ∧ NothingHandedOn s t))

/-- SEGMENT_TIMER_EXPIRY of a timer that does not run, or whose timeout has not passed, changes nothing (the model's
choice for a command that comes when no expiry occurs, log 4); one that is due counts a timeout and moves the timing
reference to the expiry tick, closes an open window that counted a pulse as a partial window, and otherwise reacts by
the supervision state (R19, R24, R28, R31, R33, R35, R39). The order of the notices, SEG_LOST before those of the interval
handed on and SEG_FAILED after them, is the model's reading (log 14). -/
def Obligations.TimerExpires : Prop :=
  ∀ (g : SegNo) (s : State),
    ((∀ d, ¬ ExpiryDue s g d) → exec (.segmentTimerExpiry g) s = .next s)
    ∧ ∀ d, ExpiryDue s g d →
      ∃ t, exec (.segmentTimerExpiry g) s = .next t ∧ KeepsAllBut [.smu, .itu, .wau, .nq] s t ∧ KeepsOtherSegments g s t
        ∧ t.defn g = s.defn g
        ∧ (let r : SegRun := { s.run g with
             timeouts := min ((s.run g).timeouts + 1) 65535
             timingRef := (s.run g).timingRef + BitVec.ofNat 32 (s.run g).timeout }
           let V := r.speed
           let reckons : Nat → Prop := fun count =>
             t.run g = { r.reckoned r.timeout with
               intervals := count
               supervision := if r.supervision ≠ .failed ∧ d.lossLimit ≤ count then .failed
                 else if r.supervision = .failed then .failed else .driveLost }
             ∧ HandedOn g d .reckoning (r.reckonedTravel r.timeout) r.slip s t
           (∀ w, PartialAt s g w →
             t.run g = r.partlyClosed d w ∧ HandedOn g d .partialWindow (r.partialTravel d w) r.slip s t
             ∧ PostsAround [] [] s t)
           ∧ (EmptyAt s g → r.supervision ∈ [.acquire, .track, .idlerLost] → d.runLine = none →
               t.run g = { r with window := none, supervision := .stopped } ∧ NothingHandedOn s t ∧ Posts [] s t)
           ∧ (EmptyAt s g → r.supervision = .acquire → d.runLine.isSome → 1 < r.attemptsLeft →
               t.run g = { r with window := none, attemptsLeft := r.attemptsLeft - 1 } ∧ NothingHandedOn s t
               ∧ Posts [] s t)
           ∧ (EmptyAt s g → r.supervision = .acquire → d.runLine.isSome → r.attemptsLeft ≤ 1 →
               t.run g = { r with window := none, attemptsLeft := 0, supervision := .driveLost, intervals := 0 }
               ∧ NothingHandedOn s t ∧ Posts [(.segLost, g.val, V)] s t)
           ∧ (EmptyAt s g → r.supervision = .track ∨ r.supervision = .idlerLost → d.runLine.isSome →
               reckons 1 ∧ PostsAround [(.segLost, g.val, V)] (if d.lossLimit ≤ 1 then [(.segFailed, g.val, 1)] else [])
                 s t)
           ∧ (EmptyAt s g → r.supervision = .driveLost →
               reckons (min (r.intervals + 1) 255)
               ∧ PostsAround [] (if d.lossLimit ≤ min (r.intervals + 1) 255
                   then [(.segFailed, g.val, min (r.intervals + 1) 255)] else []) s t)
           ∧ (EmptyAt s g → r.supervision = .failed → reckons (min (r.intervals + 1) 255) ∧ PostsAround [] [] s t))

/-- A run event goes to every segment whose run line it is, each on its own account, and to no other. A run-on starts
acquisition from STOPPED and the timer from FAILED; a run-off closes or abandons the open window, reckons the part-interval of
a lost drive or a failed segment, and stops the segment, but one in FAILED stays there (R4, R20, R26, R35, R36). The
part-closes and part-intervals are handed on segment by segment, first to the ITU and then to the WAU (R17, R20, R32); the
order of the segments is left open (log 6). That a run-off sets the timing reference also where the timer then does not run,
and that attempts left stands at the end of ACQUIRE, is the model's reading (logs 12 and 13). -/
def Obligations.RunEventsStartAndStop : Prop :=
  ∀ (l : LineNo) (s : State), (s.line l).role = .run →
    let now := s.etm.tick
    ∃ t, exec (.acceptedTransition l) s = .next t ∧ (∀ g, t.defn g = s.defn g)
      ∧ (∀ g, (∀ d, s.defn g = some d → d.runLine ≠ some l) → t.segment g = s.segment g)
      ∧ ((s.line l).level = .inactive → KeepsAllBut [.siu, .smu] s t
          ∧ ∀ g d, s.defn g = some d → d.runLine = some l →
            let r := s.run g
            (r.supervision = .stopped →
              t.run g = { r with supervision := .acquire, attemptsLeft := d.acquireAttempts, timingRef := now })
            ∧ (r.supervision = .failed → t.run g = { r with timingRef := now })
            ∧ (r.supervision ∉ [.stopped, .failed] → t.run g = r))
      ∧ ((s.line l).level = .active → KeepsAllBut [.siu, .smu, .itu, .wau, .nq] s t ∧ PostsAround [] [] s t
          ∧ AllHandedOn (s.runOffReport l) s.etm.settings.checkpoint s t
          ∧ ((∀ g d, s.defn g = some d → d.runLine = some l → (s.run g).supervision ∈ [.off, .stopped]) →
              KeepsAllBut [.siu] s t)
          ∧ ((∀ g, s.runOffReport l g = none) → KeepsAllBut [.siu, .smu] s t)
          ∧ ∀ g d, s.defn g = some d → d.runLine = some l →
            let r := s.run g
            let ms := (now - r.timingRef).toNat
            (r.supervision ∈ [.off, .stopped] → t.run g = r)
            ∧ (r.supervision ∈ [.acquire, .track, .idlerLost, .driveLost] → ∀ w, PartialAt s g w →
                t.run g = { r.partlyClosed d w with
                  supervision := .stopped, timingRef := now
                  intervals := if r.supervision = .driveLost then 0 else r.intervals })
            ∧ (r.supervision ∈ [.acquire, .track, .idlerLost] → EmptyAt s g →
                t.run g = { r with window := none, supervision := .stopped, timingRef := now })
            ∧ (r.supervision = .driveLost → EmptyAt s g →
                t.run g = { r.partReckoned ms with supervision := .stopped, timingRef := now, intervals := 0 })
            ∧ (r.supervision = .failed → r.window = none → t.run g = { r.partReckoned ms with timingRef := now }))

/-! ### Items (03) -/

/-- ITEM_ANNOUNCE: BAD_VALUE for a segment above 23, undefined or without an entry gate, and for a route length above
12; then NO_ROOM for an arrival list of 32 or an empty free list; otherwise one free entry takes the item at the tail of
the arrival list, and the data hold that list's length and the free entries left (R44). -/
def Obligations.ItemAnnounceRule : Prop :=
  ∀ (segment : Byte) (tag mass : BitVec 16) (routeLength : Byte) (route : BitVec 16) (s : State),
    let i : Instr := .itemAnnounce segment tag mass routeLength route
    ((∀ g : SegNo, segment.toNat = g.val → ¬ Takes s g) ∨ 12 < routeLength.toNat →
      ∃ t, exec i s = .next t ∧ Refuses 0x18 .badValue [] s t)
    ∧ ∀ g : SegNo, segment.toNat = g.val → Takes s g → routeLength.toNat ≤ 12 →
      (32 ≤ (s.track g).arrival.length ∨ s.itu.free = 0 → ∃ t, exec i s = .next t ∧ Refuses 0x18 .noRoom [] s t)
      ∧ ((s.track g).arrival.length < 32 → 0 < s.itu.free →
          ∃ t, exec i s = .next t
            ∧ Answers [.itu] 0x18 .ok (be 1 ((s.track g).arrival.length + 1) ++ be 2 (s.itu.free - 1)) s t
            ∧ t.itu.free = s.itu.free - 1 ∧ KeepsOtherTracks g s t
            ∧ t.track g = { s.track g with
                arrival := (s.track g).arrival ++
                  [{ tag, mass := mass.toNat, route := (List.range routeLength.toNat).map fun j => route.getLsbD j
                     unknown := false, travel := 0 }] })

/-- The successor of an item that leaves a segment, and the route it keeps: the front bit is consumed where both
successors are defined and a bit is left, and no bit elsewhere (R50). -/
def Obligations.SuccessorChosen : Prop :=
  ∀ (d : SegDef) (route : List Bool),
    (∀ a v, d.straight = some a → d.divert = some v →
      (∀ rest, route = false :: rest → chooseSuccessor d route = (some a, rest))
      ∧ (∀ rest, route = true :: rest → chooseSuccessor d route = (some v, rest))
      ∧ (route = [] → chooseSuccessor d route = (some a, [])))
    ∧ (∀ a, d.straight = some a → d.divert = none → chooseSuccessor d route = (some a, route))
    ∧ (d.straight = none → d.divert = none → (chooseSuccessor d route).1 = none)

/-- An entry event in COUNTING takes the oldest arrival onto the transit list, or counts an unannounced entry and its
tracking error first and then enters an unknown item; an item that finds no place is dropped with its cause. In SETUP
the event is discarded (R45 to R47, R53, R59, R60). -/
def Obligations.EntriesAreTracked : Prop :=
  ∀ (l : LineNo) (g : SegNo) (d : SegDef) (s : State), ReadyToRise s l .gate → EntersOnly s l g d →
    let a := s.track g
    let e := { a with unannounced := min (a.unannounced + 1) 65535 }
    let u := e.erred d.resyncThreshold
    let freed := s.itu.free + e.flushedAt d.resyncThreshold
    let notes := e.resyncNotes g d.resyncThreshold
    ∃ t, exec (.acceptedTransition l) s = .next t ∧ KeepsAllBut [.siu, .itu, .nq] s t
      ∧ (s.rqd.mode = .setup → KeepsAllBut [.siu] s t)
      ∧ (s.rqd.mode = .counting → KeepsOtherTracks g s t
        ∧ (∀ item rest, a.arrival = item :: rest → a.transit.length < 64 →
            t.track g = { a with arrival := rest, transit := a.transit ++ [{ item with travel := 0 }] }
            ∧ t.itu.free = s.itu.free ∧ Posts [] s t)
        ∧ (∀ item rest, a.arrival = item :: rest → 64 ≤ a.transit.length →
            t.track g = { a with arrival := rest, dropped := min (a.dropped + 1) 65535 }
            ∧ t.itu.free = s.itu.free + 1 ∧ Posts [(.trackOverflow, g.val, 1)] s t)
        ∧ (a.arrival = [] → u.transit.length < 64 → 0 < freed →
            t.track g = { u with
              transit := u.transit ++
                [{ tag := 0, mass := d.unannouncedMass, route := [], unknown := true, travel := 0 }] }
            ∧ t.itu.free = freed - 1 ∧ Posts notes s t)
        ∧ (a.arrival = [] → u.transit.length < 64 → freed = 0 →
            t.track g = { u with dropped := min (u.dropped + 1) 65535 } ∧ t.itu.free = 0
            ∧ Posts (notes ++ [(.trackOverflow, g.val, 2)]) s t)
        ∧ (a.arrival = [] → 64 ≤ u.transit.length →
            t.track g = { u with dropped := min (u.dropped + 1) 65535 } ∧ t.itu.free = freed
            ∧ Posts (notes ++ [(.trackOverflow, g.val, 1)]) s t))

/-- An exit event in COUNTING at a tracked segment counts a phantom and its tracking error when nothing is in transit;
otherwise the head leaves, the error count becomes 0, RESYNC ends, and the item is delivered, handed on to the successor
its route chooses, or dropped at a full one. In SETUP the event is discarded (R48, R49, R51, R53, R59 to R61). -/
def Obligations.ExitsAreTracked : Prop :=
  ∀ (l : LineNo) (g : SegNo) (d : SegDef) (s : State), ReadyToRise s l .gate → ExitsOnly s l g d →
    let a := s.track g
    let p := { a with phantom := min (a.phantom + 1) 65535 }
    ∃ t, exec (.acceptedTransition l) s = .next t ∧ KeepsAllBut [.siu, .itu, .nq] s t
      ∧ (s.rqd.mode = .setup → KeepsAllBut [.siu] s t)
      ∧ (s.rqd.mode = .counting → a.transit = [] →
          t.track g = p.erred d.resyncThreshold ∧ KeepsOtherTracks g s t
          ∧ t.itu.free = s.itu.free + p.flushedAt d.resyncThreshold ∧ Posts (p.resyncNotes g d.resyncThreshold) s t)
      ∧ (s.rqd.mode = .counting → ∀ item rest, a.transit = item :: rest →
        let chosen := chooseSuccessor d item.route
        ((∀ b, chosen.1 = some b → ¬ Takes s b) →
          t.track g = { a.left rest with delivered := min (a.delivered + 1) 65535 } ∧ KeepsOtherTracks g s t
          ∧ t.itu.free = s.itu.free + 1 ∧ Posts [] s t)
        ∧ ∀ b, chosen.1 = some b → Takes s b → b ≠ g →
          ((s.track b).arrival.length < 32 →
            t.track g = a.left rest
            ∧ t.track b = { s.track b with
                arrival := (s.track b).arrival ++ [{ item with route := chosen.2, travel := 0 }] }
            ∧ KeepsTracksBut g b s t ∧ t.itu.free = s.itu.free ∧ Posts [] s t)
          ∧ (32 ≤ (s.track b).arrival.length →
            t.track g = { a.left rest with dropped := min (a.dropped + 1) 65535 } ∧ KeepsOtherTracks g s t
            ∧ t.itu.free = s.itu.free + 1 ∧ Posts [(.trackOverflow, g.val, 3)] s t))

/-- A transfer event is taken exit first: an item handed on to an empty arrival list is the one that enters, and waits
behind older arrivals otherwise; a phantom of the one segment is counted before the other's entry; where the segment
left is not tracked the event is an entry alone, and an exit gate of such a segment that is no entry gate does nothing. In
every case the event is the exit of the one segment, by whatever route its item departs, and then, on the state the exit
leaves, the entry of the other, announced or not, into whatever room its lists have (R43, R45 to R52, R59 to R61). -/
def Obligations.TransfersExitFirst : Prop :=
  (∀ (l : LineNo) (a b : SegNo) (da db : SegDef) (s : State),
    ReadyToRise s l .gate → Transfers s l a b da db → s.rqd.mode = .counting → (s.track b).transit.length < 64 →
    ∃ t, exec (.acceptedTransition l) s = .next t ∧ KeepsAllBut [.siu, .itu, .nq] s t
      ∧ (da.entryGate = none → ∀ x xs, (s.track b).arrival = x :: xs →
          KeepsOtherTracks b s t ∧ t.itu.free = s.itu.free ∧ Posts [] s t
          ∧ t.track b = { s.track b with
              arrival := xs, transit := (s.track b).transit ++ [{ x with travel := 0 }] })
      ∧ (da.entryGate.isSome → (s.track a).transit = [] → ∀ x xs, (s.track b).arrival = x :: xs →
          let p := { s.track a with phantom := min ((s.track a).phantom + 1) 65535 }
          KeepsTracksBut a b s t ∧ t.track a = p.erred da.resyncThreshold ∧ Posts (p.resyncNotes a da.resyncThreshold) s t
          ∧ t.track b = { s.track b with
              arrival := xs, transit := (s.track b).transit ++ [{ x with travel := 0 }] })
      ∧ (da.entryGate.isSome → ∀ item rest, (s.track a).transit = item :: rest →
          (s.track b).arrival.length < 32 → ∀ route, chooseSuccessor da item.route = (some b, route) →
          KeepsTracksBut a b s t ∧ t.track a = (s.track a).left rest ∧ t.itu.free = s.itu.free ∧ Posts [] s t
          ∧ ((s.track b).arrival = [] →
              t.track b = { s.track b with
                transit := (s.track b).transit ++ [{ item with route := route, travel := 0 }] })
          ∧ (∀ x xs, (s.track b).arrival = x :: xs →
              t.track b = { s.track b with
                arrival := xs ++ [{ item with route := route, travel := 0 }]
                transit := (s.track b).transit ++ [{ x with travel := 0 }] })))
  ∧ (∀ (l : LineNo) (a b : SegNo) (da db : SegDef) (s : State),
    ReadyToRise s l .gate → Transfers s l a b da db → s.rqd.mode = .counting →
    ∃ m t, exec (.acceptedTransition l) s = .next t ∧ KeepsAllBut [.siu, .itu, .nq] s m
      ∧ KeepsAllBut [.siu, .itu, .nq] s t
      ∧ (da.entryGate = none → m.itu = s.itu ∧ m.nq = s.nq)
      ∧ (da.entryGate.isSome → ItemExits a da s m)
      ∧ ItemEnters b db m t)
  ∧ ∀ (l : LineNo) (s : State), ReadyToRise s l .gate →
      (∀ h e, s.defn h = some e → (e.exitGate = some l → e.entryGate = none) ∧ e.entryGate ≠ some l) →
      ∃ t, exec (.acceptedTransition l) s = .next t ∧ KeepsAllBut [.siu] s t

/-- What a close does at the ITU: the load, given first and stored, is the fallback load without an entry gate and
otherwise the masses in transit in whole kilograms, at most 1023, and not below the fallback load while RESYNC is set;
then every item in transit is aged, and from the head the stale entries of a segment with an exit gate are removed, each
a tracking error, and those that have ridden the length of a segment without one leave as clean exits, one after another,
each by its own route and into the room that those before it have left (R49 to R51, R54 to R57, R59 to R61). -/
def Obligations.CloseAgesItems : Prop :=
  ∀ (g : SegNo) (d : SegDef) (travel : Nat) (s : State),
    let a := s.track g
    let load := a.load d
    let t := (s.storeLoad g load).ageItems g d travel
    let aged := agedBy travel a.transit
    let masses := (a.transit.map (·.mass)).sum
    let stale := aged.takeWhile fun i => decide (2 * d.length ≤ i.travel)
    let ridden := aged.takeWhile fun i => decide (d.length ≤ i.travel)
    (d.entryGate = none → load = d.fallbackLoad)
    ∧ (d.entryGate.isSome → a.resync = false → load = min (masses / 100) 1023)
    ∧ (d.entryGate.isSome → a.resync = true → load = max (min (masses / 100) 1023) d.fallbackLoad)
    ∧ KeepsAllBut [.itu, .nq] s t ∧ (t.track g).lastLoad = load
    ∧ (d.entryGate = none →
        t.track g = { a with lastLoad := load, transit := aged } ∧ KeepsOtherTracks g s t ∧ t.itu.free = s.itu.free
        ∧ Posts [] s t)
    ∧ (d.entryGate.isSome → d.exitGate.isSome → KeepsOtherTracks g s t
      ∧ (a.resync = true ∨ a.errors + stale.length < d.resyncThreshold →
          t.track g = { a with
            lastLoad := load, transit := aged.drop stale.length
            stale := if stale = [] then a.stale else min (a.stale + stale.length) 65535
            errors := if a.resync then a.errors else a.errors + stale.length }
          ∧ t.itu.free = s.itu.free + stale.length ∧ Posts [] s t)
      ∧ (a.resync = false → a.errors < d.resyncThreshold → d.resyncThreshold ≤ a.errors + stale.length →
          let removed := d.resyncThreshold - a.errors
          t.track g = { a with
            lastLoad := load, arrival := [], transit := [], resync := true, errors := 0
            stale := min (a.stale + removed) 65535, resyncs := min (a.resyncs + 1) 65535 }
          ∧ t.itu.free = s.itu.free + a.count ∧ Posts [(.trackResync, g.val, a.count - removed)] s t))
    ∧ (d.entryGate.isSome → d.exitGate = none →
      let kept : Tracking := { a with
        lastLoad := load, transit := aged.drop ridden.length, errors := if ridden = [] then a.errors else 0
        resync := if ridden = [] then a.resync else false }
      ((∀ b, d.straight = some b ∨ d.divert = some b → ¬ Takes s b) →
        t.track g = { kept with
          delivered := if ridden = [] then a.delivered else min (a.delivered + ridden.length) 65535 }
        ∧ KeepsOtherTracks g s t ∧ t.itu.free = s.itu.free + ridden.length ∧ Posts [] s t)
      ∧ ∀ b, d.straight = some b → d.divert = none → Takes s b → b ≠ g →
        (s.track b).arrival.length + ridden.length ≤ 32 →
        t.track g = kept ∧ KeepsTracksBut g b s t ∧ t.itu.free = s.itu.free ∧ Posts [] s t
        ∧ t.track b = { s.track b with
            arrival := (s.track b).arrival ++ ridden.map fun i => { i with travel := 0 } })
    ∧ (d.entryGate.isSome → d.exitGate = none →
      ∃ u, KeepsAllBut [.itu] s u ∧ KeepsOtherTracks g s u ∧ u.itu.free = s.itu.free
        ∧ u.track g = { a with lastLoad := load, transit := aged }
        ∧ DepartAll g d ridden (aged.drop ridden.length) u t)

/-- Every step keeps the item pool whole and every list within its capacity (R40, R41). -/
def Obligations.ItemPoolKept : Prop :=
  ∀ s t : State, PoolInv s → step s = .next t → PoolInv t

/-! ### Members and wear (04) -/

/-- The two factors of an accrual, and their ranges over a close report's load and slip (R70). The product of an accrual
is divided by 2^20 into ΔW and the new residue: nothing is lost between them, the residue stays below 2^20, a travel of
0 gives no wear, with both factors at 1024 one millimetre gives one wu, and over any run of accruals at fixed factors
the sum of ΔW falls short of the exact wear by less than 1 wu; the greatest travel of one report is 1,200,000 mm, at
which the product and ΔW fit (R71). -/
def Obligations.AccrualArithmetic : Prop :=
  (∀ load slip kLoad kSlip : Nat,
      loadFactor load kLoad = 1024 + load * kLoad / 16 ∧ slipFactor slip kSlip = 1024 + slip * kSlip / 8
      ∧ (load ≤ 1023 → kLoad ≤ 255 → 1024 ≤ loadFactor load kLoad ∧ loadFactor load kLoad ≤ 17328)
      ∧ (slip ≤ 1000 → kSlip ≤ 255 → 1024 ≤ slipFactor slip kSlip ∧ slipFactor slip kSlip ≤ 32899)
      ∧ loadFactor load 0 = 1024 ∧ slipFactor slip 0 = 1024)
  ∧ (∀ (m : Member) (rep : CloseReport) (load threshold : Nat),
        let product := rep.travel * loadFactor load m.kLoad * slipFactor rep.slip m.kSlip + m.residue
        let dW := product / 2 ^ 20
        let after := (m.accrue rep load threshold).1
        after.residue = product - dW * 2 ^ 20 ∧ after.residue < 2 ^ 20
        ∧ after.epochWear = min (m.epochWear + dW) (2 ^ 32 - 1)
        ∧ (m.residue < 2 ^ 20 → rep.travel = 0 → dW = 0 ∧ after.residue = m.residue)
        ∧ (m.residue < 2 ^ 20 → m.kLoad = 0 → m.kSlip = 0 → dW = rep.travel ∧ after.residue = m.residue)
        ∧ (m.residue < 2 ^ 20 → rep.travel ≤ 1200000 → load ≤ 1023 → rep.slip ≤ 1000 → m.kLoad ≤ 255 → m.kSlip ≤ 255 →
            product < 2 ^ 50 ∧ dW < 2 ^ 30)
        ∧ (∀ (r : SegRun) (ms : Nat), ms ≤ 60000 → r.speed ≤ 20000 → r.residue < 1000 → r.reckonedTravel ms ≤ 1200000)
        ∧ (∀ (r : SegRun) (d : SegDef) (w : MeasWindow), d.driveCal ≤ 65535 → w.drive ≤ 4096 → r.residue < 1000 →
            r.partialTravel d w ≤ 1200000)
        ∧ ∀ (travels : List Nat), m.residue < 2 ^ 20 →
            let run := travels.foldl (fun (a : Member × Nat) x =>
              let r := { rep with travel := x }
              ((a.1.accrue r load threshold).1, a.2 + a.1.product r load / 2 ^ 20)) (m, 0)
            run.2 * 2 ^ 20 + run.1.residue
              = travels.sum * (loadFactor load m.kLoad * slipFactor rep.slip m.kSlip) + m.residue)

/-- ΔW goes to the epoch, unsaved and (of a reckoning interval) reckoned wear, and to the wear with an upward evaluation
or, while held, to deferred and from its top to lost wear; then the checkpoint is tested; every other field stands. The
notices come in this order (R72, R79 to R82, R86). A close report accrues once to every member bound to its segment and to
no other, whichever order the members are taken in; each member's notices come in their order, with the member as their
subject (R69, R72). That none of another member's stands between them is the model's choice (log 35). -/
def Obligations.AccrualEffects : Prop :=
  (∀ (m : Member) (rep : CloseReport) (load threshold : Nat),
      let dW := m.product rep load / 2 ^ 20
      let unsaved := min (m.unsavedWear + dW) (2 ^ 32 - 1)
      let wear := min (m.wear + dW) (2 ^ 40 - 1)
      let due := 0 < threshold ∧ m.checkpointArmed = true ∧ threshold ≤ unsaved
      let base : Member := { m with
        residue := m.product rep load % 2 ^ 20, epochWear := min (m.epochWear + dW) (2 ^ 32 - 1), unsavedWear := unsaved
        reckonedWear := if rep.kind = .reckoning then min (m.reckonedWear + dW) (2 ^ 32 - 1) else m.reckonedWear }
      let a := m.accrue rep load threshold
      ∃ notes checkpoint, a.2 = notes ++ checkpoint
        ∧ (due → checkpoint = [(.checkpoint, unsaved)] ∧ a.1.checkpointArmed = false)
        ∧ (¬ due → checkpoint = [] ∧ a.1.checkpointArmed = m.checkpointArmed)
        ∧ (m.held = false →
            let named : WearState := if m.limit ≤ wear then .due else if m.warnLevel ≤ wear then .warn else .normal
            let rises := (m.state = .normal ∧ named ≠ .normal) ∨ (m.state = .warn ∧ named = .due)
            { a.1 with checkpointArmed := m.checkpointArmed }
              = { base with wear := wear, state := if rises then named else m.state }
            ∧ (¬ rises → notes = [])
            ∧ (rises → notes = (if m.state = .normal then [(.memberWarn, wear / 256)] else [])
                ++ (if named = .due then [(.memberDue, wear / 256)] else [])))
        ∧ (m.held = true → m.deferred + dW ≤ 2 ^ 24 - 1 →
            { a.1 with checkpointArmed := m.checkpointArmed } = { base with deferred := m.deferred + dW } ∧ notes = [])
        ∧ (m.held = true → 2 ^ 24 - 1 < m.deferred + dW →
            let lost := min (m.lostWear + (m.deferred + dW - (2 ^ 24 - 1))) (2 ^ 32 - 1)
            { a.1 with checkpointArmed := m.checkpointArmed }
              = { base with deferred := 2 ^ 24 - 1, lostWear := lost, overflowNoted := true }
            ∧ notes = if m.overflowNoted then [] else [(.deferredOverflow, lost)]))
  ∧ (∀ (rep : CloseReport) (load : Nat) (s : State),
        let t := s.accrueAll rep load
        let threshold := s.etm.settings.checkpoint
        KeepsAllBut [.wau, .nq] s t ∧ t.wau.pass = s.wau.pass
        ∧ (∀ n m, s.member n = some m → m.segment = some rep.segment →
            t.member n = some (m.accrue rep load threshold).1)
        ∧ (∀ n, (∀ m, s.member n = some m → m.segment ≠ some rep.segment) → t.member n = s.member n)
        ∧ ∃ order : List MemberNo, order.Nodup
            ∧ (∀ n, n ∈ order ↔ ∃ m, s.member n = some m ∧ m.segment = some rep.segment)
            ∧ Posts (order.flatMap fun n => match s.member n with
                | some m => (m.accrue rep load threshold).2.map fun x => (x.1, n.val, x.2)
                | none => []) s t)

/-- MEMBER_DEFINE: BAD_VALUE for a member above 191 or a field out of range; then CONFLICT for a record that is not
FREE, with its state; then CONFLICT for a second BELT of one segment, with the first one's number; otherwise the record
is written, its state named and its projection computed, and the data hold the state, the warn level and the projection
(R63 to R66, R102). -/
def Obligations.MemberDefineRule : Prop :=
  ∀ (member : Byte) (r : MemberRecord) (s : State),
    let i : Instr := .memberDefine member r
    let good := member.toNat ≤ 191 ∧ (r.kind = 1 ∨ r.kind = 2) ∧ (r.segment = 0xFF ∨ r.segment.toNat ≤ 23)
      ∧ 1000 ≤ r.limit.toNat ∧ 500 ≤ r.warn.toNat ∧ r.warn.toNat ≤ 999 ∧ 1 ≤ r.minutes.toNat ∧ r.minutes.toNat ≤ 600
    (¬ good → ∃ t, exec i s = .next t ∧ Refuses 0x20 .badValue [] s t)
    ∧ (good → ∀ n : MemberNo, member.toNat = n.val →
      (∀ m, s.member n = some m → ∃ t, exec i s = .next t
        ∧ Refuses 0x20 .conflict [match m.state with | .normal => 1 | .warn => 2 | .due => 3] s t)
      ∧ (s.member n = none →
        let rival : MemberNo → Prop := fun b => r.kind = 1 ∧ ∃ m g, s.member b = some m ∧ m.kind = .belt
          ∧ m.segment = some g ∧ g.val = r.segment.toNat
        ((∃ b, rival b) → ∃ b t, rival b ∧ exec i s = .next t ∧ Refuses 0x20 .conflict [BitVec.ofNat 8 b.val] s t)
        ∧ ((∀ b, ¬ rival b) → ∃ t m data, exec i s = .next t ∧ Answers [.wau] 0x20 .ok data s t
            ∧ t.member n = some m ∧ KeepsOtherMembers n s t
            ∧ MemberOk m ∧ Projected s.etm.epoch m
            ∧ (m.kind = .belt ↔ r.kind = 1)
            ∧ (m.segment.map (·.val) = if r.segment = 0xFF then none else some r.segment.toNat)
            ∧ m.wear = r.wear.toNat ∧ m.limit = r.limit.toNat ∧ m.warn = r.warn.toNat ∧ m.kLoad = r.kLoad.toNat
            ∧ m.kSlip = r.kSlip.toNat ∧ m.minutes = r.minutes.toNat ∧ m.rate = r.rate.toNat
            ∧ [m.residue, m.epochWear, m.deferred, m.lostWear, m.reckonedWear, m.unsavedWear, m.serviceCount]
                = [0, 0, 0, 0, 0, 0, 0]
            ∧ m.held = false ∧ m.overflowNoted = false ∧ m.checkpointArmed = true ∧ m.fresh = true
            ∧ m.closingWear = none ∧ m.installedEpoch = s.etm.epoch
            ∧ data = be 1 m.state.code ++ be 5 m.warnLevel ++ optFigure 4 m.projection)))

/-- MEMBER_READ and MEMBER_HOLD: BAD_VALUE above 191, NO_SUCH for a FREE record, and for the hold CONFLICT when the
member is held. The read reports the whole record in the layout of section 11.6 (state and kind codes, the six flag bits,
0xFF for no segment, an absent projection or closing wear as 0), and then clears the unsaved wear and arms the checkpoint;
the hold begins with deferred 0 and no overflow noted, and reports the wear (R78, R84). -/
def Obligations.MemberReadAndHold : Prop :=
  ∀ (member : Byte) (s : State),
    (191 < member.toNat → (∃ t, exec (.memberRead member) s = .next t ∧ Refuses 0x21 .badValue [] s t)
      ∧ ∃ t, exec (.memberHold member) s = .next t ∧ Refuses 0x22 .badValue [] s t)
    ∧ ∀ n : MemberNo, member.toNat = n.val →
      (s.member n = none → (∃ t, exec (.memberRead member) s = .next t ∧ Refuses 0x21 .noSuch [] s t)
        ∧ ∃ t, exec (.memberHold member) s = .next t ∧ Refuses 0x22 .noSuch [] s t)
      ∧ ∀ m, s.member n = some m →
        (∃ (t : State) (data : List Byte) (flags : Byte),
          exec (.memberRead member) s = .next t ∧ Answers [.wau] 0x21 .ok data s t
          ∧ t.member n = some { m with unsavedWear := 0, checkpointArmed := true } ∧ KeepsOtherMembers n s t
          ∧ data.length = 66
          ∧ (List.range 8).map (fun i => flags.getLsbD i) = [m.held, m.checkpointArmed, m.overflowNoted, m.fresh,
              m.projection.isSome, m.closingWear.isSome, false, false]
          ∧ data = be 1 n.val ++ [(match m.state with | .normal => 1 | .warn => 2 | .due => 3 : Byte)] ++ [flags]
              ++ [(match m.kind with | .belt => 1 | .roller => 2 : Byte)]
              ++ [(match m.segment with | none => 0xFF | some g => BitVec.ofNat 8 g.val : Byte)]
              ++ be 5 m.wear ++ be 3 m.residue ++ be 5 m.limit ++ be 2 m.warn ++ be 5 m.warnLevel ++ be 1 m.kLoad
              ++ be 1 m.kSlip ++ be 2 m.minutes ++ be 4 m.rate
              ++ be 4 (match m.projection with | none => 0 | some x => x) ++ be 4 m.epochWear
              ++ be 4 (match m.closingWear with | none => 0 | some x => x) ++ be 3 m.deferred ++ be 4 m.lostWear
              ++ be 4 m.reckonedWear ++ be 4 m.unsavedWear ++ be 2 m.serviceCount ++ be 4 m.installedEpoch)
        ∧ (m.held = true → ∃ t, exec (.memberHold member) s = .next t ∧ Refuses 0x22 .conflict [] s t)
        ∧ (m.held = false → ∃ t, exec (.memberHold member) s = .next t ∧ Answers [.wau] 0x22 .ok (be 5 m.wear) s t
          ∧ t.member n = some { m with held := true, deferred := 0, overflowNoted := false }
          ∧ KeepsOtherMembers n s t)

/-- MEMBER_ADJUST of a held member writes the fields present, recomputes the warn level where the limit or warn ‰ is one
of them, evaluates the state fully, and recomputes the projection; its checks come in the order BAD_VALUE, NO_SUCH,
NOT_HELD (R63, R80 to R82, R85, R103). MEMBER_RELEASE adds the deferred amount to the wear, ends the hold, evaluates the
state upward and recomputes the projection; its checks come in the order BAD_VALUE, NO_SUCH, NOT_HELD (R80 to R82, R87,
R103). -/
def Obligations.MemberAdjustAndRelease : Prop :=
  (∀ (member : Byte) (r : AdjustRecord) (s : State),
      let i : Instr := .memberAdjust member r
      let good := member.toNat ≤ 191 ∧ (∀ x, r.limit = some x → 1000 ≤ x.toNat)
        ∧ (∀ x, r.warn = some x → 500 ≤ x.toNat ∧ x.toNat ≤ 999) ∧ (∀ x, r.minutes = some x → 1 ≤ x.toNat ∧ x.toNat ≤ 600)
      (¬ good → ∃ t, exec i s = .next t ∧ Refuses 0x23 .badValue [] s t)
      ∧ (good → ∀ n : MemberNo, member.toNat = n.val →
        (s.member n = none → ∃ t, exec i s = .next t ∧ Refuses 0x23 .noSuch [] s t)
        ∧ (∀ m, s.member n = some m → m.held = false → ∃ t, exec i s = .next t ∧ Refuses 0x23 .notHeld [] s t)
        ∧ ∀ m, s.member n = some m → m.held = true →
          let limit := (r.limit.map (·.toNat)).getD m.limit
          let warn := (r.warn.map (·.toNat)).getD m.warn
          let wear := (r.wear.map (·.toNat)).getD m.wear
          let level := if r.limit = none ∧ r.warn = none then m.warnLevel else limit * warn / 1000
          let named : WearState := if limit ≤ wear then .due else if level ≤ wear then .warn else .normal
          ∃ t m', exec i s = .next t ∧ t.member n = some m' ∧ KeepsOtherMembers n s t
            ∧ Answers [.wau, .nq] 0x23 .ok (be 1 m'.state.code ++ be 5 m'.warnLevel ++ optFigure 4 m'.projection) s t
            ∧ Projected s.etm.epoch m'
            ∧ m' = { m with
                state := named, wear, limit, warn, warnLevel := level
                kLoad := (r.kLoad.map (·.toNat)).getD m.kLoad, kSlip := (r.kSlip.map (·.toNat)).getD m.kSlip
                minutes := (r.minutes.map (·.toNat)).getD m.minutes, rate := (r.rate.map (·.toNat)).getD m.rate
                projection := m'.projection }
            ∧ Posts ((if m.state = .normal ∧ named ≠ .normal then [(.memberWarn, n.val, wear / 256)] else [])
                ++ (if m.state ≠ .due ∧ named = .due then [(.memberDue, n.val, wear / 256)] else [])) s t))
  ∧ (∀ (member : Byte) (s : State),
        (191 < member.toNat → ∃ t, exec (.memberRelease member) s = .next t ∧ Refuses 0x24 .badValue [] s t)
        ∧ ∀ n : MemberNo, member.toNat = n.val →
          (s.member n = none → ∃ t, exec (.memberRelease member) s = .next t ∧ Refuses 0x24 .noSuch [] s t)
          ∧ (∀ m, s.member n = some m → m.held = false →
              ∃ t, exec (.memberRelease member) s = .next t ∧ Refuses 0x24 .notHeld [] s t)
          ∧ ∀ m, s.member n = some m → m.held = true →
            let wear := min (m.wear + m.deferred) (2 ^ 40 - 1)
            let named : WearState := if m.limit ≤ wear then .due else if m.warnLevel ≤ wear then .warn else .normal
            let rises := (m.state = .normal ∧ named ≠ .normal) ∨ (m.state = .warn ∧ named = .due)
            ∃ t m', exec (.memberRelease member) s = .next t ∧ t.member n = some m' ∧ KeepsOtherMembers n s t
              ∧ Answers [.wau, .nq] 0x24 .ok
                  (be 3 m.deferred ++ be 5 wear ++ be 1 m'.state.code ++ optFigure 4 m'.projection) s t
              ∧ Projected s.etm.epoch m'
              ∧ m' = { m with
                  wear, deferred := 0, held := false, state := if rises then named else m.state, projection := m'.projection }
              ∧ Posts ((if m.state = .normal ∧ named ≠ .normal then [(.memberWarn, n.val, wear / 256)] else [])
                  ++ (if m.state ≠ .due ∧ named = .due then [(.memberDue, n.val, wear / 256)] else [])) s t)

/-- Every step keeps the member table: each member in its named state, with deferred wear only while held, the warn level of
its limit and every figure in the range of section 4.1, and at most one BELT bound to a segment (R63 to R65, R71, R83, R84,
R86, R98). Every step keeps the segments: each definition and each runtime and supervision record in its ranges, V inside
its band, a window open only while a drive pulse may count in it and with D below W, and OFF in SETUP and for an undefined
segment (R8, R13, R21 to R23, R25). -/
def Obligations.SegmentsAndMembersKept : Prop :=
  (∀ s t : State, MemberInv s → step s = .next t → MemberInv t)
  ∧ (∀ s t : State, SegmentInv s → step s = .next t → SegmentInv t)

/-- MEMBER_RETIRE: BAD_VALUE above 191, NO_SUCH for a FREE record; otherwise the reply's figures are taken with the
deferred wear added to the lost wear, the open order leaves the pool, the record becomes FREE, and a run in flight is to
be repeated (R63, R67, R113, R120). That the order's figures are sent as one group behind one presence byte is the model's
reading (log 21). -/
def Obligations.MemberRetireRule : Prop :=
  ∀ (member : Byte) (s : State),
    (191 < member.toNat → ∃ t, exec (.memberRetire member) s = .next t ∧ Refuses 0x25 .badValue [] s t)
    ∧ ∀ n : MemberNo, member.toNat = n.val →
      (s.member n = none → ∃ t, exec (.memberRetire member) s = .next t ∧ Refuses 0x25 .noSuch [] s t)
      ∧ ∀ m, s.member n = some m →
        let figures := be 5 m.wear ++ be 3 m.deferred ++ be 4 (min (m.lostWear + m.deferred) (2 ^ 32 - 1))
          ++ be 4 m.reckonedWear ++ be 4 m.unsavedWear ++ be 2 m.serviceCount ++ be 4 m.installedEpoch
        ∃ t order, exec (.memberRetire member) s = .next t ∧ Answers [.wau, .spl] 0x25 .ok (figures ++ order) s t
          ∧ t.member n = none ∧ KeepsOtherMembers n s t ∧ RerunAsked s t
          ∧ (NoOrder s n → KeepsPlan s t ∧ order = [0, 0, 0])
          ∧ ∀ k o, OrderAt s n k o → OrderRemoved k o s t ∧ order = [1] ++ be 1 o.state.code ++ be 1 o.reason.code

/-- SERVICE_DONE, by its checks in order: BAD_VALUE, NO_SUCH, CONFLICT for a held member, and for INSPECTED BAD_VALUE
for a new limit not above the wear (R114). A service report taken: REPLACED zeroes the wear, the residue, the reckoned
and the unsaved wear, arms the checkpoint, counts the service and restamps the record; INSPECTED writes a new limit and
its warn level; the state is evaluated fully. A member walk in flight may then make visits, which see the new record beside
the old order and may withdraw it; how many is left open (log 6). The SPL removes the open order it then finds, reporting it
or none, the projection is recomputed, and a run in flight is to be repeated (R80, R81, R115 to R117, R120, R121). That the
order's figures are sent as one group behind one presence byte is the model's reading (log 21). -/
def Obligations.ServiceDoneRules : Prop :=
  (∀ (member : Byte) (limit : Option (BitVec 40)) (s : State),
      (191 < member.toNat ∨ limit.isSome →
        ∃ t, exec (.serviceDoneReplaced member limit) s = .next t ∧ Refuses 0x26 .badValue [] s t)
      ∧ (191 < member.toNat ∨ (∃ x, limit = some x ∧ x.toNat < 1000) →
        ∃ t, exec (.serviceDoneInspected member limit) s = .next t ∧ Refuses 0x26 .badValue [] s t)
      ∧ ∀ n : MemberNo, member.toNat = n.val → ∀ i : Instr,
        (i = .serviceDoneReplaced member limit ∧ limit = none)
          ∨ (i = .serviceDoneInspected member limit ∧ ∀ x, limit = some x → 1000 ≤ x.toNat) →
        (s.member n = none → ∃ t, exec i s = .next t ∧ Refuses 0x26 .noSuch [] s t)
        ∧ (∀ m, s.member n = some m → m.held = true → ∃ t, exec i s = .next t ∧ Refuses 0x26 .conflict [] s t)
        ∧ ∀ m x, s.member n = some m → m.held = false → limit = some x → x.toNat ≤ m.wear →
            ∃ t, exec i s = .next t ∧ Refuses 0x26 .badValue [] s t)
  ∧ (∀ (n : MemberNo) (limit : Option (BitVec 40)) (m : Member) (s : State), s.member n = some m → m.held = false →
        let member := BitVec.ofNat 8 n.val
        let level := match limit with
          | some x => x.toNat * m.warn / 1000
          | none => m.warnLevel
        let served : Member → Byte → State → Prop := fun b outcome t =>
          let named : WearState := if b.limit ≤ b.wear then .due else if b.warnLevel ≤ b.wear then .warn else .normal
          ∃ (w u : State) (m' : Member) (order : List Byte),
            (KeepsAllBut [.wau, .nq] s w ∧ w.member n = some { b with state := named } ∧ KeepsOtherMembers n s w
              ∧ Posts ((if m.state = .normal ∧ named ≠ .normal then [(.memberWarn, n.val, b.wear / 256)] else [])
                ++ (if m.state ≠ .due ∧ named = .due then [(.memberDue, n.val, b.wear / 256)] else [])) s w)
            ∧ execAll (List.replicate s.arbiter.walkVisits .planMemberWalk) w = .next u
            ∧ (s.arbiter.walkVisits = 0 ∨ (∀ i, s.spl.planner.stage ≠ .walk i) → u = w)
            ∧ m' = { b with state := named, projection := m'.projection } ∧ Projected s.etm.epoch m'
            ∧ t.member n = some m' ∧ KeepsOtherMembers n s t ∧ t.nq = u.nq ∧ RerunAsked u t
            ∧ (NoOrder u n → KeepsPlan u t ∧ order = [0, 0, 0, 0])
            ∧ (∀ k o, OrderAt u n k o →
                OrderRemoved k o u t ∧ order = [1] ++ be 1 o.reason.code ++ be 1 o.state.code ++ be 1 o.missed)
            ∧ Answers [.wau, .nq, .spl] 0x26 .ok
                ([outcome] ++ order ++ be 5 m'.wear ++ be 1 m'.state.code ++ be 5 m'.warnLevel ++ be 2 m'.serviceCount
                  ++ optFigure 4 m'.projection) s t
        (∃ t, exec (.serviceDoneReplaced member none) s = .next t
          ∧ served { m with
              wear := 0, residue := 0, reckonedWear := 0, unsavedWear := 0, checkpointArmed := true
              serviceCount := min (m.serviceCount + 1) 65535, installedEpoch := s.etm.epoch } 1 t)
        ∧ ((∀ x, limit = some x → 1000 ≤ x.toNat ∧ m.wear < x.toNat) →
            ∃ t, exec (.serviceDoneInspected member limit) s = .next t
              ∧ served { m with limit := (limit.map (·.toNat)).getD m.limit, warnLevel := level } 2 t))

/-! ### Epochs, boundaries and modes (05, 11 sections 11.2 and 11.3) -/

/-- TICK adds 1 to the tick counter, from 2^32−1 to 0, and changes nothing else; LOCAL_BOUNDARY and GRACE_DEADLINE
change nothing before their deadline or under the other source (the model's choice for a command that comes when no
boundary occurs, log 4), and at it take the boundary, the new boundary tick the old one plus the span (R89, R91, R94,
R95). One of the SMU and the WAU may leave its share of a boundary, so that a close falls into the ending epoch there and into
the new one at the other (R99); that the next TICK or boundary finds that share taken first is the model's choice (log 33),
and so is that a rate pass still in flight is given up for the new one (log 18). -/
def Obligations.BoundariesFallDue : Prop :=
  ∀ s : State, ∃ u, ShareTaken s u
    ∧ exec .tick s = .next { u with etm := { u.etm with tick := u.etm.tick + 1 } }
    ∧ (let e := s.etm
       let since := (e.tick - e.boundaryTick).toNat
       let number := min (e.epoch + 1) (2 ^ 32 - 1)
       let applied := s.rqd.pendingSettings.getD e.settings
       let runs : Instr → BoundarySource → Nat → Bool → Prop := fun i source span missed =>
         (e.settings.source ≠ source ∨ since < span → exec i s = .next s)
         ∧ (e.settings.source = source → span ≤ since →
             ∃ t, exec i s = .next t ∧ KeepsAllBut [.smu, .itu, .wau, .etm, .spl, .nq, .rqd] s t
               ∧ t.etm = { e with
                   epoch := number, boundaryTick := e.boundaryTick + BitVec.ofNat 32 span, settings := applied
                   untaken := s.shareLeft number e.settings }
               ∧ t.rqd = s.rqd.atBoundary
               ∧ (s.rqd.pendingSetup = false → BoundaryTaken number e.settings missed u t))
       runs .localBoundary .localClock (e.settings.length * 60000) false
       ∧ runs .graceDeadline .marked (e.settings.length * 60000 + e.settings.grace * 1000) true)

/-- EPOCH_MARK: counted as ignored with source LOCAL and before half the epoch length has passed; otherwise it causes a
boundary at its tick, to its own number if that is greater and else to the next, counting a mismatch. The reply, to an
addressed mark alone, says whether it caused a boundary and the epoch number after it (R91 to R93, R95). One of the SMU
and the WAU may leave its share of the boundary (R99); that a share left before is taken first is the model's choice (log
33), and so is that a rate pass still in flight is given up for the new one (log 18), and that the reply's summary shows
the boundary's notices (R160; log 38). -/
def Obligations.MarksCauseBoundaries : Prop :=
  ∀ (via : Delivery) (number : BitVec 32) (s : State),
    let e := s.etm
    let since := (e.tick - e.boundaryTick).toNat
    let next := if e.epoch < number.toNat then number.toNat else min (e.epoch + 1) (2 ^ 32 - 1)
    (e.settings.source = .localClock ∨ since < e.settings.length * 30000 →
      ∃ t, exec (.epochMark via number) s = .next t ∧ AnswersVia via s.rqd [.etm] 0x09 .ok ([0] ++ be 4 e.epoch) s t
        ∧ t.etm = { e with marksIgnored := min (e.marksIgnored + 1) 65535 })
    ∧ (e.settings.source = .marked → e.settings.length * 30000 ≤ since →
      ∃ u t, ShareTaken s u ∧ exec (.epochMark via number) s = .next t
        ∧ AnswersVia via s.rqd.atBoundary [.smu, .itu, .wau, .etm, .spl, .nq] 0x09 .ok ([1] ++ be 4 next) s t
        ∧ t.etm = { e with
            epoch := next, boundaryTick := e.tick, settings := s.rqd.pendingSettings.getD e.settings
            markMismatches := if e.epoch < number.toNat then e.markMismatches else min (e.markMismatches + 1) 65535
            untaken := s.shareLeft next e.settings }
        ∧ (s.rqd.pendingSetup = false → BoundaryTaken next e.settings false u t))

/-- EPOCH_SET: BAD_VALUE for a setting out of range; in COUNTING stored as the pending settings and answered DEFERRED; in
SETUP the settings replace those in force at once, and the boundary is taken at once where the new deadline has passed
(R96, R97). That such a boundary carries the new settings is the model's reading (log 20), and so is the layout of the
data (log 21). One of the SMU and the WAU may leave its share of the boundary (R95, R99); that a share left before is
taken first is the model's choice (log 33), and so is that a rate pass still in flight is given up (log 18), and that the
reply's summary shows the boundary's notices (R160; log 38). -/
def Obligations.EpochSetRule : Prop :=
  ∀ (r : EpochRecord) (s : State),
    let good := 1 ≤ r.length.toNat ∧ r.length.toNat ≤ 240 ∧ r.shift.toNat ≤ 7 ∧ r.source.toNat ≤ 1 ∧ 1 ≤ r.grace.toNat
      ∧ r.grace.toNat ≤ 60
    let given : EpochSettings :=
      { length := r.length.toNat, shift := r.shift.toNat, minWindows := r.minWindows.toNat
        checkpoint := r.checkpoint.toNat, source := if r.source = 0 then .localClock else .marked
        grace := r.grace.toNat }
    let sent : EpochSettings → List Byte := fun e =>
      be 1 e.length ++ be 1 e.shift ++ be 1 e.minWindows ++ be 4 e.checkpoint
        ++ [if e.source = .localClock then 0 else 1] ++ be 1 e.grace
    let deadline := given.length * 60000 + if given.source = .marked then given.grace * 1000 else 0
    let since := (s.etm.tick - s.etm.boundaryTick).toNat
    let number := min (s.etm.epoch + 1) (2 ^ 32 - 1)
    (¬ good → ∃ t, exec (.epochSet r) s = .next t ∧ Refuses 0x08 .badValue [] s t)
    ∧ (good → s.rqd.mode = .counting →
        ∃ t, exec (.epochSet r) s = .next t
          ∧ AnswersAs { s.rqd with pendingSettings := some given } [] 0x08 .deferred
              (sent s.etm.settings ++ [1] ++ sent given) s t)
    ∧ (good → s.rqd.mode = .setup → s.rqd.pendingSettings = none → since < deadline →
        ∃ t, exec (.epochSet r) s = .next t ∧ Answers [.etm] 0x08 .ok (sent given ++ List.replicate 10 0) s t
          ∧ t.etm = { s.etm with settings := given })
    ∧ (good → s.rqd.mode = .setup → s.rqd.pendingSettings = none → s.rqd.pendingSetup = false → deadline ≤ since →
        ∃ u t, ShareTaken s u ∧ exec (.epochSet r) s = .next t
          ∧ Answers [.smu, .wau, .etm, .spl, .nq] 0x08 .ok (sent given ++ List.replicate 10 0) s t
          ∧ t.etm = { s.etm with
              settings := given, epoch := number, boundaryTick := s.etm.tick, untaken := s.shareLeft number given }
          ∧ BoundaryTaken number given (decide (given.source = .marked)) u t)

/-- The change to SETUP is taken at a boundary, whichever of LOCAL_BOUNDARY, GRACE_DEADLINE, EPOCH_MARK and EPOCH_SET causes
it: open windows that counted a pulse close as partial windows of the ending epoch, a lost drive's part-interval and that of
a failed segment whose run line is ACTIVE are reckoned to the boundary tick, the ITU ages the items by them and the WAU
accrues them, so that their wear is in the closing wear; every segment enters OFF with its other fields as they stood, the
mode becomes SETUP and MODE_CHANGED carries the new number (R8, R17, R20, R22, R38, R98, R99, R172). That the new checkpoint
threshold governs these accruals is the model's reading (log 19), that EPOCH_SET's boundary carries the new settings too
(log 20); that a rate pass still in flight is given up is its choice (log 18), and so is that a share left of the boundary
before is taken first (log 33). -/
def Obligations.SetupEntryClosesAccounts : Prop :=
  ∀ s : State, s.rqd.pendingSetup = true → ∃ u, ShareTaken s u ∧
    let e := s.etm
    let since := (e.tick - e.boundaryTick).toNat
    let next := min (e.epoch + 1) (2 ^ 32 - 1)
    let threshold := (s.rqd.pendingSettings.getD e.settings).checkpoint
    let span := e.settings.length * 60000
    let grace := span + e.settings.grace * 1000
    (e.settings.source = .localClock → span ≤ since →
      ∃ t, exec .localBoundary s = .next t
        ∧ SetupEntered next (e.boundaryTick + BitVec.ofNat 32 span) e.settings threshold false u t)
    ∧ (e.settings.source = .marked → grace ≤ since →
      ∃ t, exec .graceDeadline s = .next t
        ∧ SetupEntered next (e.boundaryTick + BitVec.ofNat 32 grace) e.settings threshold true u t)
    ∧ (∀ (number : BitVec 32), e.settings.source = .marked → e.settings.length * 30000 ≤ since →
      let taken := if e.epoch < number.toNat then number.toNat else next
      (∃ t, exec (.epochMark .broadcast number) s = .next t ∧ t.rqd.handed = s.rqd.handed.tail
        ∧ SetupEntered taken e.tick e.settings threshold false u { t with rqd := { t.rqd with handed := s.rqd.handed } })
      ∧ ∃ t, exec (.epochMark .addressed number) s = .next t ∧ t.rqd.handed = s.rqd.handed.tail
        ∧ SetupEntered taken e.tick e.settings threshold false u { t with rqd := { t.rqd with handed := s.rqd.handed } })
    ∧ ∀ (r : EpochRecord) (given : EpochSettings), checkEpoch r = some given → s.rqd.mode = .setup →
      given.length * 60000 + (if given.source = .marked then given.grace * 1000 else 0) ≤ since →
      ∃ t data, exec (.epochSet r) s = .next t
        ∧ AnswersAs s.rqd.atBoundary [.smu, .itu, .wau, .etm, .spl, .nq] 0x08 .ok data s t
        ∧ t.etm = { e with epoch := next, boundaryTick := e.tick, settings := s.rqd.pendingSettings.getD given, untaken := none }
        ∧ SetupEntered next e.tick given (s.rqd.pendingSettings.getD given).checkpoint (decide (given.source = .marked)) u
            { t with rqd := { t.rqd with handed := s.rqd.handed } }

/-- MODE by the mode in force: MODE SETUP answers OK in SETUP, and in COUNTING leaves the change pending and answers
DEFERRED; MODE COUNTING in COUNTING cancels it. The data are the mode in force and the pending change (R170). MODE
COUNTING in SETUP: the first test that fails, by segment and then by reason code, is answered BAD_VALUE with both and
changes nothing; when every test passes every defined segment enters STOPPED and the mode becomes COUNTING (R25, R171).
-/
def Obligations.ModeRules : Prop :=
  (∀ (via : Delivery) (s : State),
      (s.rqd.mode = .setup → ∃ t, exec (.modeSetup via) s = .next t
        ∧ AnswersVia via s.rqd [] 0x03 .ok [0, if s.rqd.pendingSetup then 1 else 0] s t)
      ∧ (s.rqd.mode = .counting → ∃ t, exec (.modeSetup via) s = .next t
        ∧ AnswersVia via { s.rqd with pendingSetup := true } [] 0x03 .deferred [1, 1] s t)
      ∧ (s.rqd.mode = .counting → ∃ t, exec (.modeCounting via) s = .next t
        ∧ AnswersVia via { s.rqd with pendingSetup := false } [] 0x03 .ok [1, 0] s t))
  ∧ (∀ (via : Delivery) (s : State), s.rqd.mode = .setup →
        (∀ (g : SegNo) (d : SegDef) (code : Nat), s.defn g = some d → TestFails s g d code →
          (∀ c, c < code → ¬ TestFails s g d c) → (∀ h e c, h < g → s.defn h = some e → ¬ TestFails s h e c) →
          ∃ t, exec (.modeCounting via) s = .next t
            ∧ AnswersVia via s.rqd [] 0x03 .badValue [BitVec.ofNat 8 g.val, BitVec.ofNat 8 code] s t)
        ∧ ((∀ g d c, s.defn g = some d → ¬ TestFails s g d c) →
          ∃ t, exec (.modeCounting via) s = .next t
            ∧ AnswersVia via { s.rqd with mode := .counting } [.smu] 0x03 .ok
                [1, if s.rqd.pendingSetup then 1 else 0] s t
            ∧ ∀ g, t.defn g = s.defn g
              ∧ t.run g = if (s.defn g).isSome then
                  { s.run g with supervision := .stopped, attemptsLeft := 0, intervals := 0, timingRef := s.etm.tick }
                else s.run g))

/-- The epoch number never falls, and stays an epoch number, except by a reset: cold reset, a broadcast RESTART ALL, the
character that completes the frame of one and so is that reset, or the end of the reply to an addressed one; there every
piece of state takes its reset value (R90, R174). -/
def Obligations.EpochNeverFalls : Prop :=
  ∀ (i : Instr) (s t : State), s.etm.epoch ≤ 2 ^ 32 - 1 → exec i s = .next t →
    (s.etm.epoch ≤ t.etm.epoch ∧ t.etm.epoch ≤ 2 ^ 32 - 1)
    ∨ (((∃ straps, i = .coldReset straps) ∨ i = .restartAll .broadcast ∨ (i = .replyEnd ∧ s.lnk.restartAtEnd = true)
          ∨ ∃ data, i = .characterReceived .heard ⟨data, false⟩ true ∧ exec i s = exec (.restartAll .broadcast) s)
        ∧ ∃ straps address divisor, ResetValues straps address divisor t)

/-! ### The rate pass (05 sections 5.6 to 5.8) -/

/-- A rate update moves the rate by the signed difference over 2^a, truncated toward zero, so that it stays between the
rate and the closing wear; the pass changes no wear, state or threshold, and posts no notice (R101). That a share left of the
boundary is taken before the visit is the model's choice (R99; log 33). -/
def Obligations.RateUpdate : Prop :=
  (∀ rate closing a : Nat,
    ((rateAfter rate closing a : Nat) : Int) = rate + Int.tdiv ((closing : Int) - rate) (2 ^ a)
    ∧ rateAfter rate closing 0 = closing
    ∧ min rate closing ≤ rateAfter rate closing a ∧ rateAfter rate closing a ≤ max rate closing
    ∧ (((closing : Int) - rate).natAbs < 2 ^ a → rateAfter rate closing a = rate))
  ∧ ∀ s t : State, exec .ratePassVisit s = .next t → ∃ u, ShareTaken s u
      ∧ KeepsAllBut [.wau] u t
      ∧ ∀ n, (u.member n = none ↔ t.member n = none)
          ∧ ∀ m m', u.member n = some m → t.member n = some m' →
            m' = { m with rate := m'.rate, projection := m'.projection }
            ∧ (m'.rate = m.rate ∨ ∃ p closing, u.wau.pass = some p ∧ m.closingWear = some closing
                ∧ m'.rate = rateAfter m.rate closing p.shift)

/-- RATE_PASS_VISIT visits the next member with a segment in ascending order: the rate is held while the member is held,
its segment undefined, its closing wear absent, or its segment's closing window count below the minimum carried, and
updated otherwise; the projection is recomputed unless the member is held. With no pass in flight it changes nothing,
and with no member left the pass is at its end (the model's granularity, log 17); PROJECTIONS_REFRESHED then ends it and
gives the signal: with auto-plan on it starts a run, or asks for a rerun of the one in flight; otherwise no signal is
given (R100, R104, R105, R140). That a share left of the boundary is taken first is the model's choice (R99; log 33). -/
def Obligations.RatePassProceeds : Prop :=
  ∀ s : State, ∃ u, ShareTaken s u ∧
    let signal : Planner := if u.spl.planner.autoPlan = false then u.spl.planner
      else if u.spl.planner.stage = .idle then
        { u.spl.planner with
          stage := .walk 0, runHorizon := u.spl.planner.horizon, runGangHorizon := u.spl.planner.gangHorizon
          sortList := [], placed := 0, late := 0, unplaced := 0, skipped := 0, leftUnplaced := [] }
      else { u.spl.planner with rerun := true }
    (u.wau.pass = none → exec .ratePassVisit s = .next u ∧ exec .projectionsRefreshed s = .next u)
    ∧ ∀ p, u.wau.pass = some p →
      let left : MemberNo → Prop := fun n => p.next ≤ n.val ∧ ∃ m, u.member n = some m ∧ m.segment.isSome
      ((∀ n, ¬ left n) →
        exec .ratePassVisit s = .next { u with wau := { u.wau with pass := some { p with next := 192 } } }
        ∧ exec .projectionsRefreshed s
          = .next { u with wau := { u.wau with pass := none }, spl := { u.spl with planner := signal } })
      ∧ ∀ n m g, left n → (∀ k, left k → n ≤ k) → u.member n = some m → m.segment = some g →
        exec .projectionsRefreshed s = .next u
        ∧ (let held := m.held = true ∨ u.defn g = none ∨ m.closingWear = none ∨ (u.run g).closingCount < p.minWindows
           ∃ t m', exec .ratePassVisit s = .next t ∧ KeepsAllBut [.wau] u t ∧ t.member n = some m'
             ∧ (∀ k, k ≠ n → t.member k = u.member k) ∧ t.wau.pass = some { p with next := n.val + 1 }
             ∧ m' = { m with rate := m'.rate, projection := m'.projection }
             ∧ (held → m'.rate = m.rate)
             ∧ (¬ held → ∀ c, m.closingWear = some c → m'.rate = rateAfter m.rate c p.shift)
             ∧ (m.held = true → m'.projection = m.projection) ∧ (m.held = false → Projected u.etm.epoch m'))

/-! ### Orders (06) -/

/-- ORDER_RAISE: BAD_VALUE, BUSY, NO_SUCH, CONFLICT with the open order's state and reason, NO_ROOM, in this order;
otherwise a HOST order is created in the lowest-numbered empty slot, and the data hold the slot and the order record
(R106, R110). ORDER_START and ORDER_CANCEL: BAD_VALUE above 191, NO_SUCH without an open order, and for the start
CONFLICT for an order IN_WORK. The start takes the order to IN_WORK without its tag, the cancel removes it; a SCHEDULED
order's minutes leave its window, a RELEASED order's stay, and a run in flight is to be repeated (R109, R111, R112,
R120). The order record is laid out as section 11.6 gives it; that ORDER_START's former tag is sent behind a presence byte is
the model's reading (log 21). -/
def Obligations.OrderRequests : Prop :=
  (∀ o : Order, o.bytes = be 1 o.member.val
      ++ [(match o.reason with | .projected => 1 | .warn => 2 | .limit => 3 | .host => 4 : Byte)]
      ++ [(match o.state with | .proposed => 1 | .scheduled => 2 | .released => 3 | .inWork => 4 : Byte)]
      ++ [((if o.late then 1 else 0) + (if o.ganged then 2 else 0) : Byte)] ++ be 4 o.due
      ++ be 1 (match o.tag with | none => 0 | some tag => tag) ++ be 2 o.minutes ++ be 1 o.missed ++ be 4 o.created)
  ∧ (∀ (member : Byte) (due : BitVec 32) (s : State),
      let i : Instr := .orderRaise member due
      (191 < member.toNat → ∃ t, exec i s = .next t ∧ Refuses 0x39 .badValue [] s t)
      ∧ ∀ n : MemberNo, member.toNat = n.val →
        (s.spl.planner.stage ≠ .idle → ∃ t, exec i s = .next t ∧ Refuses 0x39 .busy [] s t)
        ∧ (s.spl.planner.stage = .idle → s.member n = none → ∃ t, exec i s = .next t ∧ Refuses 0x39 .noSuch [] s t)
        ∧ ∀ m, s.spl.planner.stage = .idle → s.member n = some m →
          (∀ k o, OrderAt s n k o → ∃ t, exec i s = .next t
            ∧ Refuses 0x39 .conflict (be 1 o.state.code ++ be 1 o.reason.code) s t)
          ∧ (NoOrder s n → (∀ k, (s.slot k).isSome) → ∃ t, exec i s = .next t ∧ Refuses 0x39 .noRoom [] s t)
          ∧ ∀ k, NoOrder s n → s.slot k = none → (∀ j, j < k → (s.slot j).isSome) →
            let o : Order :=
              { member := n, reason := .host, state := .proposed, due := due.toNat, tag := none, minutes := m.minutes
                late := false, ganged := false, missed := 0, created := s.etm.epoch }
            ∃ t, exec i s = .next t ∧ Answers [.spl] 0x39 .ok (be 1 k.val ++ o.bytes) s t
              ∧ t.slot k = some o ∧ KeepsOtherSlots k s t ∧ KeepsRun s t ∧ t.spl.windows = s.spl.windows
              ∧ t.spl.lastTag = s.spl.lastTag)
  ∧ (∀ (member : Byte) (s : State),
        (191 < member.toNat → (∃ t, exec (.orderStart member) s = .next t ∧ Refuses 0x3A .badValue [] s t)
          ∧ ∃ t, exec (.orderCancel member) s = .next t ∧ Refuses 0x3B .badValue [] s t)
        ∧ ∀ n : MemberNo, member.toNat = n.val →
          (NoOrder s n → (∃ t, exec (.orderStart member) s = .next t ∧ Refuses 0x3A .noSuch [] s t)
            ∧ ∃ t, exec (.orderCancel member) s = .next t ∧ Refuses 0x3B .noSuch [] s t)
          ∧ ∀ k o, OrderAt s n k o →
            (o.state = .inWork → ∃ t, exec (.orderStart member) s = .next t ∧ Refuses 0x3A .conflict [] s t)
            ∧ (o.state ≠ .inWork →
              ∃ t, exec (.orderStart member) s = .next t
                ∧ Answers [.spl] 0x3A .ok (({ o with state := .inWork, tag := none } : Order).bytes ++ optFigure 1 o.tag) s t
                ∧ t.slot k = some { o with state := .inWork, tag := none } ∧ KeepsOtherSlots k s t
                ∧ t.spl.windows = windowsWithout o s.spl.windows ∧ RerunAsked s t)
            ∧ ∃ t, exec (.orderCancel member) s = .next t ∧ Answers [.spl] 0x3B .ok (be 1 k.val ++ o.bytes) s t
                ∧ OrderRemoved k o s t ∧ RerunAsked s t)

/-- The requests that read change nothing: IDENT gives the part code, the revision, the station address and the
capacities; ORDER_READ gives the slot and the order record; ORDER_LIST the order count and 8 slots of its page;
WINDOW_READ the window list or the pattern, each record field by field; an unknown kind is answered UNKNOWN_KIND (R118,
R119, R128, R133, R169, R176). Where the spec's layout table does not spell a figure out, its size is the model's reading
(log 21), and so is the kind of the reply to an undefined code of 0x80 or above, the sum modulo 256 (log 22). -/
def Obligations.ReadsChangeNothing : Prop :=
  ∀ s : State,
    (∃ t, exec .ident s = .next t
      ∧ Answers [] 0x01 .ok ([0xE0, 0x24, 0x01, s.lnk.address, 32, 24, 192, 0x01, 0x80, 32, 64, 48, 8, 16, 32]) s t)
    ∧ (∀ (member : Byte),
        (191 < member.toNat → ∃ t, exec (.orderRead member) s = .next t ∧ Refuses 0x37 .badValue [] s t)
        ∧ ∀ n : MemberNo, member.toNat = n.val →
          (NoOrder s n → ∃ t, exec (.orderRead member) s = .next t ∧ Refuses 0x37 .noSuch [] s t)
          ∧ ∀ k o, OrderAt s n k o →
            ∃ t, exec (.orderRead member) s = .next t ∧ Answers [] 0x37 .ok (be 1 k.val ++ o.bytes) s t)
    ∧ (∀ page : Byte,
        (5 < page.toNat → ∃ t, exec (.orderList page) s = .next t ∧ Refuses 0x38 .badValue [] s t)
        ∧ (page.toNat ≤ 5 → ∃ t data, exec (.orderList page) s = .next t ∧ Answers [] 0x38 .ok data s t
            ∧ data.length = 137
            ∧ data.head? = some (BitVec.ofNat 8 ((allSlots.filter fun k => (s.slot k).isSome).length))
            ∧ ∀ (j : Fin 8) (k : SlotNo), k.val = 8 * page.toNat + j.val →
                (s.slot k = none → (data.drop (1 + 17 * j.val)).take 17 = List.replicate 17 0)
                ∧ ∀ o, s.slot k = some o → (data.drop (1 + 17 * j.val)).take 17 = [1] ++ o.bytes))
    ∧ (∃ t, exec .windowReadList s = .next t
        ∧ Answers [] 0x34 .ok (be 1 s.spl.windows.length ++ be 1 s.spl.lastTag ++ be 1 s.spl.planner.fillLevel
            ++ s.spl.windows.flatMap fun w => be 1 w.tag ++ be 4 w.start ++ be 1 w.length ++ be 2 w.capacity ++ be 2 w.used
              ++ be 3 w.mask.toNat ++ [(match w.source with | .host => 1 | .pattern => 2 : Byte)]
              ++ [(match w.state with | .opened => 1 | .active => 2 : Byte)]
              ++ be 1 (allSlots.countP fun k => match s.slot k with
                | some o => o.tag = some w.tag
                | none => false)) s t)
    ∧ (∃ t, exec .windowReadPattern s = .next t
        ∧ Answers [] 0x34 .ok ([(match s.spl.generator.state with | .idle => 0 | .running => 1 | .stopped => 2 : Byte)]
            ++ [if s.spl.generator.rotation then 1 else 0] ++ be 4 s.spl.generator.anchor ++ be 1 s.spl.generator.index
            ++ be 4 s.spl.generator.lastStart ++ be 1 s.spl.generator.templates.length
            ++ s.spl.generator.templates.flatMap fun x =>
            be 2 x.offset ++ be 1 x.length ++ be 2 x.capacity ++ be 3 x.mask.toNat) s t)
    ∧ ∀ kind : Byte, (∀ k : ReqKind, k.code ≠ kind) →
        ∃ t, exec (.unknownKind kind) s = .next t ∧ Refuses kind .unknownKind [] s t

/-! ### Windows and the pattern (07) -/

/-- A new window's tag is the smallest above the last one issued that no listed window uses, counting on from 255 to 1
(R125). WINDOW_ADD: BAD_VALUE, BUSY, NO_ROOM in this order, otherwise the window enters the list by its start, OPEN and
empty, under the next tag; WINDOW_REMOVE: BAD_VALUE, BUSY, NO_SUCH, CONFLICT for an ACTIVE window with its start and end,
otherwise its SCHEDULED orders return to PROPOSED, it leaves the list, and a generation attempt is made (R124 to R127).
That the conflict's end epoch is sent in 5 bytes is the model's reading (log 21); that the reply's summary shows the
notices of the attempt is its choice (R160; log 38). -/
def Obligations.WindowRequests : Prop :=
  (∀ (last : Nat) (ws : List MaintWindow), last ≤ 255 → ws.length ≤ 8 →
      let tag := nextTag last ws
      1 ≤ tag ∧ tag ≤ 255 ∧ (∀ w ∈ ws, w.tag ≠ tag)
      ∧ ∀ x, 1 ≤ x → x ≤ 255 → (∀ w ∈ ws, w.tag ≠ x) → (tag + 254 - last) % 255 ≤ (x + 254 - last) % 255)
  ∧ ((∀ (start : BitVec 32) (length : Byte) (capacity : BitVec 16) (mask : BitVec 24) (s : State),
        let i : Instr := .windowAdd start length capacity mask
        let bad := start.toNat ≤ s.etm.epoch ∨ length = 0 ∨ capacity = 0 ∨ mask = 0
        (bad → ∃ t, exec i s = .next t ∧ Refuses 0x32 .badValue [] s t)
        ∧ (¬ bad → s.spl.planner.stage ≠ .idle → ∃ t, exec i s = .next t ∧ Refuses 0x32 .busy [] s t)
        ∧ (¬ bad → s.spl.planner.stage = .idle → 8 ≤ s.spl.windows.length →
            ∃ t, exec i s = .next t ∧ Refuses 0x32 .noRoom [] s t)
        ∧ (¬ bad → s.spl.planner.stage = .idle → s.spl.windows.length < 8 →
            let w : MaintWindow :=
              { tag := nextTag s.spl.lastTag s.spl.windows, start := start.toNat, length := length.toNat
                capacity := capacity.toNat, used := 0, mask, source := .host, state := .opened }
            ∃ t, exec i s = .next t ∧ Answers [.spl] 0x32 .ok (be 1 w.tag ++ be 1 (s.spl.windows.length + 1)) s t
              ∧ t.spl.orders = s.spl.orders ∧ KeepsRun s t
              ∧ t.spl.windows = insertWindow w s.spl.windows ∧ t.spl.lastTag = w.tag
              ∧ WindowEntered w s t))
      ∧ ∀ (tag : Byte) (s : State),
        (tag = 0 → ∃ t, exec (.windowRemove tag) s = .next t ∧ Refuses 0x33 .badValue [] s t)
        ∧ (tag ≠ 0 → s.spl.planner.stage ≠ .idle → ∃ t, exec (.windowRemove tag) s = .next t ∧ Refuses 0x33 .busy [] s t)
        ∧ (tag ≠ 0 → s.spl.planner.stage = .idle →
          ((∀ w ∈ s.spl.windows, w.tag ≠ tag.toNat) →
            ∃ t, exec (.windowRemove tag) s = .next t ∧ Refuses 0x33 .noSuch [] s t)
          ∧ ∀ w ∈ s.spl.windows, w.tag = tag.toNat → (∀ x ∈ s.spl.windows, x.tag = w.tag → x = w) →
            (w.state = .active → ∃ t, exec (.windowRemove tag) s = .next t
              ∧ Refuses 0x33 .conflict (be 4 w.start ++ be 5 (w.start + w.length)) s t)
            ∧ (w.state = .opened → ∃ t u, exec (.windowRemove tag) s = .next t ∧ KeepsAllBut [.spl] s u
              ∧ u.spl.windows = s.spl.windows.filter (fun x => x.tag ≠ w.tag) ∧ KeepsRun s u
              ∧ u.spl.lastTag = s.spl.lastTag
              ∧ (∀ k, u.slot k = (s.slot k).map fun o =>
                  if o.state = .scheduled ∧ o.tag = some w.tag then o.proposed else o)
              ∧ t.spl = u.generate.spl ∧ t.nq = u.generate.nq
              ∧ Answers [.spl, .nq] 0x33 .ok (be 1 (allSlots.countP fun k => match s.slot k with
                  | some o => o.state = .scheduled && o.tag = some w.tag
                  | none => false)) s t)))

/-- At a boundary to epoch N every OPEN window whose start has come is activated, its SCHEDULED orders are released
unless it ends at this boundary too, and WINDOW_RELEASED counts them; then every window whose end has come returns its
orders to PROPOSED with their missed counts increased and ORDER_MISSED posted, in list order and in ascending slot order
within a window, and leaves the list (R129, R130). -/
def Obligations.WindowsActivateAndEnd : Prop :=
  ∀ s : State, WindowInv s →
    let n := s.etm.epoch
    let starts : MaintWindow → Bool := fun w => w.state = .opened && decide (w.start ≤ n)
    let ends : MaintWindow → Bool := fun w => decide (w.start + w.length ≤ n)
    let named : Nat → OrderState → List SlotNo := fun tag st => allSlots.filter fun k => match s.slot k with
      | some o => o.state = st && o.tag = some tag
      | none => false
    let a := s.activateWindows n
    s.tendWindows = (a.endWindows n).generate
    ∧ KeepsAllBut [.spl, .nq] s a ∧ KeepsRun s a ∧ a.spl.lastTag = s.spl.lastTag
    ∧ a.spl.windows = s.spl.windows.map (fun w => if starts w then { w with state := .active } else w)
    ∧ (∀ k, a.slot k = (s.slot k).map fun o =>
        if o.state = .scheduled && s.spl.windows.any (fun w => starts w && !ends w && o.tag = some w.tag) then
          { o with state := .released } else o)
    ∧ Posts ((s.spl.windows.filter fun w => starts w && !ends w).map fun w =>
        (.windowReleased, w.tag, (named w.tag .scheduled).length)) s a
    ∧ (let e := s.endWindows n
       let goes : Order → Option MaintWindow := fun o =>
         if o.state = .released || o.state = .scheduled then
           s.spl.windows.find? (fun w => ends w && o.tag = some w.tag)
         else none
       KeepsAllBut [.spl, .nq] s e ∧ KeepsGenerator s e
       ∧ e.spl.windows = s.spl.windows.filter (fun w => !ends w)
       ∧ (∀ k, e.slot k = (s.slot k).map fun o =>
           if (goes o).isSome then { o.proposed with missed := min (o.missed + 1) 15 } else o)
       ∧ e.spl.planner = { s.spl.planner with
           rerun := s.spl.planner.rerun || (decide (s.spl.planner.stage ≠ .idle)
             && allSlots.any fun k => match s.slot k with
               | some o => (goes o).isSome
               | none => false) }
       ∧ Posts ((s.spl.windows.filter ends).flatMap fun w => allSlots.filterMap fun k => (s.slot k).bind fun o =>
           if (o.state = .released || o.state = .scheduled) && o.tag = some w.tag then
             some (.orderMissed, o.member.val, w.tag * 65536 + min (o.missed + 1) 15) else none) s e)

/-- PATTERN_LOAD: BAD_VALUE for a count or a template out of range (a count that its list does not match is the model's
case, log 29), then BUSY, otherwise the templates replace the pattern and the index becomes 0; PATTERN_CONTROL:
BAD_VALUE for a code not defined, then CONFLICT for an empty pattern enabled, otherwise the settings are written, the
reset made, the state set, and a generation attempt made; no attempt is made by PATTERN_LOAD (R132 to R135). That
PATTERN_CONTROL's data are the generator record in 12 bytes is the model's reading (log 21). -/
def Obligations.PatternRequests : Prop :=
  (∀ (count : Byte) (ts : List TemplateRecord) (s : State),
    let good := 1 ≤ count.toNat ∧ count.toNat ≤ 16 ∧ ts.length = count.toNat
      ∧ ∀ x ∈ ts, x.offset ≠ 0 ∧ x.length ≠ 0 ∧ x.capacity ≠ 0 ∧ x.mask ≠ 0
    (¬ good → ∃ t, exec (.patternLoad count ts) s = .next t ∧ Refuses 0x35 .badValue [] s t)
    ∧ (good → s.spl.planner.stage ≠ .idle → ∃ t, exec (.patternLoad count ts) s = .next t ∧ Refuses 0x35 .busy [] s t)
    ∧ (good → s.spl.planner.stage = .idle →
        ∃ t, exec (.patternLoad count ts) s = .next t
          ∧ Answers [.spl] 0x35 .ok ([count] ++ be 1 s.spl.generator.state.code) s t
          ∧ t.spl = { s.spl with generator := { s.spl.generator with
              index := 0
              templates := ts.map fun x =>
                { offset := x.offset.toNat, length := x.length.toNat, capacity := x.capacity.toNat, mask := x.mask } } }))
  ∧ ∀ (enable rotation reset : Byte) (anchor : BitVec 32) (s : State),
    let bad := 1 < enable.toNat ∨ 1 < rotation.toNat ∨ 1 < reset.toNat
    let x := s.spl.generator
    (bad → ∃ t, exec (.patternControl enable rotation anchor reset) s = .next t ∧ Refuses 0x36 .badValue [] s t)
    ∧ (¬ bad → enable = 1 → x.templates = [] →
        ∃ t, exec (.patternControl enable rotation anchor reset) s = .next t ∧ Refuses 0x36 .conflict [] s t)
    ∧ (¬ bad → enable = 0 ∨ x.templates ≠ [] →
        ∃ t u, exec (.patternControl enable rotation anchor reset) s = .next t
          ∧ u = { s with spl := { s.spl with generator := { x with
              rotation := decide (rotation = 1), anchor := anchor.toNat
              index := if reset = 1 then 0 else x.index
              lastStart := if reset = 1 then anchor.toNat else x.lastStart
              state := if enable = 1 then .running else .idle } } }
          ∧ t.spl = u.generate.spl ∧ t.nq = u.generate.nq
          ∧ (let y := t.spl.generator
             Answers [.spl, .nq] 0x36 .ok ([(match y.state with | .idle => 0 | .running => 1 | .stopped => 2 : Byte)]
               ++ [if y.rotation then 1 else 0] ++ be 4 y.anchor ++ be 1 y.index ++ be 4 y.lastStart
               ++ be 1 y.templates.length) s t))

/-- A generation attempt makes no step unless the generator is RUNNING below the fill level with room in the list. A
step that finds its start after the running epoch adds the window and ends the attempt; a skip posts WINDOW_SKIPPED and
the attempt goes on; a step that comes to the end of the templates posts PATTERN_WRAP and, with rotation off,
PATTERN_END and stops. No attempt adds more than one window (R135, R136). -/
def Obligations.GenerationAttempt : Prop :=
  ∀ s : State,
    let x := s.spl.generator
    let may := x.state = .running ∧ (s.spl.windows.filter fun w => w.state = .opened).length < s.spl.planner.fillLevel
      ∧ s.spl.windows.length < 8
    KeepsAllBut [.spl, .nq] s s.generate ∧ s.generate.spl.orders = s.spl.orders
    ∧ s.generate.spl.planner = s.spl.planner ∧ s.generate.spl.windows.length ≤ s.spl.windows.length + 1
    ∧ (¬ may → s.generate = s)
    ∧ (may → ∀ y, x.templates[x.index]? = some y →
      let start := min (x.lastStart + y.offset) (2 ^ 32 - 1)
      let wraps := x.index + 1 = x.templates.length
      let stops := wraps ∧ x.rotation = false
      let stepped : Generator := { x with
        lastStart := start, index := if wraps then 0 else x.index + 1
        state := if wraps ∧ x.rotation = false then .stopped else x.state }
      let ends : List (NoticeKind × Nat × Nat) := (if wraps then [(.patternWrap, 0, start)] else [])
        ++ (if wraps ∧ x.rotation = false then [(.patternEnd, 0, start)] else [])
      (s.etm.epoch < start →
        s.generate.spl.generator = stepped ∧ Posts ends s s.generate
        ∧ s.generate.spl.lastTag = nextTag s.spl.lastTag s.spl.windows
        ∧ s.generate.spl.windows = insertWindow
            { tag := nextTag s.spl.lastTag s.spl.windows, start, length := y.length, capacity := y.capacity, used := 0
              mask := y.mask, source := .pattern, state := .opened } s.spl.windows)
      ∧ (start ≤ s.etm.epoch → 1 ≤ y.offset → x.lastStart + y.offset ≤ 2 ^ 32 - 1 → (∀ z ∈ x.templates, 1 ≤ z.offset) →
        let u : State := { s with spl := { s.spl with generator := stepped } }
        ∃ v, KeepsAllBut [.spl, .nq] s v ∧ v.spl = u.spl ∧ Posts ([(.windowSkipped, 0, start)] ++ ends) s v
          ∧ (stops → s.generate = v) ∧ (¬ stops → s.etm.epoch ≤ 2 ^ 32 - 1 → s.generate = v.generate))
      ∧ (s.etm.epoch = 2 ^ 32 - 1 → 2 ^ 32 - 1 < x.lastStart + y.offset →
        s.generate.spl = { s.spl with generator := { x with lastStart := 2 ^ 32 - 1, index := 0, state := .stopped } }
        ∧ Posts ([(.windowSkipped, 0, 2 ^ 32 - 1)] ++ (if wraps then [(.patternWrap, 0, 2 ^ 32 - 1)] else [])
            ++ [(.patternEnd, 0, 2 ^ 32 - 1)]) s s.generate))

/-! ### The planning run (08) -/

/-- PLAN_SET: BAD_VALUE for an auto-plan code not defined, a horizon of 0 or a fill level outside 1–8; otherwise the four
settings are written, a generation attempt is made, and the data hold the settings, the planner state and the rerun flag.
PLAN_RUN: ACCEPTED and a run starts from IDLE with fresh copies and counts; BUSY otherwise (R135, R137 to R139). That
PLAN_SET's summary shows the notices of the attempt is the model's choice (R160; log 38). -/
def Obligations.PlanSetAndRun : Prop :=
  (∀ (auto : Byte) (horizon gang : BitVec 16) (fill : Byte) (s : State),
    let bad := 1 < auto.toNat ∨ horizon = 0 ∨ fill = 0 ∨ 8 < fill.toNat
    let p := s.spl.planner
    (bad → ∃ t, exec (.planSet auto horizon gang fill) s = .next t ∧ Refuses 0x30 .badValue [] s t)
    ∧ (¬ bad → ∃ t u, exec (.planSet auto horizon gang fill) s = .next t
        ∧ u = { s with spl := { s.spl with planner := { p with
            autoPlan := decide (auto = 1), horizon := horizon.toNat, gangHorizon := gang.toNat
            fillLevel := fill.toNat } } }
        ∧ t.spl = u.generate.spl ∧ t.nq = u.generate.nq
        ∧ Answers [.spl, .nq] 0x30 .ok ([auto] ++ be 2 horizon.toNat ++ be 2 gang.toNat ++ [fill]
            ++ [if p.stage = .idle then 0 else 1, if p.rerun then 1 else 0]) s t))
  ∧ ∀ s : State,
    (s.spl.planner.stage ≠ .idle → ∃ t, exec .planRun s = .next t ∧ Refuses 0x31 .busy [] s t)
    ∧ (s.spl.planner.stage = .idle → ∃ t, exec .planRun s = .next t ∧ Answers [.spl] 0x31 .accepted [] s t
        ∧ t.spl = { s.spl with planner := { s.spl.planner with
            stage := .walk 0, runHorizon := s.spl.planner.horizon, runGangHorizon := s.spl.planner.gangHorizon
            sortList := [], placed := 0, late := 0, unplaced := 0, skipped := 0, leftUnplaced := [] } })

/-- A stage's command that comes when the run is not at that stage changes nothing (the model's choice, log 25).
PLAN_DONE comes once placement has taken the whole sort list and ganging has no order left or is passed over: the
packed counts are posted, and the planner becomes IDLE or, with the rerun flag set, starts a new run. Before that it
changes nothing (the model's choice, log 25) (R141, R143, R149, R150). -/
def Obligations.RunsAreReported : Prop :=
  (∀ s : State,
      ((∀ i, s.spl.planner.stage ≠ .walk i) → exec .planMemberWalk s = .next s)
      ∧ ((∀ i, s.spl.planner.stage ≠ .walk i ∧ s.spl.planner.stage ≠ .takeBack i ∧ s.spl.planner.stage ≠ .copyMinutes i) →
          exec .placementReset s = .next s)
      ∧ (s.spl.planner.stage ≠ .sort → exec .planSort s = .next s)
      ∧ ((∀ i, s.spl.planner.stage ≠ .placement i) → exec .orderPlacement s = .next s)
      ∧ ((∀ i j g tag, s.spl.planner.stage ≠ .placement i ∧ s.spl.planner.stage ≠ .ganging i
            ∧ s.spl.planner.stage ≠ .gangRollers j g tag i) →
          exec .ganging s = .next s ∧ exec .planDone s = .next s)
      ∧ (∀ i, s.spl.planner.stage = .placement i →
          (s.spl.planner.sortList.length ≤ i → exec .orderPlacement s = .next s)
          ∧ (i < s.spl.planner.sortList.length ∨ s.spl.planner.runGangHorizon = 0 → exec .ganging s = .next s))
      ∧ ∀ i n m, s.spl.planner.stage = .walk i → i ≤ n.val → s.member n = some m → m.held = false →
          exec .placementReset s = .next s)
  ∧ (∀ s : State,
        let p := s.spl.planner
        let beltFrom : Nat → Prop := fun i => ∃ j n m, i ≤ j ∧ p.sortList[j]? = some n ∧ s.member n = some m ∧ m.kind = .belt
        let done := (∃ i, p.stage = .placement i ∧ p.sortList.length ≤ i ∧ (p.runGangHorizon = 0 ∨ ¬ beltFrom 0))
          ∨ (∃ i, p.stage = .ganging i ∧ ¬ beltFrom i)
          ∨ ∃ j g tag i, p.stage = .gangRollers j g tag i ∧ (∀ r, i ≤ r.val → ¬ RollerOrder s g r) ∧ ¬ beltFrom (j + 1)
        (¬ done → exec .planDone s = .next s)
        ∧ (done → ∃ t, exec .planDone s = .next t ∧ KeepsAllBut [.spl, .nq] s t ∧ KeepsPlan s t ∧ KeepsGenerator s t
            ∧ Posts [(.planDone, 0, p.placed * 2 ^ 24 + p.late * 2 ^ 16 + p.unplaced * 2 ^ 8 + p.skipped)] s t
            ∧ t.spl.planner = if p.rerun then
                { p with
                  stage := .walk 0, rerun := false, runHorizon := p.horizon, runGangHorizon := p.gangHorizon, sortList := []
                  placed := 0, late := 0, unplaced := 0, skipped := 0, leftUnplaced := [] }
              else { p with stage := .idle }))

/-- The member walk visits the next record that is neither FREE nor held, finds the strongest reason that applies, and
creates, rewrites or withdraws the member's order; a HOST order is untouched, a RELEASED or IN_WORK one is never
withdrawn, and a full pool counts the member as skipped (R143, R144). That a command with no member left moves the walk to
its end and does nothing else is the model's choice (log 25), and so is that the first stage may begin before PLAN_RUN's
reply is sent (R139; log 34). -/
def Obligations.WalkTendsOrders : Prop :=
  ∀ (i : Nat) (s : State), s.spl.planner.stage = .walk i →
    let p := s.spl.planner
    let epoch := s.etm.epoch
    let visits : MemberNo → Prop := fun n => i ≤ n.val ∧ ∃ m, s.member n = some m ∧ m.held = false
    ((∀ n, ¬ visits n) → exec .planMemberWalk s = .next (s.setPlanner { p with stage := .walk 192 }))
    ∧ ∀ n m, visits n → (∀ k, visits k → n ≤ k) → s.member n = some m →
      let found : Option (Reason × Nat) :=
        if m.limit ≤ m.wear then some (.limit, epoch)
        else if m.warnLevel ≤ m.wear then
          some (.warn, match m.projection with
            | some x => x
            | none => min (epoch + p.runHorizon) (2 ^ 32 - 1))
        else match m.projection with
          | some x => if x ≤ epoch + p.runHorizon then some (.projected, x) else none
          | none => none
      ∃ t, exec .planMemberWalk s = .next t ∧ KeepsAllBut [.spl, .nq] s t ∧ KeepsGenerator s t
        ∧ (let moved : Planner := { p with stage := .walk (n.val + 1) }
           let stands := t.spl.orders = s.spl.orders ∧ t.spl.windows = s.spl.windows ∧ t.spl.planner = moved ∧ Posts [] s t
           (NoOrder s n → found = none → stands)
           ∧ (NoOrder s n → ∀ r due, found = some (r, due) →
               ((∀ k, (s.slot k).isSome) →
                 t.spl.orders = s.spl.orders ∧ t.spl.windows = s.spl.windows
                 ∧ t.spl.planner = { moved with skipped := p.skipped + 1 } ∧ Posts [] s t)
               ∧ ∀ k, s.slot k = none → (∀ j, j < k → (s.slot j).isSome) →
                 t.slot k = some
                   { member := n, reason := r, state := .proposed, due, tag := none, minutes := m.minutes, late := false
                     ganged := false, missed := 0, created := epoch }
                 ∧ KeepsOtherSlots k s t ∧ t.spl.windows = s.spl.windows ∧ t.spl.planner = moved ∧ Posts [] s t)
           ∧ ∀ k o, OrderAt s n k o →
             (o.reason = .host → stands)
             ∧ (o.reason ≠ .host → ∀ r due, found = some (r, due) →
                 t.slot k = some { o with reason := r, due } ∧ KeepsOtherSlots k s t ∧ t.spl.windows = s.spl.windows
                 ∧ t.spl.planner = moved ∧ Posts [] s t)
             ∧ (o.reason ≠ .host → found = none → o.state = .proposed ∨ o.state = .scheduled →
                 OrderRemoved k o s t ∧ t.spl.planner = moved ∧ Posts [(.orderWithdrawn, n.val, o.due)] s t)
             ∧ (o.reason ≠ .host → found = none → o.state = .released ∨ o.state = .inWork → stands))

/-- The placement reset, once the walk has no member left, returns every SCHEDULED order to PROPOSED, copies the service
minutes into every PROPOSED order, and sets each window's used minutes to those of the RELEASED orders naming it; the
sort list then holds the PROPOSED orders by due epoch, BELT before ROLLER, then member number (R143, R145, R146). That a
command of the stage takes one order, in ascending slot order, SCHEDULED orders first, is the model's choice (log 25); a
number of them with nothing between does the whole of R145. -/
def Obligations.ResetAndSort : Prop :=
  ∀ s : State,
    let p := s.spl.planner
    let staged : Stage → State := fun st => s.setPlanner { p with stage := st }
    let ready := ∃ i, p.stage = .walk i ∧ ∀ n m, i ≤ n.val → s.member n = some m → m.held = true
    let minutes : Order → Nat := fun o => match s.member o.member with
      | some m => m.minutes
      | none => o.minutes
    let used := s.spl.windows.map fun w => { w with
      used := (allSlots.map fun k => match s.slot k with
        | some o => if o.state = .released ∧ o.tag = some w.tag then o.minutes else 0
        | none => 0).sum }
    let next : OrderState → Nat → SlotNo → Order → Prop := fun st i k o => i ≤ k.val ∧ s.slot k = some o ∧ o.state = st
      ∧ ∀ j q, i ≤ j.val → s.slot j = some q → q.state = st → k ≤ j
    let noneLeft : OrderState → Nat → Prop := fun st i => ∀ j q, i ≤ j.val → s.slot j = some q → q.state ≠ st
    (ready → ∃ n t, execAll (List.replicate n .placementReset) s = .next t ∧ KeepsAllBut [.spl] s t ∧ KeepsGenerator s t
        ∧ t.spl.planner = { p with stage := .sort }
        ∧ (∀ k, t.slot k = (s.slot k).map fun o =>
            if o.state = .scheduled ∨ o.state = .proposed then
              { (if o.state = .scheduled then o.proposed else o) with minutes := minutes o }
            else o)
        ∧ t.spl.windows = used)
    ∧ (∀ i, (ready ∧ i = 0) ∨ p.stage = .takeBack i →
        (∀ k o, next .scheduled i k o →
          exec .placementReset s = .next ((staged (.takeBack (k.val + 1))).setSlot k (some o.proposed)))
        ∧ (noneLeft .scheduled i → exec .placementReset s = exec .placementReset (staged (.copyMinutes 0))))
    ∧ (∀ i, p.stage = .copyMinutes i →
        (∀ k o, next .proposed i k o → exec .placementReset s
          = .next ((staged (.copyMinutes (k.val + 1))).setSlot k (some { o with minutes := minutes o })))
        ∧ (noneLeft .proposed i → exec .placementReset s = .next ((staged .sort).setWindows used)))
    ∧ (p.stage = .sort →
      ∃ (t : State) (orders : List Order), exec .planSort s = .next t ∧ KeepsAllBut [.spl] s t
        ∧ t.spl = { s.spl with planner := { p with stage := .placement 0, sortList := orders.map (·.member) } }
        ∧ orders.Perm (allSlots.filterMap fun k => (s.slot k).filter fun o => o.state = .proposed)
        ∧ orders.Pairwise (SortsBefore s))

/-- The placement stage takes the next order of the sort list: passed over where it has left the pool or PROPOSED;
placed in the candidate with the latest start at or before its due epoch, or else LATE in the one with the earliest
start, the nearest the head among equals; left unplaced where no window can take it, with DUE_UNPLACED for reason LIMIT
(R121, R147, R148). That an order passed over takes a command of its own, which moves the place in the list and nothing
else, is the model's choice (log 25). -/
def Obligations.OrdersArePlaced : Prop :=
  ∀ (i : Nat) (n : MemberNo) (s : State), s.spl.planner.stage = .placement i → s.spl.planner.sortList[i]? = some n →
    let p := s.spl.planner
    let moved : Planner := { p with stage := .placement (i + 1) }
    ∃ t, exec .orderPlacement s = .next t ∧ KeepsAllBut [.spl, .nq] s t ∧ KeepsGenerator s t
      ∧ (NoOrder s n ∨ (∃ k o, OrderAt s n k o ∧ o.state ≠ .proposed) → KeepsPlan s t ∧ t.spl.planner = moved ∧ Posts [] s t)
      ∧ ∀ k o, OrderAt s n k o → o.state = .proposed →
        (∀ m g w front back, s.member n = some m → m.segment = some g → s.spl.windows = front ++ w :: back →
          CanTake w g o.minutes →
          let placed : Bool → Prop := fun late =>
            t.slot k = some { o with state := .scheduled, tag := some w.tag, late := late } ∧ KeepsOtherSlots k s t
            ∧ t.spl.windows = windowsWith w.tag o.minutes s.spl.windows
            ∧ t.spl.planner = { moved with placed := p.placed + 1, late := p.late + late.toNat } ∧ Posts [] s t
          (w.start ≤ o.due → (∀ x ∈ front, CanTake x g o.minutes → x.start ≤ o.due → x.start < w.start) →
            (∀ x ∈ back, CanTake x g o.minutes → x.start ≤ o.due → x.start ≤ w.start) → placed false)
          ∧ ((∀ x ∈ s.spl.windows, CanTake x g o.minutes → o.due < x.start) →
            (∀ x ∈ front, CanTake x g o.minutes → w.start < x.start) →
            (∀ x ∈ back, CanTake x g o.minutes → w.start ≤ x.start) → placed true))
        ∧ ((∀ m g w, s.member n = some m → m.segment = some g → w ∈ s.spl.windows → ¬ CanTake w g o.minutes) →
          KeepsPlan s t
          ∧ t.spl.planner = { moved with unplaced := p.unplaced + 1, leftUnplaced := n :: p.leftUnplaced }
          ∧ Posts (if o.reason = .limit then [(.dueUnplaced, n.val, o.minutes)] else []) s t)

/-- The ganging stage takes the BELT orders of the sort list in order, passing over one that is no longer SCHEDULED, and
at each the roller orders of its segment in ascending member number; a roller's order left unplaced by this run, or
SCHEDULED in a later window, is moved into the belt's window where its due epoch and the free capacity allow, and the run
counts follow (R121, R149). That a command takes one BELT order, with its window, or one roller order of it, that a BELT
order passed over takes a command, and that with no BELT order left the place moves to the list's end, is the model's
choice (log 25); that a window made ACTIVE or ended meanwhile takes no more rollers is its reading (R109; log 32), and so
is that the belt's window is held by its tag, so that a new window given that tag meanwhile stands in its place (R125; log
32). -/
def Obligations.RollersAreGanged : Prop :=
  (∀ (i : Nat) (s : State),
    let p := s.spl.planner
    let staged : Stage → State := fun st => s.setPlanner { p with stage := st }
    (p.stage = .ganging i
      ∨ ((∃ j, p.stage = .placement j ∧ p.sortList.length ≤ j) ∧ 0 < p.runGangHorizon ∧ i = 0)) →
    let belt : Nat → Prop := fun j => i ≤ j ∧ ∃ n m, p.sortList[j]? = some n ∧ s.member n = some m ∧ m.kind = .belt
    ((∀ j, ¬ belt j) → exec .ganging s = .next (staged (.ganging p.sortList.length)))
    ∧ (∀ j n m, belt j → (∀ h, belt h → j ≤ h) → p.sortList[j]? = some n → s.member n = some m →
      NoOrder s n ∨ m.segment = none → exec .ganging s = .next (staged (.ganging (j + 1))))
    ∧ ∀ j n m g k o, belt j → (∀ h, belt h → j ≤ h) → p.sortList[j]? = some n → s.member n = some m →
      m.segment = some g → OrderAt s n k o →
      (o.state ≠ .scheduled → exec .ganging s = .next (staged (.ganging (j + 1))))
      ∧ (∀ tag, o.state = .scheduled → o.tag = some tag → exec .ganging s = .next (staged (.gangRollers j g tag 0))))
  ∧ (∀ (j : Nat) (g : SegNo) (tag i : Nat) (s : State), s.spl.planner.stage = .gangRollers j g tag i →
    ((∀ r, i ≤ r.val → ¬ RollerOrder s g r) →
      exec .ganging s = exec .ganging (s.setPlanner { s.spl.planner with stage := .ganging (j + 1) }))
    ∧ ∀ r, i ≤ r.val → RollerOrder s g r → (∀ q, i ≤ q.val → RollerOrder s g q → r ≤ q) →
      let u := State.gangMember tag s r
      exec .ganging s = .next (u.setPlanner { u.spl.planner with stage := .gangRollers j g tag (r.val + 1) })
      ∧ ((∀ w ∈ s.spl.windows, w.tag ≠ tag) → u = s))
  ∧ ∀ (n : MemberNo) (k : SlotNo) (o : Order) (w : MaintWindow) (s : State), WindowInv s → OrderAt s n k o →
    w ∈ s.spl.windows →
    let p := s.spl.planner
    let t := State.gangMember w.tag s n
    let moves := w.state = .opened ∧ ((o.state = .proposed ∧ n ∈ p.leftUnplaced)
        ∨ (o.state = .scheduled ∧ ∃ x ∈ s.spl.windows, o.tag = some x.tag ∧ w.start < x.start))
      ∧ o.due ≤ w.start + p.runGangHorizon ∧ o.minutes ≤ w.capacity - w.used
    let late := decide (o.due < w.start)
    (¬ moves → t = s)
    ∧ (moves → KeepsAllBut [.spl] s t ∧ KeepsGenerator s t ∧ KeepsOtherSlots k s t
      ∧ t.slot k = some { o with state := .scheduled, tag := some w.tag, ganged := true, late := late }
      ∧ t.spl.windows = windowsWith w.tag o.minutes (windowsWithout o s.spl.windows)
      ∧ t.spl.planner = { p with
          late := p.late + late.toNat - o.late.toNat
          placed := if o.state = .proposed then p.placed + 1 else p.placed
          unplaced := if o.state = .proposed then p.unplaced - 1 else p.unplaced
          leftUnplaced := if o.state = .proposed then p.leftUnplaced.erase n else p.leftUnplaced })

/-- Every step keeps the window list ordered and its tags distinct, and the order pool to one order for a member that is
not FREE, each with its tag exactly while SCHEDULED or RELEASED (R106, R107, R124, R125). Where the member table is in order
too, every step keeps every SCHEDULED order in a listed OPEN window and every RELEASED one in a listed ACTIVE one, the
minutes naming a window within its used minutes and those within its capacity, no order SCHEDULED between the placement
reset and placement, and the minutes, due epoch, missed count and created epoch of every order and the figures of every
window and template in their ranges (R107, R109, R123, R132, R145). -/
def Obligations.PlanKept : Prop :=
  (∀ s t : State, WindowInv s → OrderInv s → step s = .next t → WindowInv t ∧ OrderInv t)
  ∧ (∀ s t : State, MemberInv s → WindowInv s → OrderInv s → PlanInv s → step s = .next t → PlanInv t)

/-! ### Notices (09) -/

/-- A posting is coalesced with a waiting record of its kind and subject, appended with the stamp of the moment while
fewer than 32 wait, and otherwise dropped and counted, whatever the mask; the kinds have the codes and the classes of
section 9.2; the summary shows the classes that wait and are enabled, the lost bit and the queued count (R154, R155,
R159). -/
def Obligations.PostingRule : Prop :=
  ∀ (q : Nq) (kind : NoticeKind) (subject value epoch : Nat) (tick : Tick),
    let p := q.post kind subject value epoch tick
    let waits := ∃ n ∈ q.queue, n.kind = kind ∧ n.subject = subject
    (∀ s : State, s.post kind subject value = { s with nq := s.nq.post kind subject value s.etm.epoch s.etm.tick })
    ∧ (NoticeInv q → NoticeInv p) ∧ p.mask = q.mask
    ∧ (waits → p.lost = q.lost ∧ p.lostBit = q.lostBit ∧ p.queue.length = q.queue.length
        ∧ ∀ (i : Nat) (n : Notice), q.queue[i]? = some n → p.queue[i]? = some
            (if n.kind = kind ∧ n.subject = subject then { n with value := value, repeats := min (n.repeats + 1) 255 } else n))
    ∧ (¬ waits → q.queue.length < 32 → p.lost = q.lost ∧ p.lostBit = q.lostBit
        ∧ p.queue = q.queue ++ [{ kind, subject, firstEpoch := epoch, firstTick := tick, value, repeats := 1 }])
    ∧ (¬ waits → 32 ≤ q.queue.length → p.queue = q.queue ∧ p.lost = min (q.lost + 1) 255 ∧ p.lostBit = true)
    ∧ (∀ c ∈ ([(.wear, 0), (.plan, 1), (.segment, 2), (.tracking, 3), (.system, 4)] : List (NoticeClass × Nat)),
        c.1.number = c.2)
    ∧ (∀ c ∈ ([(.memberWarn, 0x11, .wear), (.memberDue, 0x12, .wear), (.checkpoint, 0x13, .wear),
          (.deferredOverflow, 0x14, .wear), (.planDone, 0x21, .plan), (.windowReleased, 0x22, .plan),
          (.orderMissed, 0x23, .plan), (.dueUnplaced, 0x24, .plan), (.orderWithdrawn, 0x25, .plan),
          (.patternWrap, 0x26, .plan), (.patternEnd, 0x27, .plan), (.windowSkipped, 0x28, .plan), (.segLost, 0x31, .segment),
          (.segFailed, 0x32, .segment), (.segIdlerLost, 0x33, .segment), (.segRecovered, 0x34, .segment),
          (.speedLimit, 0x35, .segment), (.slipAlarm, 0x36, .segment), (.trackResync, 0x41, .tracking),
          (.trackOverflow, 0x42, .tracking), (.modeChanged, 0x51, .system), (.markMissed, 0x52, .system)]
          : List (NoticeKind × Byte × NoticeClass)), c.1.code = c.2.1 ∧ c.1.cls = c.2.2)
    ∧ q.attention.count = q.queue.length ∧ q.attention.lost = q.lostBit
    ∧ ∀ c : NoticeClass, q.attention.classes.getLsbD c.number = true
        ↔ q.mask.getLsbD c.number = true ∧ ∃ n ∈ q.queue, n.kind.cls = c

/-- NOTICE_TAKE takes the head whatever its class and reports its record (kind code, subject, first epoch and tick, value,
repeat count) with the number left, or the empty record; NOTICE_MASK replaces the mask, or answers BAD_VALUE for a setting
neither on nor off; STATUS reports the mode, the slots, the planner, the epoch, the tick and the counts, and then clears the
lost counter and the lost bit (R155, R157, R158, R177). -/
def Obligations.NoticeRequests : Prop :=
  ∀ s : State,
    (s.nq.queue = [] → ∃ t, exec .noticeTake s = .next t ∧ Answers [] 0x40 .ok (List.replicate 16 0) s t)
    ∧ (∀ n rest, s.nq.queue = n :: rest →
        ∃ t, exec .noticeTake s = .next t
          ∧ Answers [.nq] 0x40 .ok ([n.kind.code] ++ be 1 n.subject ++ be 4 n.firstEpoch ++ be 4 n.firstTick.toNat
              ++ be 4 n.value ++ be 1 n.repeats ++ be 1 rest.length) s t
          ∧ t.nq = { s.nq with queue := rest })
    ∧ (∀ settings : Byte,
        (32 ≤ settings.toNat → ∃ t, exec (.noticeMask settings) s = .next t ∧ Refuses 0x41 .badValue [] s t)
        ∧ (settings.toNat < 32 → ∃ t, exec (.noticeMask settings) s = .next t ∧ Answers [.nq] 0x41 .ok [settings] s t
            ∧ t.nq = { s.nq with mask := settings.setWidth 5 }))
    ∧ ∃ t, exec .status s = .next t ∧ t.nq = { s.nq with lost := 0, lostBit := false }
        ∧ Answers [.nq] 0x02 .ok
            (([if s.rqd.mode = .setup then 0 else 1, if s.rqd.pendingSetup then 1 else 0,
              if s.rqd.pendingSettings.isSome then 1 else 0, if s.spl.planner.stage = .idle then 0 else 1,
              if s.spl.planner.rerun then 1 else 0] : List Byte) ++ be 4 s.etm.epoch ++ be 4 s.etm.tick.toNat ++ be 2 s.itu.free
              ++ be 1 (allMembers.countP fun n => (s.member n).isSome) ++ be 1 (allSlots.countP fun k => (s.slot k).isSome)
              ++ be 1 s.spl.windows.length
              ++ [(match s.spl.generator.state with | .idle => 0 | .running => 1 | .stopped => 2 : Byte)] ++ be 1 s.nq.lost) s t

/-- Every step keeps the queue within 32 records, no two of one kind and subject (R153 to R155). Every step keeps the
driver active exactly while a reply is SENDING, the receiver BLANKED while it is, and a frame in the buffer exactly
while RECEIVING, for this station or all and within its length (R162, R163, R165). That the buffer is empty outside
RECEIVING is the model's choice (log 26). -/
def Obligations.QueueAndLinkKept : Prop :=
  (∀ s t : State, NoticeInv s.nq → step s = .next t → NoticeInv t.nq)
  ∧ (∀ s t : State, LinkInv s.lnk → step s = .next t → LinkInv t.lnk)

/-! ### The station link (10) -/

/-- The receiver discards what it must: every character while BLANKED, and every one whose start bit fell in the blanked
span, whatever the receiver does at its end (R165); in IDLE a character with mark 0 and one with mark 1 for another
station; in RECEIVING a mark-1 character abandons the frame uncounted and is judged afresh. A low stop bit is counted and
abandons; a bad L and the gap limit are counted and abandon (R162, R163, R167). The command is the receiver's reading of
the character's eleven bits, the start bit low (R161): that a line found high there gives no character, and that a
character begun before the blanked span and ended in it is discarded, is the model's choice (log 37). That
GAP_LIMIT_EXPIRY with nothing being assembled changes nothing is the model's choice (log 4), and so is that the buffer of
an abandoned frame is emptied (log 26). -/
def Obligations.ReceiverJudges : Prop :=
  ∀ (data : Byte) (mark stop : Bool) (s : State),
    let k := s.lnk
    let arrives : StartBit → Instr := fun start => .characterReceived start ⟨data, mark⟩ stop
    let i := arrives .heard
    let abandoned : Lnk := { k with receiver := .idle, buffer := [] }
    (∀ start, exec (arrives start) s = .next (s.receive start (lineBits data mark stop)))
    ∧ (∀ line : BitVec 11, (line.getLsbD 0 = true → ∀ start, s.receive start line = s)
        ∧ (line.getLsbD 0 = false → ∃ d m p, line = lineBits d m p))
    ∧ exec (arrives .blanked) s = .next s
    ∧ (k.receiver = .blanked → exec i s = .next s)
    ∧ (k.receiver ≠ .blanked → stop = true → mark = true → data = k.address ∨ data = 0 →
        exec i s = .next { s with lnk := { k with receiver := .receiving, buffer := [data] } })
    ∧ (k.receiver ≠ .blanked → stop = true → mark = true → data ≠ k.address → data ≠ 0 →
        exec i s = .next { s with lnk := abandoned })
    ∧ (k.receiver = .idle → stop = true → mark = false → exec i s = .next s)
    ∧ (k.receiver = .idle → stop = false →
        exec i s = .next { s with lnk := { k with
          counters := { k.counters with framing := min (k.counters.framing + 1) 65535 } } })
    ∧ (k.receiver = .receiving → stop = false →
        exec i s = .next { s with lnk := { abandoned with
          counters := { k.counters with framing := min (k.counters.framing + 1) 65535 } } })
    ∧ (k.receiver = .receiving → stop = true → mark = false → k.buffer.length = 1 → data = 0 ∨ 250 < data.toNat →
        exec i s = .next { s with lnk := { abandoned with
          counters := { k.counters with oversize := min (k.counters.oversize + 1) 65535 } } })
    ∧ (k.receiver = .receiving → stop = true → mark = false → k.buffer.length = 1 → 1 ≤ data.toNat → data.toNat ≤ 250 →
        exec i s = .next { s with lnk := { k with buffer := k.buffer ++ [data] } })
    ∧ (k.receiver = .receiving → stop = true → mark = false → ∀ a l rest, k.buffer = a :: l :: rest →
        k.buffer.length + 1 ≠ l.toNat + 4 → exec i s = .next { s with lnk := { k with buffer := k.buffer ++ [data] } })
    ∧ (k.receiver = .receiving → exec .gapLimitExpiry s = .next { s with lnk := { abandoned with
        counters := { k.counters with gap := min (k.counters.gap + 1) 65535 } } })
    ∧ (k.receiver ≠ .receiving → exec .gapLimitExpiry s = .next s)

/-- The characters of a whole frame for this station or for all, taken one after another: discarded and counted where the
CRC does not hold, where a reply is PENDING or SENDING, and where a broadcast is of a kind not taken by broadcast;
otherwise counted as good and handed to the RQD, an addressed one making the reply state PENDING; a broadcast RESTART ALL
is taken at once on hand-over (R162 to R164, R167, R174). That the buffer is emptied when its frame is complete, and that
no reply is held from the hand-over until one is built, is the model's choice (log 26). -/
def Obligations.FramesAreChecked : Prop :=
  ∀ (f : Frame) (crc : BitVec 16) (s : State), f.payload.length ≤ 249 → s.lnk.receiver ≠ .blanked →
    f.address = s.lnk.address ∨ f.address = 0 →
    let covered := BitVec.ofNat 8 (f.payload.length + 1) :: f.kind :: f.payload
    let characters : List Instr := .characterReceived .heard ⟨f.address, true⟩ true
      :: (covered ++ be 2 crc.toNat).map fun b => .characterReceived .heard ⟨b, false⟩ true
    let idle : Lnk := { s.lnk with receiver := .idle, buffer := [] }
    let c := s.lnk.counters
    (crc = crc16 covered → characters = frameCommands f)
    ∧ (crc ≠ crc16 covered →
        execAll characters s = .next { s with lnk := { idle with counters := { c with crc := min (c.crc + 1) 65535 } } })
    ∧ (crc = crc16 covered → s.lnk.replyState ≠ .none →
        execAll characters s
          = .next { s with lnk := { idle with counters := { c with collisions := min (c.collisions + 1) 65535 } } })
    ∧ (crc = crc16 covered → s.lnk.replyState = .none → f.address = 0 → f.kind ∉ [0x03, 0x04, 0x09] →
        execAll characters s
          = .next { s with lnk := { idle with counters := { c with discards := min (c.discards + 1) 65535 } } })
    ∧ (crc = crc16 covered → s.lnk.replyState = .none → f.address = 0 → f.kind = 0x04 → f.payload = [3] →
        execAll characters s = exec (.restartAll .broadcast) s)
    ∧ (crc = crc16 covered → s.lnk.replyState = .none → f.address = 0 → f.kind ∈ [0x03, 0x04, 0x09] →
        ¬ (f.kind = 0x04 ∧ f.payload = [3]) →
        execAll characters s = .next { s with
          lnk := { idle with counters := { c with good := min (c.good + 1) 65535 } }
          rqd := { s.rqd with handed := s.rqd.handed ++ [f] } })
    ∧ (crc = crc16 covered → s.lnk.replyState = .none → f.address ≠ 0 →
        execAll characters s = .next { s with
          lnk := { idle with
            counters := { c with good := min (c.good + 1) 65535 }, replyState := .pending, reply := none }
          rqd := { s.rqd with handed := s.rqd.handed ++ [f] } })

/-- The CRC over the nine characters 0x31 to 0x39 is 0x29B1; the statuses have the codes of R168; and a reply frame is the
station's address with mark 1, then with mark 0 L, the kind, the status code, the two summary bytes, the data and the CRC
over all but the address (R164, R165, R168), each character on the line in eleven bits: the start bit, low, the data bits,
least significant first, the mark bit, and the stop bit, high (R161). REPLY_START drives the built reply's frame, enters
SENDING and BLANKED, and cuts off a frame being assembled as a collision; REPLY_END releases the driver and puts a new
divisor in force; BLANKING_END returns the receiver to IDLE, not before the reply's end; LINK_SET leaves the divisor
standing until then; COUNTERS reports the nine counters and clears them. A command of these that comes when its event
cannot occur changes nothing, and the record of the frame driven is the model's own (R165 to R167, R178; logs 4 and 26).
-/
def Obligations.RepliesAreSent : Prop :=
  (crc16 [0x31, 0x32, 0x33, 0x34, 0x35, 0x36, 0x37, 0x38, 0x39] = 0x29B1
    ∧ (∀ c ∈ ([(.ok, 0x00), (.accepted, 0x01), (.deferred, 0x02), (.busy, 0x10), (.wrongMode, 0x11), (.badValue, 0x12),
          (.noRoom, 0x13), (.noSuch, 0x14), (.conflict, 0x15), (.notHeld, 0x16), (.unknownKind, 0x17)]
          : List (Status × Byte)), c.1.code = c.2)
    ∧ ∀ (address : Byte) (r : Reply), r.data.length ≤ 246 →
      let summary : List Byte := [r.attention.classes.setWidth 8 ||| (if r.attention.lost then 0x80 else 0),
        BitVec.ofNat 8 r.attention.count]
      let covered := [BitVec.ofNat 8 (r.data.length + 4), r.kind, r.status.code] ++ summary ++ r.data
      (r.characters address).map (·.data) = [address] ++ covered ++ be 2 (crc16 covered).toNat
      ∧ (r.characters address).map (·.mark) = [true] ++ List.replicate (r.data.length + 7) false)
  ∧ (∀ (data : Byte) (mark stop : Bool),
        (lineBits data mark stop).getLsbD 0 = false
        ∧ (∀ i, i < 8 → (lineBits data mark stop).getLsbD (i + 1) = data.getLsbD i)
        ∧ (lineBits data mark stop).getLsbD 9 = mark ∧ (lineBits data mark stop).getLsbD 10 = stop)
  ∧ (∀ s : State,
        let k := s.lnk
        let c := k.counters
        (∀ r, k.replyState = .pending → k.reply = some r →
          let sending : Lnk := { k with
            receiver := .blanked, replyState := .sending, de := true
            tx := (r.characters k.address).map fun c => lineBits c.data c.mark true }
          (k.receiver ≠ .receiving → exec .replyStart s = .next { s with lnk := sending })
          ∧ (k.receiver = .receiving → exec .replyStart s = .next { s with lnk := { sending with
              buffer := [], counters := { c with collisions := min (c.collisions + 1) 65535 } } }))
        ∧ (k.replyState ≠ .pending ∨ k.reply = none → exec .replyStart s = .next s)
        ∧ (k.replyState = .sending → k.restartAtEnd = false →
            exec .replyEnd s = .next { s with lnk := { k with
              replyState := .none, reply := none, de := false, divisor := k.newDivisor.getD k.divisor, newDivisor := none } })
        ∧ (k.replyState ≠ .sending → exec .replyEnd s = .next s)
        ∧ (k.receiver = .blanked → k.replyState ≠ .sending →
            exec .blankingEnd s = .next { s with lnk := { k with receiver := .idle } })
        ∧ (k.receiver ≠ .blanked ∨ k.replyState = .sending → exec .blankingEnd s = .next s)
        ∧ (∀ n : Byte, ∃ t, exec (.linkSet n) s = .next t ∧ KeepsAllBut [.lnk, .rqd] s t
            ∧ t.rqd = { s.rqd with handed := s.rqd.handed.tail }
            ∧ t.lnk = { k.withReply 0x05 .ok s.nq.attention [n] with newDivisor := some n })
        ∧ ∃ t, exec .counters s = .next t ∧ KeepsAllBut [.lnk, .rqd, .etm] s t
            ∧ t.rqd = { s.rqd with handed := s.rqd.handed.tail }
            ∧ t.etm = { s.etm with marksIgnored := 0, markMismatches := 0 }
            ∧ t.lnk = { k.withReply 0x06 .ok s.nq.attention
                  ([c.good, c.crc, c.framing, c.gap, c.oversize, c.collisions, c.discards, s.etm.marksIgnored,
                    s.etm.markMismatches].flatMap (be 2)) with
                counters := { good := 0, crc := 0, framing := 0, gap := 0, oversize := 0, collisions := 0, discards := 0 } })

/-- The reset state satisfies every invariant. -/
def Obligations.InvariantsAtReset : Prop :=
  PoolInv State.reset ∧ NoticeInv State.reset.nq ∧ SegmentInv State.reset ∧ MemberInv State.reset ∧ WindowInv State.reset
    ∧ OrderInv State.reset ∧ PlanInv State.reset ∧ LinkInv State.reset.lnk
end

