-- ==== Sys2Proof/Laws/State.lean ====
section
/-! SUPPORT. What each named update of `State` leaves alone and what it writes: one lemma for each block and update, and the
read-after-write lemmas of the tables. -/

namespace Sys2Proof.Machine

variable (s : State)

/-! ### `setLine` -/

@[simp] theorem State.setLine_smu (l : LineNo) (x : Line) : (s.setLine l x).smu = s.smu := rfl
@[simp] theorem State.setLine_itu (l : LineNo) (x : Line) : (s.setLine l x).itu = s.itu := rfl
@[simp] theorem State.setLine_wau (l : LineNo) (x : Line) : (s.setLine l x).wau = s.wau := rfl
@[simp] theorem State.setLine_etm (l : LineNo) (x : Line) : (s.setLine l x).etm = s.etm := rfl
@[simp] theorem State.setLine_spl (l : LineNo) (x : Line) : (s.setLine l x).spl = s.spl := rfl
@[simp] theorem State.setLine_nq (l : LineNo) (x : Line) : (s.setLine l x).nq = s.nq := rfl
@[simp] theorem State.setLine_lnk (l : LineNo) (x : Line) : (s.setLine l x).lnk = s.lnk := rfl
@[simp] theorem State.setLine_rqd (l : LineNo) (x : Line) : (s.setLine l x).rqd = s.rqd := rfl
@[simp] theorem State.setLine_arbiter (l : LineNo) (x : Line) : (s.setLine l x).arbiter = s.arbiter := rfl
@[simp] theorem State.setLine_pending (l : LineNo) (x : Line) : (s.setLine l x).pending = s.pending := rfl

/-! ### `mapLines` -/

@[simp] theorem State.mapLines_smu (f : LineNo → Line → Line) : (s.mapLines f).smu = s.smu := by simp only [State.mapLines]
@[simp] theorem State.mapLines_itu (f : LineNo → Line → Line) : (s.mapLines f).itu = s.itu := by simp only [State.mapLines]
@[simp] theorem State.mapLines_wau (f : LineNo → Line → Line) : (s.mapLines f).wau = s.wau := by simp only [State.mapLines]
@[simp] theorem State.mapLines_etm (f : LineNo → Line → Line) : (s.mapLines f).etm = s.etm := by simp only [State.mapLines]
@[simp] theorem State.mapLines_spl (f : LineNo → Line → Line) : (s.mapLines f).spl = s.spl := by simp only [State.mapLines]
@[simp] theorem State.mapLines_nq (f : LineNo → Line → Line) : (s.mapLines f).nq = s.nq := by simp only [State.mapLines]
@[simp] theorem State.mapLines_lnk (f : LineNo → Line → Line) : (s.mapLines f).lnk = s.lnk := by simp only [State.mapLines]
@[simp] theorem State.mapLines_rqd (f : LineNo → Line → Line) : (s.mapLines f).rqd = s.rqd := by simp only [State.mapLines]
@[simp] theorem State.mapLines_arbiter (f : LineNo → Line → Line) : (s.mapLines f).arbiter = s.arbiter := by simp only [State.mapLines]
@[simp] theorem State.mapLines_pending (f : LineNo → Line → Line) : (s.mapLines f).pending = s.pending := by simp only [State.mapLines]

/-! ### `setSegment` -/

@[simp] theorem State.setSegment_siu (g : SegNo) (x : Segment) : (s.setSegment g x).siu = s.siu := rfl
@[simp] theorem State.setSegment_itu (g : SegNo) (x : Segment) : (s.setSegment g x).itu = s.itu := rfl
@[simp] theorem State.setSegment_wau (g : SegNo) (x : Segment) : (s.setSegment g x).wau = s.wau := rfl
@[simp] theorem State.setSegment_etm (g : SegNo) (x : Segment) : (s.setSegment g x).etm = s.etm := rfl
@[simp] theorem State.setSegment_spl (g : SegNo) (x : Segment) : (s.setSegment g x).spl = s.spl := rfl
@[simp] theorem State.setSegment_nq (g : SegNo) (x : Segment) : (s.setSegment g x).nq = s.nq := rfl
@[simp] theorem State.setSegment_lnk (g : SegNo) (x : Segment) : (s.setSegment g x).lnk = s.lnk := rfl
@[simp] theorem State.setSegment_rqd (g : SegNo) (x : Segment) : (s.setSegment g x).rqd = s.rqd := rfl
@[simp] theorem State.setSegment_arbiter (g : SegNo) (x : Segment) : (s.setSegment g x).arbiter = s.arbiter := rfl
@[simp] theorem State.setSegment_pending (g : SegNo) (x : Segment) : (s.setSegment g x).pending = s.pending := rfl

/-! ### `setRun` -/

@[simp] theorem State.setRun_siu (g : SegNo) (r : SegRun) : (s.setRun g r).siu = s.siu := rfl
@[simp] theorem State.setRun_itu (g : SegNo) (r : SegRun) : (s.setRun g r).itu = s.itu := rfl
@[simp] theorem State.setRun_wau (g : SegNo) (r : SegRun) : (s.setRun g r).wau = s.wau := rfl
@[simp] theorem State.setRun_etm (g : SegNo) (r : SegRun) : (s.setRun g r).etm = s.etm := rfl
@[simp] theorem State.setRun_spl (g : SegNo) (r : SegRun) : (s.setRun g r).spl = s.spl := rfl
@[simp] theorem State.setRun_nq (g : SegNo) (r : SegRun) : (s.setRun g r).nq = s.nq := rfl
@[simp] theorem State.setRun_lnk (g : SegNo) (r : SegRun) : (s.setRun g r).lnk = s.lnk := rfl
@[simp] theorem State.setRun_rqd (g : SegNo) (r : SegRun) : (s.setRun g r).rqd = s.rqd := rfl
@[simp] theorem State.setRun_arbiter (g : SegNo) (r : SegRun) : (s.setRun g r).arbiter = s.arbiter := rfl
@[simp] theorem State.setRun_pending (g : SegNo) (r : SegRun) : (s.setRun g r).pending = s.pending := rfl

/-! ### `setTrack` -/

@[simp] theorem State.setTrack_siu (g : SegNo) (x : Tracking) : (s.setTrack g x).siu = s.siu := rfl
@[simp] theorem State.setTrack_smu (g : SegNo) (x : Tracking) : (s.setTrack g x).smu = s.smu := rfl
@[simp] theorem State.setTrack_wau (g : SegNo) (x : Tracking) : (s.setTrack g x).wau = s.wau := rfl
@[simp] theorem State.setTrack_etm (g : SegNo) (x : Tracking) : (s.setTrack g x).etm = s.etm := rfl
@[simp] theorem State.setTrack_spl (g : SegNo) (x : Tracking) : (s.setTrack g x).spl = s.spl := rfl
@[simp] theorem State.setTrack_nq (g : SegNo) (x : Tracking) : (s.setTrack g x).nq = s.nq := rfl
@[simp] theorem State.setTrack_lnk (g : SegNo) (x : Tracking) : (s.setTrack g x).lnk = s.lnk := rfl
@[simp] theorem State.setTrack_rqd (g : SegNo) (x : Tracking) : (s.setTrack g x).rqd = s.rqd := rfl
@[simp] theorem State.setTrack_arbiter (g : SegNo) (x : Tracking) : (s.setTrack g x).arbiter = s.arbiter := rfl
@[simp] theorem State.setTrack_pending (g : SegNo) (x : Tracking) : (s.setTrack g x).pending = s.pending := rfl

/-! ### `giveFree` -/

@[simp] theorem State.giveFree_siu (n : Nat) : (s.giveFree n).siu = s.siu := rfl
@[simp] theorem State.giveFree_smu (n : Nat) : (s.giveFree n).smu = s.smu := rfl
@[simp] theorem State.giveFree_wau (n : Nat) : (s.giveFree n).wau = s.wau := rfl
@[simp] theorem State.giveFree_etm (n : Nat) : (s.giveFree n).etm = s.etm := rfl
@[simp] theorem State.giveFree_spl (n : Nat) : (s.giveFree n).spl = s.spl := rfl
@[simp] theorem State.giveFree_nq (n : Nat) : (s.giveFree n).nq = s.nq := rfl
@[simp] theorem State.giveFree_lnk (n : Nat) : (s.giveFree n).lnk = s.lnk := rfl
@[simp] theorem State.giveFree_rqd (n : Nat) : (s.giveFree n).rqd = s.rqd := rfl
@[simp] theorem State.giveFree_arbiter (n : Nat) : (s.giveFree n).arbiter = s.arbiter := rfl
@[simp] theorem State.giveFree_pending (n : Nat) : (s.giveFree n).pending = s.pending := rfl

/-! ### `takeFree` -/

@[simp] theorem State.takeFree_siu : (s.takeFree).siu = s.siu := rfl
@[simp] theorem State.takeFree_smu : (s.takeFree).smu = s.smu := rfl
@[simp] theorem State.takeFree_wau : (s.takeFree).wau = s.wau := rfl
@[simp] theorem State.takeFree_etm : (s.takeFree).etm = s.etm := rfl
@[simp] theorem State.takeFree_spl : (s.takeFree).spl = s.spl := rfl
@[simp] theorem State.takeFree_nq : (s.takeFree).nq = s.nq := rfl
@[simp] theorem State.takeFree_lnk : (s.takeFree).lnk = s.lnk := rfl
@[simp] theorem State.takeFree_rqd : (s.takeFree).rqd = s.rqd := rfl
@[simp] theorem State.takeFree_arbiter : (s.takeFree).arbiter = s.arbiter := rfl
@[simp] theorem State.takeFree_pending : (s.takeFree).pending = s.pending := rfl

/-! ### `setMember` -/

@[simp] theorem State.setMember_siu (n : MemberNo) (x : Option Member) : (s.setMember n x).siu = s.siu := rfl
@[simp] theorem State.setMember_smu (n : MemberNo) (x : Option Member) : (s.setMember n x).smu = s.smu := rfl
@[simp] theorem State.setMember_itu (n : MemberNo) (x : Option Member) : (s.setMember n x).itu = s.itu := rfl
@[simp] theorem State.setMember_etm (n : MemberNo) (x : Option Member) : (s.setMember n x).etm = s.etm := rfl
@[simp] theorem State.setMember_spl (n : MemberNo) (x : Option Member) : (s.setMember n x).spl = s.spl := rfl
@[simp] theorem State.setMember_nq (n : MemberNo) (x : Option Member) : (s.setMember n x).nq = s.nq := rfl
@[simp] theorem State.setMember_lnk (n : MemberNo) (x : Option Member) : (s.setMember n x).lnk = s.lnk := rfl
@[simp] theorem State.setMember_rqd (n : MemberNo) (x : Option Member) : (s.setMember n x).rqd = s.rqd := rfl
@[simp] theorem State.setMember_arbiter (n : MemberNo) (x : Option Member) : (s.setMember n x).arbiter = s.arbiter := rfl
@[simp] theorem State.setMember_pending (n : MemberNo) (x : Option Member) : (s.setMember n x).pending = s.pending := rfl

/-! ### `setPass` -/

@[simp] theorem State.setPass_siu (p : Option RatePass) : (s.setPass p).siu = s.siu := rfl
@[simp] theorem State.setPass_smu (p : Option RatePass) : (s.setPass p).smu = s.smu := rfl
@[simp] theorem State.setPass_itu (p : Option RatePass) : (s.setPass p).itu = s.itu := rfl
@[simp] theorem State.setPass_etm (p : Option RatePass) : (s.setPass p).etm = s.etm := rfl
@[simp] theorem State.setPass_spl (p : Option RatePass) : (s.setPass p).spl = s.spl := rfl
@[simp] theorem State.setPass_nq (p : Option RatePass) : (s.setPass p).nq = s.nq := rfl
@[simp] theorem State.setPass_lnk (p : Option RatePass) : (s.setPass p).lnk = s.lnk := rfl
@[simp] theorem State.setPass_rqd (p : Option RatePass) : (s.setPass p).rqd = s.rqd := rfl
@[simp] theorem State.setPass_arbiter (p : Option RatePass) : (s.setPass p).arbiter = s.arbiter := rfl
@[simp] theorem State.setPass_pending (p : Option RatePass) : (s.setPass p).pending = s.pending := rfl

/-! ### `setUntaken` -/

@[simp] theorem State.setUntaken_siu (u : Option Untaken) : (s.setUntaken u).siu = s.siu := rfl
@[simp] theorem State.setUntaken_smu (u : Option Untaken) : (s.setUntaken u).smu = s.smu := rfl
@[simp] theorem State.setUntaken_itu (u : Option Untaken) : (s.setUntaken u).itu = s.itu := rfl
@[simp] theorem State.setUntaken_wau (u : Option Untaken) : (s.setUntaken u).wau = s.wau := rfl
@[simp] theorem State.setUntaken_spl (u : Option Untaken) : (s.setUntaken u).spl = s.spl := rfl
@[simp] theorem State.setUntaken_nq (u : Option Untaken) : (s.setUntaken u).nq = s.nq := rfl
@[simp] theorem State.setUntaken_lnk (u : Option Untaken) : (s.setUntaken u).lnk = s.lnk := rfl
@[simp] theorem State.setUntaken_rqd (u : Option Untaken) : (s.setUntaken u).rqd = s.rqd := rfl
@[simp] theorem State.setUntaken_arbiter (u : Option Untaken) : (s.setUntaken u).arbiter = s.arbiter := rfl
@[simp] theorem State.setUntaken_pending (u : Option Untaken) : (s.setUntaken u).pending = s.pending := rfl

/-! ### `setSlot` -/

@[simp] theorem State.setSlot_siu (k : SlotNo) (x : Option Order) : (s.setSlot k x).siu = s.siu := rfl
@[simp] theorem State.setSlot_smu (k : SlotNo) (x : Option Order) : (s.setSlot k x).smu = s.smu := rfl
@[simp] theorem State.setSlot_itu (k : SlotNo) (x : Option Order) : (s.setSlot k x).itu = s.itu := rfl
@[simp] theorem State.setSlot_wau (k : SlotNo) (x : Option Order) : (s.setSlot k x).wau = s.wau := rfl
@[simp] theorem State.setSlot_etm (k : SlotNo) (x : Option Order) : (s.setSlot k x).etm = s.etm := rfl
@[simp] theorem State.setSlot_nq (k : SlotNo) (x : Option Order) : (s.setSlot k x).nq = s.nq := rfl
@[simp] theorem State.setSlot_lnk (k : SlotNo) (x : Option Order) : (s.setSlot k x).lnk = s.lnk := rfl
@[simp] theorem State.setSlot_rqd (k : SlotNo) (x : Option Order) : (s.setSlot k x).rqd = s.rqd := rfl
@[simp] theorem State.setSlot_arbiter (k : SlotNo) (x : Option Order) : (s.setSlot k x).arbiter = s.arbiter := rfl
@[simp] theorem State.setSlot_pending (k : SlotNo) (x : Option Order) : (s.setSlot k x).pending = s.pending := rfl

/-! ### `setWindows` -/

@[simp] theorem State.setWindows_siu (ws : List MaintWindow) : (s.setWindows ws).siu = s.siu := rfl
@[simp] theorem State.setWindows_smu (ws : List MaintWindow) : (s.setWindows ws).smu = s.smu := rfl
@[simp] theorem State.setWindows_itu (ws : List MaintWindow) : (s.setWindows ws).itu = s.itu := rfl
@[simp] theorem State.setWindows_wau (ws : List MaintWindow) : (s.setWindows ws).wau = s.wau := rfl
@[simp] theorem State.setWindows_etm (ws : List MaintWindow) : (s.setWindows ws).etm = s.etm := rfl
@[simp] theorem State.setWindows_nq (ws : List MaintWindow) : (s.setWindows ws).nq = s.nq := rfl
@[simp] theorem State.setWindows_lnk (ws : List MaintWindow) : (s.setWindows ws).lnk = s.lnk := rfl
@[simp] theorem State.setWindows_rqd (ws : List MaintWindow) : (s.setWindows ws).rqd = s.rqd := rfl
@[simp] theorem State.setWindows_arbiter (ws : List MaintWindow) : (s.setWindows ws).arbiter = s.arbiter := rfl
@[simp] theorem State.setWindows_pending (ws : List MaintWindow) : (s.setWindows ws).pending = s.pending := rfl

/-! ### `setPlanner` -/

@[simp] theorem State.setPlanner_siu (p : Planner) : (s.setPlanner p).siu = s.siu := rfl
@[simp] theorem State.setPlanner_smu (p : Planner) : (s.setPlanner p).smu = s.smu := rfl
@[simp] theorem State.setPlanner_itu (p : Planner) : (s.setPlanner p).itu = s.itu := rfl
@[simp] theorem State.setPlanner_wau (p : Planner) : (s.setPlanner p).wau = s.wau := rfl
@[simp] theorem State.setPlanner_etm (p : Planner) : (s.setPlanner p).etm = s.etm := rfl
@[simp] theorem State.setPlanner_nq (p : Planner) : (s.setPlanner p).nq = s.nq := rfl
@[simp] theorem State.setPlanner_lnk (p : Planner) : (s.setPlanner p).lnk = s.lnk := rfl
@[simp] theorem State.setPlanner_rqd (p : Planner) : (s.setPlanner p).rqd = s.rqd := rfl
@[simp] theorem State.setPlanner_arbiter (p : Planner) : (s.setPlanner p).arbiter = s.arbiter := rfl
@[simp] theorem State.setPlanner_pending (p : Planner) : (s.setPlanner p).pending = s.pending := rfl

/-! ### `setGenerator` -/

@[simp] theorem State.setGenerator_siu (x : Generator) : (s.setGenerator x).siu = s.siu := rfl
@[simp] theorem State.setGenerator_smu (x : Generator) : (s.setGenerator x).smu = s.smu := rfl
@[simp] theorem State.setGenerator_itu (x : Generator) : (s.setGenerator x).itu = s.itu := rfl
@[simp] theorem State.setGenerator_wau (x : Generator) : (s.setGenerator x).wau = s.wau := rfl
@[simp] theorem State.setGenerator_etm (x : Generator) : (s.setGenerator x).etm = s.etm := rfl
@[simp] theorem State.setGenerator_nq (x : Generator) : (s.setGenerator x).nq = s.nq := rfl
@[simp] theorem State.setGenerator_lnk (x : Generator) : (s.setGenerator x).lnk = s.lnk := rfl
@[simp] theorem State.setGenerator_rqd (x : Generator) : (s.setGenerator x).rqd = s.rqd := rfl
@[simp] theorem State.setGenerator_arbiter (x : Generator) : (s.setGenerator x).arbiter = s.arbiter := rfl
@[simp] theorem State.setGenerator_pending (x : Generator) : (s.setGenerator x).pending = s.pending := rfl

/-! ### `setStage` -/

@[simp] theorem State.setStage_siu (st : Stage) : (s.setStage st).siu = s.siu := rfl
@[simp] theorem State.setStage_smu (st : Stage) : (s.setStage st).smu = s.smu := rfl
@[simp] theorem State.setStage_itu (st : Stage) : (s.setStage st).itu = s.itu := rfl
@[simp] theorem State.setStage_wau (st : Stage) : (s.setStage st).wau = s.wau := rfl
@[simp] theorem State.setStage_etm (st : Stage) : (s.setStage st).etm = s.etm := rfl
@[simp] theorem State.setStage_nq (st : Stage) : (s.setStage st).nq = s.nq := rfl
@[simp] theorem State.setStage_lnk (st : Stage) : (s.setStage st).lnk = s.lnk := rfl
@[simp] theorem State.setStage_rqd (st : Stage) : (s.setStage st).rqd = s.rqd := rfl
@[simp] theorem State.setStage_arbiter (st : Stage) : (s.setStage st).arbiter = s.arbiter := rfl
@[simp] theorem State.setStage_pending (st : Stage) : (s.setStage st).pending = s.pending := rfl

/-! ### `setLnk` -/

@[simp] theorem State.setLnk_siu (k : Lnk) : (s.setLnk k).siu = s.siu := rfl
@[simp] theorem State.setLnk_smu (k : Lnk) : (s.setLnk k).smu = s.smu := rfl
@[simp] theorem State.setLnk_itu (k : Lnk) : (s.setLnk k).itu = s.itu := rfl
@[simp] theorem State.setLnk_wau (k : Lnk) : (s.setLnk k).wau = s.wau := rfl
@[simp] theorem State.setLnk_etm (k : Lnk) : (s.setLnk k).etm = s.etm := rfl
@[simp] theorem State.setLnk_spl (k : Lnk) : (s.setLnk k).spl = s.spl := rfl
@[simp] theorem State.setLnk_nq (k : Lnk) : (s.setLnk k).nq = s.nq := rfl
@[simp] theorem State.setLnk_rqd (k : Lnk) : (s.setLnk k).rqd = s.rqd := rfl
@[simp] theorem State.setLnk_arbiter (k : Lnk) : (s.setLnk k).arbiter = s.arbiter := rfl
@[simp] theorem State.setLnk_pending (k : Lnk) : (s.setLnk k).pending = s.pending := rfl

/-! ### `setMode` -/

@[simp] theorem State.setMode_siu (m : Mode) : (s.setMode m).siu = s.siu := rfl
@[simp] theorem State.setMode_smu (m : Mode) : (s.setMode m).smu = s.smu := rfl
@[simp] theorem State.setMode_itu (m : Mode) : (s.setMode m).itu = s.itu := rfl
@[simp] theorem State.setMode_wau (m : Mode) : (s.setMode m).wau = s.wau := rfl
@[simp] theorem State.setMode_etm (m : Mode) : (s.setMode m).etm = s.etm := rfl
@[simp] theorem State.setMode_spl (m : Mode) : (s.setMode m).spl = s.spl := rfl
@[simp] theorem State.setMode_nq (m : Mode) : (s.setMode m).nq = s.nq := rfl
@[simp] theorem State.setMode_lnk (m : Mode) : (s.setMode m).lnk = s.lnk := rfl
@[simp] theorem State.setMode_arbiter (m : Mode) : (s.setMode m).arbiter = s.arbiter := rfl
@[simp] theorem State.setMode_pending (m : Mode) : (s.setMode m).pending = s.pending := rfl

/-! ### `setPendingSetup` -/

@[simp] theorem State.setPendingSetup_siu (b : Bool) : (s.setPendingSetup b).siu = s.siu := rfl
@[simp] theorem State.setPendingSetup_smu (b : Bool) : (s.setPendingSetup b).smu = s.smu := rfl
@[simp] theorem State.setPendingSetup_itu (b : Bool) : (s.setPendingSetup b).itu = s.itu := rfl
@[simp] theorem State.setPendingSetup_wau (b : Bool) : (s.setPendingSetup b).wau = s.wau := rfl
@[simp] theorem State.setPendingSetup_etm (b : Bool) : (s.setPendingSetup b).etm = s.etm := rfl
@[simp] theorem State.setPendingSetup_spl (b : Bool) : (s.setPendingSetup b).spl = s.spl := rfl
@[simp] theorem State.setPendingSetup_nq (b : Bool) : (s.setPendingSetup b).nq = s.nq := rfl
@[simp] theorem State.setPendingSetup_lnk (b : Bool) : (s.setPendingSetup b).lnk = s.lnk := rfl
@[simp] theorem State.setPendingSetup_arbiter (b : Bool) : (s.setPendingSetup b).arbiter = s.arbiter := rfl
@[simp] theorem State.setPendingSetup_pending (b : Bool) : (s.setPendingSetup b).pending = s.pending := rfl

/-! ### `post` -/

@[simp] theorem State.post_siu (k : NoticeKind) (x v : Nat) : (s.post k x v).siu = s.siu := rfl
@[simp] theorem State.post_smu (k : NoticeKind) (x v : Nat) : (s.post k x v).smu = s.smu := rfl
@[simp] theorem State.post_itu (k : NoticeKind) (x v : Nat) : (s.post k x v).itu = s.itu := rfl
@[simp] theorem State.post_wau (k : NoticeKind) (x v : Nat) : (s.post k x v).wau = s.wau := rfl
@[simp] theorem State.post_etm (k : NoticeKind) (x v : Nat) : (s.post k x v).etm = s.etm := rfl
@[simp] theorem State.post_spl (k : NoticeKind) (x v : Nat) : (s.post k x v).spl = s.spl := rfl
@[simp] theorem State.post_lnk (k : NoticeKind) (x v : Nat) : (s.post k x v).lnk = s.lnk := rfl
@[simp] theorem State.post_rqd (k : NoticeKind) (x v : Nat) : (s.post k x v).rqd = s.rqd := rfl
@[simp] theorem State.post_arbiter (k : NoticeKind) (x v : Nat) : (s.post k x v).arbiter = s.arbiter := rfl
@[simp] theorem State.post_pending (k : NoticeKind) (x v : Nat) : (s.post k x v).pending = s.pending := rfl

/-! ### `takeHanded` -/

@[simp] theorem State.takeHanded_siu : (s.takeHanded).siu = s.siu := rfl
@[simp] theorem State.takeHanded_smu : (s.takeHanded).smu = s.smu := rfl
@[simp] theorem State.takeHanded_itu : (s.takeHanded).itu = s.itu := rfl
@[simp] theorem State.takeHanded_wau : (s.takeHanded).wau = s.wau := rfl
@[simp] theorem State.takeHanded_etm : (s.takeHanded).etm = s.etm := rfl
@[simp] theorem State.takeHanded_spl : (s.takeHanded).spl = s.spl := rfl
@[simp] theorem State.takeHanded_nq : (s.takeHanded).nq = s.nq := rfl
@[simp] theorem State.takeHanded_lnk : (s.takeHanded).lnk = s.lnk := rfl
@[simp] theorem State.takeHanded_arbiter : (s.takeHanded).arbiter = s.arbiter := rfl
@[simp] theorem State.takeHanded_pending : (s.takeHanded).pending = s.pending := rfl

/-! ### `answerKind` -/

@[simp] theorem State.answerKind_siu (b : Byte) (st : Status) (d : List Byte) : (s.answerKind b st d).siu = s.siu := rfl
@[simp] theorem State.answerKind_smu (b : Byte) (st : Status) (d : List Byte) : (s.answerKind b st d).smu = s.smu := rfl
@[simp] theorem State.answerKind_itu (b : Byte) (st : Status) (d : List Byte) : (s.answerKind b st d).itu = s.itu := rfl
@[simp] theorem State.answerKind_wau (b : Byte) (st : Status) (d : List Byte) : (s.answerKind b st d).wau = s.wau := rfl
@[simp] theorem State.answerKind_etm (b : Byte) (st : Status) (d : List Byte) : (s.answerKind b st d).etm = s.etm := rfl
@[simp] theorem State.answerKind_spl (b : Byte) (st : Status) (d : List Byte) : (s.answerKind b st d).spl = s.spl := rfl
@[simp] theorem State.answerKind_nq (b : Byte) (st : Status) (d : List Byte) : (s.answerKind b st d).nq = s.nq := rfl
@[simp] theorem State.answerKind_arbiter (b : Byte) (st : Status) (d : List Byte) : (s.answerKind b st d).arbiter = s.arbiter := rfl
@[simp] theorem State.answerKind_pending (b : Byte) (st : Status) (d : List Byte) : (s.answerKind b st d).pending = s.pending := rfl

/-! ### `answer` -/

@[simp] theorem State.answer_siu (k : ReqKind) (st : Status) (d : List Byte) : (s.answer k st d).siu = s.siu := rfl
@[simp] theorem State.answer_smu (k : ReqKind) (st : Status) (d : List Byte) : (s.answer k st d).smu = s.smu := rfl
@[simp] theorem State.answer_itu (k : ReqKind) (st : Status) (d : List Byte) : (s.answer k st d).itu = s.itu := rfl
@[simp] theorem State.answer_wau (k : ReqKind) (st : Status) (d : List Byte) : (s.answer k st d).wau = s.wau := rfl
@[simp] theorem State.answer_etm (k : ReqKind) (st : Status) (d : List Byte) : (s.answer k st d).etm = s.etm := rfl
@[simp] theorem State.answer_spl (k : ReqKind) (st : Status) (d : List Byte) : (s.answer k st d).spl = s.spl := rfl
@[simp] theorem State.answer_nq (k : ReqKind) (st : Status) (d : List Byte) : (s.answer k st d).nq = s.nq := rfl
@[simp] theorem State.answer_arbiter (k : ReqKind) (st : Status) (d : List Byte) : (s.answer k st d).arbiter = s.arbiter := rfl
@[simp] theorem State.answer_pending (k : ReqKind) (st : Status) (d : List Byte) : (s.answer k st d).pending = s.pending := rfl

/-! ### `dropNotice` -/

@[simp] theorem State.dropNotice_siu : (s.dropNotice).siu = s.siu := rfl
@[simp] theorem State.dropNotice_smu : (s.dropNotice).smu = s.smu := rfl
@[simp] theorem State.dropNotice_itu : (s.dropNotice).itu = s.itu := rfl
@[simp] theorem State.dropNotice_wau : (s.dropNotice).wau = s.wau := rfl
@[simp] theorem State.dropNotice_etm : (s.dropNotice).etm = s.etm := rfl
@[simp] theorem State.dropNotice_spl : (s.dropNotice).spl = s.spl := rfl
@[simp] theorem State.dropNotice_lnk : (s.dropNotice).lnk = s.lnk := rfl
@[simp] theorem State.dropNotice_rqd : (s.dropNotice).rqd = s.rqd := rfl
@[simp] theorem State.dropNotice_arbiter : (s.dropNotice).arbiter = s.arbiter := rfl
@[simp] theorem State.dropNotice_pending : (s.dropNotice).pending = s.pending := rfl

/-! ### `clearCounters` -/

@[simp] theorem State.clearCounters_siu : (s.clearCounters).siu = s.siu := rfl
@[simp] theorem State.clearCounters_smu : (s.clearCounters).smu = s.smu := rfl
@[simp] theorem State.clearCounters_itu : (s.clearCounters).itu = s.itu := rfl
@[simp] theorem State.clearCounters_wau : (s.clearCounters).wau = s.wau := rfl
@[simp] theorem State.clearCounters_spl : (s.clearCounters).spl = s.spl := rfl
@[simp] theorem State.clearCounters_nq : (s.clearCounters).nq = s.nq := rfl
@[simp] theorem State.clearCounters_rqd : (s.clearCounters).rqd = s.rqd := rfl
@[simp] theorem State.clearCounters_arbiter : (s.clearCounters).arbiter = s.arbiter := rfl
@[simp] theorem State.clearCounters_pending : (s.clearCounters).pending = s.pending := rfl

/-! ### The accessors past an update of another block -/

@[simp] theorem State.segment_setLine (l : LineNo) (x : Line) (j : SegNo) : (s.setLine l x).segment j = s.segment j := rfl
@[simp] theorem State.defn_setLine (l : LineNo) (x : Line) (j : SegNo) : (s.setLine l x).defn j = s.defn j := rfl
@[simp] theorem State.run_setLine (l : LineNo) (x : Line) (j : SegNo) : (s.setLine l x).run j = s.run j := rfl
@[simp] theorem State.track_setLine (l : LineNo) (x : Line) (j : SegNo) : (s.setLine l x).track j = s.track j := rfl
@[simp] theorem State.member_setLine (l : LineNo) (x : Line) (j : MemberNo) : (s.setLine l x).member j = s.member j := rfl
@[simp] theorem State.slot_setLine (l : LineNo) (x : Line) (j : SlotNo) : (s.setLine l x).slot j = s.slot j := rfl
@[simp] theorem State.segment_mapLines (f : LineNo → Line → Line) (j : SegNo) : (s.mapLines f).segment j = s.segment j := by simp only [State.segment, State.mapLines]
@[simp] theorem State.defn_mapLines (f : LineNo → Line → Line) (j : SegNo) : (s.mapLines f).defn j = s.defn j := by simp only [State.defn, State.mapLines, State.segment]
@[simp] theorem State.run_mapLines (f : LineNo → Line → Line) (j : SegNo) : (s.mapLines f).run j = s.run j := by simp only [State.run, State.mapLines, State.segment]
@[simp] theorem State.track_mapLines (f : LineNo → Line → Line) (j : SegNo) : (s.mapLines f).track j = s.track j := by simp only [State.track, State.mapLines]
@[simp] theorem State.member_mapLines (f : LineNo → Line → Line) (j : MemberNo) : (s.mapLines f).member j = s.member j := by simp only [State.member, State.mapLines]
@[simp] theorem State.slot_mapLines (f : LineNo → Line → Line) (j : SlotNo) : (s.mapLines f).slot j = s.slot j := by simp only [State.slot, State.mapLines]
@[simp] theorem State.line_setSegment (g : SegNo) (x : Segment) (j : LineNo) : (s.setSegment g x).line j = s.line j := rfl
@[simp] theorem State.track_setSegment (g : SegNo) (x : Segment) (j : SegNo) : (s.setSegment g x).track j = s.track j := rfl
@[simp] theorem State.member_setSegment (g : SegNo) (x : Segment) (j : MemberNo) : (s.setSegment g x).member j = s.member j := rfl
@[simp] theorem State.slot_setSegment (g : SegNo) (x : Segment) (j : SlotNo) : (s.setSegment g x).slot j = s.slot j := rfl
@[simp] theorem State.line_setRun (g : SegNo) (r : SegRun) (j : LineNo) : (s.setRun g r).line j = s.line j := rfl
@[simp] theorem State.track_setRun (g : SegNo) (r : SegRun) (j : SegNo) : (s.setRun g r).track j = s.track j := rfl
@[simp] theorem State.member_setRun (g : SegNo) (r : SegRun) (j : MemberNo) : (s.setRun g r).member j = s.member j := rfl
@[simp] theorem State.slot_setRun (g : SegNo) (r : SegRun) (j : SlotNo) : (s.setRun g r).slot j = s.slot j := rfl
@[simp] theorem State.line_setTrack (g : SegNo) (x : Tracking) (j : LineNo) : (s.setTrack g x).line j = s.line j := rfl
@[simp] theorem State.segment_setTrack (g : SegNo) (x : Tracking) (j : SegNo) : (s.setTrack g x).segment j = s.segment j := rfl
@[simp] theorem State.defn_setTrack (g : SegNo) (x : Tracking) (j : SegNo) : (s.setTrack g x).defn j = s.defn j := rfl
@[simp] theorem State.run_setTrack (g : SegNo) (x : Tracking) (j : SegNo) : (s.setTrack g x).run j = s.run j := rfl
@[simp] theorem State.member_setTrack (g : SegNo) (x : Tracking) (j : MemberNo) : (s.setTrack g x).member j = s.member j := rfl
@[simp] theorem State.slot_setTrack (g : SegNo) (x : Tracking) (j : SlotNo) : (s.setTrack g x).slot j = s.slot j := rfl
@[simp] theorem State.line_giveFree (n : Nat) (j : LineNo) : (s.giveFree n).line j = s.line j := rfl
@[simp] theorem State.segment_giveFree (n : Nat) (j : SegNo) : (s.giveFree n).segment j = s.segment j := rfl
@[simp] theorem State.defn_giveFree (n : Nat) (j : SegNo) : (s.giveFree n).defn j = s.defn j := rfl
@[simp] theorem State.run_giveFree (n : Nat) (j : SegNo) : (s.giveFree n).run j = s.run j := rfl
@[simp] theorem State.member_giveFree (n : Nat) (j : MemberNo) : (s.giveFree n).member j = s.member j := rfl
@[simp] theorem State.slot_giveFree (n : Nat) (j : SlotNo) : (s.giveFree n).slot j = s.slot j := rfl
@[simp] theorem State.line_takeFree (j : LineNo) : (s.takeFree).line j = s.line j := rfl
@[simp] theorem State.segment_takeFree (j : SegNo) : (s.takeFree).segment j = s.segment j := rfl
@[simp] theorem State.defn_takeFree (j : SegNo) : (s.takeFree).defn j = s.defn j := rfl
@[simp] theorem State.run_takeFree (j : SegNo) : (s.takeFree).run j = s.run j := rfl
@[simp] theorem State.member_takeFree (j : MemberNo) : (s.takeFree).member j = s.member j := rfl
@[simp] theorem State.slot_takeFree (j : SlotNo) : (s.takeFree).slot j = s.slot j := rfl
@[simp] theorem State.line_setMember (n : MemberNo) (x : Option Member) (j : LineNo) : (s.setMember n x).line j = s.line j := rfl
@[simp] theorem State.segment_setMember (n : MemberNo) (x : Option Member) (j : SegNo) : (s.setMember n x).segment j = s.segment j := rfl
@[simp] theorem State.defn_setMember (n : MemberNo) (x : Option Member) (j : SegNo) : (s.setMember n x).defn j = s.defn j := rfl
@[simp] theorem State.run_setMember (n : MemberNo) (x : Option Member) (j : SegNo) : (s.setMember n x).run j = s.run j := rfl
@[simp] theorem State.track_setMember (n : MemberNo) (x : Option Member) (j : SegNo) : (s.setMember n x).track j = s.track j := rfl
@[simp] theorem State.slot_setMember (n : MemberNo) (x : Option Member) (j : SlotNo) : (s.setMember n x).slot j = s.slot j := rfl
@[simp] theorem State.line_setPass (p : Option RatePass) (j : LineNo) : (s.setPass p).line j = s.line j := rfl
@[simp] theorem State.segment_setPass (p : Option RatePass) (j : SegNo) : (s.setPass p).segment j = s.segment j := rfl
@[simp] theorem State.defn_setPass (p : Option RatePass) (j : SegNo) : (s.setPass p).defn j = s.defn j := rfl
@[simp] theorem State.run_setPass (p : Option RatePass) (j : SegNo) : (s.setPass p).run j = s.run j := rfl
@[simp] theorem State.track_setPass (p : Option RatePass) (j : SegNo) : (s.setPass p).track j = s.track j := rfl
@[simp] theorem State.slot_setPass (p : Option RatePass) (j : SlotNo) : (s.setPass p).slot j = s.slot j := rfl
@[simp] theorem State.line_setUntaken (u : Option Untaken) (j : LineNo) : (s.setUntaken u).line j = s.line j := rfl
@[simp] theorem State.segment_setUntaken (u : Option Untaken) (j : SegNo) : (s.setUntaken u).segment j = s.segment j := rfl
@[simp] theorem State.defn_setUntaken (u : Option Untaken) (j : SegNo) : (s.setUntaken u).defn j = s.defn j := rfl
@[simp] theorem State.run_setUntaken (u : Option Untaken) (j : SegNo) : (s.setUntaken u).run j = s.run j := rfl
@[simp] theorem State.track_setUntaken (u : Option Untaken) (j : SegNo) : (s.setUntaken u).track j = s.track j := rfl
@[simp] theorem State.member_setUntaken (u : Option Untaken) (j : MemberNo) : (s.setUntaken u).member j = s.member j := rfl
@[simp] theorem State.slot_setUntaken (u : Option Untaken) (j : SlotNo) : (s.setUntaken u).slot j = s.slot j := rfl
@[simp] theorem State.line_setSlot (k : SlotNo) (x : Option Order) (j : LineNo) : (s.setSlot k x).line j = s.line j := rfl
@[simp] theorem State.segment_setSlot (k : SlotNo) (x : Option Order) (j : SegNo) : (s.setSlot k x).segment j = s.segment j := rfl
@[simp] theorem State.defn_setSlot (k : SlotNo) (x : Option Order) (j : SegNo) : (s.setSlot k x).defn j = s.defn j := rfl
@[simp] theorem State.run_setSlot (k : SlotNo) (x : Option Order) (j : SegNo) : (s.setSlot k x).run j = s.run j := rfl
@[simp] theorem State.track_setSlot (k : SlotNo) (x : Option Order) (j : SegNo) : (s.setSlot k x).track j = s.track j := rfl
@[simp] theorem State.member_setSlot (k : SlotNo) (x : Option Order) (j : MemberNo) : (s.setSlot k x).member j = s.member j := rfl
@[simp] theorem State.line_setWindows (ws : List MaintWindow) (j : LineNo) : (s.setWindows ws).line j = s.line j := rfl
@[simp] theorem State.segment_setWindows (ws : List MaintWindow) (j : SegNo) : (s.setWindows ws).segment j = s.segment j := rfl
@[simp] theorem State.defn_setWindows (ws : List MaintWindow) (j : SegNo) : (s.setWindows ws).defn j = s.defn j := rfl
@[simp] theorem State.run_setWindows (ws : List MaintWindow) (j : SegNo) : (s.setWindows ws).run j = s.run j := rfl
@[simp] theorem State.track_setWindows (ws : List MaintWindow) (j : SegNo) : (s.setWindows ws).track j = s.track j := rfl
@[simp] theorem State.member_setWindows (ws : List MaintWindow) (j : MemberNo) : (s.setWindows ws).member j = s.member j := rfl
@[simp] theorem State.line_setPlanner (p : Planner) (j : LineNo) : (s.setPlanner p).line j = s.line j := rfl
@[simp] theorem State.segment_setPlanner (p : Planner) (j : SegNo) : (s.setPlanner p).segment j = s.segment j := rfl
@[simp] theorem State.defn_setPlanner (p : Planner) (j : SegNo) : (s.setPlanner p).defn j = s.defn j := rfl
@[simp] theorem State.run_setPlanner (p : Planner) (j : SegNo) : (s.setPlanner p).run j = s.run j := rfl
@[simp] theorem State.track_setPlanner (p : Planner) (j : SegNo) : (s.setPlanner p).track j = s.track j := rfl
@[simp] theorem State.member_setPlanner (p : Planner) (j : MemberNo) : (s.setPlanner p).member j = s.member j := rfl
@[simp] theorem State.line_setGenerator (x : Generator) (j : LineNo) : (s.setGenerator x).line j = s.line j := rfl
@[simp] theorem State.segment_setGenerator (x : Generator) (j : SegNo) : (s.setGenerator x).segment j = s.segment j := rfl
@[simp] theorem State.defn_setGenerator (x : Generator) (j : SegNo) : (s.setGenerator x).defn j = s.defn j := rfl
@[simp] theorem State.run_setGenerator (x : Generator) (j : SegNo) : (s.setGenerator x).run j = s.run j := rfl
@[simp] theorem State.track_setGenerator (x : Generator) (j : SegNo) : (s.setGenerator x).track j = s.track j := rfl
@[simp] theorem State.member_setGenerator (x : Generator) (j : MemberNo) : (s.setGenerator x).member j = s.member j := rfl
@[simp] theorem State.line_setStage (st : Stage) (j : LineNo) : (s.setStage st).line j = s.line j := rfl
@[simp] theorem State.segment_setStage (st : Stage) (j : SegNo) : (s.setStage st).segment j = s.segment j := rfl
@[simp] theorem State.defn_setStage (st : Stage) (j : SegNo) : (s.setStage st).defn j = s.defn j := rfl
@[simp] theorem State.run_setStage (st : Stage) (j : SegNo) : (s.setStage st).run j = s.run j := rfl
@[simp] theorem State.track_setStage (st : Stage) (j : SegNo) : (s.setStage st).track j = s.track j := rfl
@[simp] theorem State.member_setStage (st : Stage) (j : MemberNo) : (s.setStage st).member j = s.member j := rfl
@[simp] theorem State.line_setLnk (k : Lnk) (j : LineNo) : (s.setLnk k).line j = s.line j := rfl
@[simp] theorem State.segment_setLnk (k : Lnk) (j : SegNo) : (s.setLnk k).segment j = s.segment j := rfl
@[simp] theorem State.defn_setLnk (k : Lnk) (j : SegNo) : (s.setLnk k).defn j = s.defn j := rfl
@[simp] theorem State.run_setLnk (k : Lnk) (j : SegNo) : (s.setLnk k).run j = s.run j := rfl
@[simp] theorem State.track_setLnk (k : Lnk) (j : SegNo) : (s.setLnk k).track j = s.track j := rfl
@[simp] theorem State.member_setLnk (k : Lnk) (j : MemberNo) : (s.setLnk k).member j = s.member j := rfl
@[simp] theorem State.slot_setLnk (k : Lnk) (j : SlotNo) : (s.setLnk k).slot j = s.slot j := rfl
@[simp] theorem State.line_setMode (m : Mode) (j : LineNo) : (s.setMode m).line j = s.line j := rfl
@[simp] theorem State.segment_setMode (m : Mode) (j : SegNo) : (s.setMode m).segment j = s.segment j := rfl
@[simp] theorem State.defn_setMode (m : Mode) (j : SegNo) : (s.setMode m).defn j = s.defn j := rfl
@[simp] theorem State.run_setMode (m : Mode) (j : SegNo) : (s.setMode m).run j = s.run j := rfl
@[simp] theorem State.track_setMode (m : Mode) (j : SegNo) : (s.setMode m).track j = s.track j := rfl
@[simp] theorem State.member_setMode (m : Mode) (j : MemberNo) : (s.setMode m).member j = s.member j := rfl
@[simp] theorem State.slot_setMode (m : Mode) (j : SlotNo) : (s.setMode m).slot j = s.slot j := rfl
@[simp] theorem State.line_setPendingSetup (b : Bool) (j : LineNo) : (s.setPendingSetup b).line j = s.line j := rfl
@[simp] theorem State.segment_setPendingSetup (b : Bool) (j : SegNo) : (s.setPendingSetup b).segment j = s.segment j := rfl
@[simp] theorem State.defn_setPendingSetup (b : Bool) (j : SegNo) : (s.setPendingSetup b).defn j = s.defn j := rfl
@[simp] theorem State.run_setPendingSetup (b : Bool) (j : SegNo) : (s.setPendingSetup b).run j = s.run j := rfl
@[simp] theorem State.track_setPendingSetup (b : Bool) (j : SegNo) : (s.setPendingSetup b).track j = s.track j := rfl
@[simp] theorem State.member_setPendingSetup (b : Bool) (j : MemberNo) : (s.setPendingSetup b).member j = s.member j := rfl
@[simp] theorem State.slot_setPendingSetup (b : Bool) (j : SlotNo) : (s.setPendingSetup b).slot j = s.slot j := rfl
@[simp] theorem State.line_post (k : NoticeKind) (x v : Nat) (j : LineNo) : (s.post k x v).line j = s.line j := rfl
@[simp] theorem State.segment_post (k : NoticeKind) (x v : Nat) (j : SegNo) : (s.post k x v).segment j = s.segment j := rfl
@[simp] theorem State.defn_post (k : NoticeKind) (x v : Nat) (j : SegNo) : (s.post k x v).defn j = s.defn j := rfl
@[simp] theorem State.run_post (k : NoticeKind) (x v : Nat) (j : SegNo) : (s.post k x v).run j = s.run j := rfl
@[simp] theorem State.track_post (k : NoticeKind) (x v : Nat) (j : SegNo) : (s.post k x v).track j = s.track j := rfl
@[simp] theorem State.member_post (k : NoticeKind) (x v : Nat) (j : MemberNo) : (s.post k x v).member j = s.member j := rfl
@[simp] theorem State.slot_post (k : NoticeKind) (x v : Nat) (j : SlotNo) : (s.post k x v).slot j = s.slot j := rfl
@[simp] theorem State.line_takeHanded (j : LineNo) : (s.takeHanded).line j = s.line j := rfl
@[simp] theorem State.segment_takeHanded (j : SegNo) : (s.takeHanded).segment j = s.segment j := rfl
@[simp] theorem State.defn_takeHanded (j : SegNo) : (s.takeHanded).defn j = s.defn j := rfl
@[simp] theorem State.run_takeHanded (j : SegNo) : (s.takeHanded).run j = s.run j := rfl
@[simp] theorem State.track_takeHanded (j : SegNo) : (s.takeHanded).track j = s.track j := rfl
@[simp] theorem State.member_takeHanded (j : MemberNo) : (s.takeHanded).member j = s.member j := rfl
@[simp] theorem State.slot_takeHanded (j : SlotNo) : (s.takeHanded).slot j = s.slot j := rfl
@[simp] theorem State.line_answerKind (b : Byte) (st : Status) (d : List Byte) (j : LineNo) : (s.answerKind b st d).line j = s.line j := rfl
@[simp] theorem State.segment_answerKind (b : Byte) (st : Status) (d : List Byte) (j : SegNo) : (s.answerKind b st d).segment j = s.segment j := rfl
@[simp] theorem State.defn_answerKind (b : Byte) (st : Status) (d : List Byte) (j : SegNo) : (s.answerKind b st d).defn j = s.defn j := rfl
@[simp] theorem State.run_answerKind (b : Byte) (st : Status) (d : List Byte) (j : SegNo) : (s.answerKind b st d).run j = s.run j := rfl
@[simp] theorem State.track_answerKind (b : Byte) (st : Status) (d : List Byte) (j : SegNo) : (s.answerKind b st d).track j = s.track j := rfl
@[simp] theorem State.member_answerKind (b : Byte) (st : Status) (d : List Byte) (j : MemberNo) : (s.answerKind b st d).member j = s.member j := rfl
@[simp] theorem State.slot_answerKind (b : Byte) (st : Status) (d : List Byte) (j : SlotNo) : (s.answerKind b st d).slot j = s.slot j := rfl
@[simp] theorem State.line_answer (k : ReqKind) (st : Status) (d : List Byte) (j : LineNo) : (s.answer k st d).line j = s.line j := rfl
@[simp] theorem State.segment_answer (k : ReqKind) (st : Status) (d : List Byte) (j : SegNo) : (s.answer k st d).segment j = s.segment j := rfl
@[simp] theorem State.defn_answer (k : ReqKind) (st : Status) (d : List Byte) (j : SegNo) : (s.answer k st d).defn j = s.defn j := rfl
@[simp] theorem State.run_answer (k : ReqKind) (st : Status) (d : List Byte) (j : SegNo) : (s.answer k st d).run j = s.run j := rfl
@[simp] theorem State.track_answer (k : ReqKind) (st : Status) (d : List Byte) (j : SegNo) : (s.answer k st d).track j = s.track j := rfl
@[simp] theorem State.member_answer (k : ReqKind) (st : Status) (d : List Byte) (j : MemberNo) : (s.answer k st d).member j = s.member j := rfl
@[simp] theorem State.slot_answer (k : ReqKind) (st : Status) (d : List Byte) (j : SlotNo) : (s.answer k st d).slot j = s.slot j := rfl
@[simp] theorem State.line_dropNotice (j : LineNo) : (s.dropNotice).line j = s.line j := rfl
@[simp] theorem State.segment_dropNotice (j : SegNo) : (s.dropNotice).segment j = s.segment j := rfl
@[simp] theorem State.defn_dropNotice (j : SegNo) : (s.dropNotice).defn j = s.defn j := rfl
@[simp] theorem State.run_dropNotice (j : SegNo) : (s.dropNotice).run j = s.run j := rfl
@[simp] theorem State.track_dropNotice (j : SegNo) : (s.dropNotice).track j = s.track j := rfl
@[simp] theorem State.member_dropNotice (j : MemberNo) : (s.dropNotice).member j = s.member j := rfl
@[simp] theorem State.slot_dropNotice (j : SlotNo) : (s.dropNotice).slot j = s.slot j := rfl
@[simp] theorem State.line_clearCounters (j : LineNo) : (s.clearCounters).line j = s.line j := rfl
@[simp] theorem State.segment_clearCounters (j : SegNo) : (s.clearCounters).segment j = s.segment j := rfl
@[simp] theorem State.defn_clearCounters (j : SegNo) : (s.clearCounters).defn j = s.defn j := rfl
@[simp] theorem State.run_clearCounters (j : SegNo) : (s.clearCounters).run j = s.run j := rfl
@[simp] theorem State.track_clearCounters (j : SegNo) : (s.clearCounters).track j = s.track j := rfl
@[simp] theorem State.member_clearCounters (j : MemberNo) : (s.clearCounters).member j = s.member j := rfl
@[simp] theorem State.slot_clearCounters (j : SlotNo) : (s.clearCounters).slot j = s.slot j := rfl

/-! ### Reading what was written -/

@[simp] theorem State.line_setLine_self (l : LineNo) (x : Line) : (s.setLine l x).line l = x := by
  simp [State.line, State.setLine]

theorem State.line_setLine_ne {l j : LineNo} (h : j ≠ l) (x : Line) : (s.setLine l x).line j = s.line j := by
  simp only [State.line, State.setLine, Fin.getElem_fin]
  exact Vector.getElem_set_ne _ _ (fun e => h (Fin.ext e.symm))

@[simp] theorem State.line_mapLines (f : LineNo → Line → Line) (l : LineNo) : (s.mapLines f).line l = f l (s.line l) := by
  simp [State.line, State.mapLines]

@[simp] theorem State.segment_setSegment_self (g : SegNo) (x : Segment) : (s.setSegment g x).segment g = x := by
  simp [State.segment, State.setSegment]

theorem State.segment_setSegment_ne {g j : SegNo} (h : j ≠ g) (x : Segment) :
    (s.setSegment g x).segment j = s.segment j := by
  simp only [State.segment, State.setSegment, Fin.getElem_fin]
  exact Vector.getElem_set_ne _ _ (fun e => h (Fin.ext e.symm))

@[simp] theorem State.run_setSegment_self (g : SegNo) (x : Segment) : (s.setSegment g x).run g = x.run := by
  simp [State.run]

@[simp] theorem State.defn_setSegment_self (g : SegNo) (x : Segment) : (s.setSegment g x).defn g = x.defn := by
  simp [State.defn]

@[simp] theorem State.run_setRun_self (g : SegNo) (r : SegRun) : (s.setRun g r).run g = r := by simp [State.setRun]

theorem State.segment_setRun_ne {g j : SegNo} (h : j ≠ g) (r : SegRun) : (s.setRun g r).segment j = s.segment j := by
  simp [State.setRun, State.segment_setSegment_ne, h]

theorem State.run_setRun_ne {g j : SegNo} (h : j ≠ g) (r : SegRun) : (s.setRun g r).run j = s.run j := by
  simp [State.run, State.segment_setRun_ne, h]

@[simp] theorem State.defn_setRun (g j : SegNo) (r : SegRun) : (s.setRun g r).defn j = s.defn j := by
  by_cases h : j = g
  · subst h; simp [State.setRun, State.defn]
  · simp [State.defn, State.segment_setRun_ne, h]

@[simp] theorem State.setRun_setRun (g : SegNo) (r r' : SegRun) : (s.setRun g r).setRun g r' = s.setRun g r' := by
  simp [State.setRun, State.setSegment, State.segment]

@[simp] theorem State.track_setTrack_self (g : SegNo) (x : Tracking) : (s.setTrack g x).track g = x := by
  simp [State.track, State.setTrack]

theorem State.track_setTrack_ne {g j : SegNo} (h : j ≠ g) (x : Tracking) : (s.setTrack g x).track j = s.track j := by
  simp only [State.track, State.setTrack, Fin.getElem_fin]
  exact Vector.getElem_set_ne _ _ (fun e => h (Fin.ext e.symm))

@[simp] theorem State.track_giveFree (n : Nat) (g : SegNo) : (s.giveFree n).track g = s.track g := rfl

@[simp] theorem State.track_takeFree (g : SegNo) : s.takeFree.track g = s.track g := rfl

@[simp] theorem State.free_giveFree (n : Nat) : (s.giveFree n).itu.free = s.itu.free + n := rfl

@[simp] theorem State.free_takeFree : s.takeFree.itu.free = s.itu.free - 1 := rfl

@[simp] theorem State.free_setTrack (g : SegNo) (x : Tracking) : (s.setTrack g x).itu.free = s.itu.free := rfl

@[simp] theorem State.member_setMember_self (n : MemberNo) (x : Option Member) : (s.setMember n x).member n = x := by
  simp [State.member, State.setMember]

theorem State.member_setMember_ne {n j : MemberNo} (h : j ≠ n) (x : Option Member) :
    (s.setMember n x).member j = s.member j := by
  simp only [State.member, State.setMember, Fin.getElem_fin]
  exact Vector.getElem_set_ne _ _ (fun e => h (Fin.ext e.symm))

@[simp] theorem State.pass_setMember (n : MemberNo) (x : Option Member) : (s.setMember n x).wau.pass = s.wau.pass := rfl

@[simp] theorem State.member_setPass (p : Option RatePass) (n : MemberNo) : (s.setPass p).member n = s.member n := rfl

@[simp] theorem State.pass_setPass (p : Option RatePass) : (s.setPass p).wau.pass = p := rfl

@[simp] theorem State.slot_setSlot_self (k : SlotNo) (x : Option Order) : (s.setSlot k x).slot k = x := by
  simp [State.slot, State.setSlot]

theorem State.slot_setSlot_ne {k j : SlotNo} (h : j ≠ k) (x : Option Order) : (s.setSlot k x).slot j = s.slot j := by
  simp only [State.slot, State.setSlot, Fin.getElem_fin]
  exact Vector.getElem_set_ne _ _ (fun e => h (Fin.ext e.symm))

@[simp] theorem State.slot_setWindows (ws : List MaintWindow) (k : SlotNo) : (s.setWindows ws).slot k = s.slot k := rfl
@[simp] theorem State.slot_setPlanner (p : Planner) (k : SlotNo) : (s.setPlanner p).slot k = s.slot k := rfl
@[simp] theorem State.slot_setGenerator (x : Generator) (k : SlotNo) : (s.setGenerator x).slot k = s.slot k := rfl
@[simp] theorem State.slot_setStage (st : Stage) (k : SlotNo) : (s.setStage st).slot k = s.slot k := rfl
@[simp] theorem State.orders_setWindows (ws : List MaintWindow) : (s.setWindows ws).spl.orders = s.spl.orders := rfl
@[simp] theorem State.orders_setPlanner (p : Planner) : (s.setPlanner p).spl.orders = s.spl.orders := rfl
@[simp] theorem State.orders_setGenerator (x : Generator) : (s.setGenerator x).spl.orders = s.spl.orders := rfl
@[simp] theorem State.orders_setStage (st : Stage) : (s.setStage st).spl.orders = s.spl.orders := rfl
@[simp] theorem State.windows_setWindows (ws : List MaintWindow) : (s.setWindows ws).spl.windows = ws := rfl
@[simp] theorem State.windows_setSlot (k : SlotNo) (x : Option Order) : (s.setSlot k x).spl.windows = s.spl.windows := rfl
@[simp] theorem State.windows_setPlanner (p : Planner) : (s.setPlanner p).spl.windows = s.spl.windows := rfl
@[simp] theorem State.windows_setGenerator (x : Generator) : (s.setGenerator x).spl.windows = s.spl.windows := rfl
@[simp] theorem State.windows_setStage (st : Stage) : (s.setStage st).spl.windows = s.spl.windows := rfl
@[simp] theorem State.planner_setPlanner (p : Planner) : (s.setPlanner p).spl.planner = p := rfl
@[simp] theorem State.planner_setSlot (k : SlotNo) (x : Option Order) : (s.setSlot k x).spl.planner = s.spl.planner := rfl
@[simp] theorem State.planner_setWindows (ws : List MaintWindow) : (s.setWindows ws).spl.planner = s.spl.planner := rfl
@[simp] theorem State.planner_setGenerator (x : Generator) : (s.setGenerator x).spl.planner = s.spl.planner := rfl
@[simp] theorem State.planner_setStage (st : Stage) :
    (s.setStage st).spl.planner = { s.spl.planner with stage := st } := rfl
@[simp] theorem State.generator_setGenerator (x : Generator) : (s.setGenerator x).spl.generator = x := rfl
@[simp] theorem State.generator_setSlot (k : SlotNo) (x : Option Order) :
    (s.setSlot k x).spl.generator = s.spl.generator := rfl
@[simp] theorem State.generator_setWindows (ws : List MaintWindow) :
    (s.setWindows ws).spl.generator = s.spl.generator := rfl
@[simp] theorem State.generator_setPlanner (p : Planner) : (s.setPlanner p).spl.generator = s.spl.generator := rfl
@[simp] theorem State.generator_setStage (st : Stage) : (s.setStage st).spl.generator = s.spl.generator := rfl
@[simp] theorem State.lastTag_setSlot (k : SlotNo) (x : Option Order) : (s.setSlot k x).spl.lastTag = s.spl.lastTag := rfl
@[simp] theorem State.lastTag_setWindows (ws : List MaintWindow) : (s.setWindows ws).spl.lastTag = s.spl.lastTag := rfl
@[simp] theorem State.lastTag_setPlanner (p : Planner) : (s.setPlanner p).spl.lastTag = s.spl.lastTag := rfl
@[simp] theorem State.lastTag_setGenerator (x : Generator) : (s.setGenerator x).spl.lastTag = s.spl.lastTag := rfl

@[simp] theorem State.lnk_setLnk (k : Lnk) : (s.setLnk k).lnk = k := rfl

@[simp] theorem State.nq_post (k : NoticeKind) (x v : Nat) :
    (s.post k x v).nq = s.nq.post k x v s.etm.epoch s.etm.tick := rfl

@[simp] theorem State.rqd_takeHanded : s.takeHanded.rqd = { s.rqd with handed := s.rqd.handed.tail } := rfl

@[simp] theorem State.rqd_answerKind (b : Byte) (st : Status) (d : List Byte) :
    (s.answerKind b st d).rqd = { s.rqd with handed := s.rqd.handed.tail } := rfl

@[simp] theorem State.rqd_answer (k : ReqKind) (st : Status) (d : List Byte) :
    (s.answer k st d).rqd = { s.rqd with handed := s.rqd.handed.tail } := rfl

@[simp] theorem State.lnk_answerKind (b : Byte) (st : Status) (d : List Byte) :
    (s.answerKind b st d).lnk = s.lnk.withReply b st s.nq.attention d := rfl

@[simp] theorem State.lnk_answer (k : ReqKind) (st : Status) (d : List Byte) :
    (s.answer k st d).lnk = s.lnk.withReply k.code st s.nq.attention d := rfl

@[simp] theorem State.answerVia_addressed (k : ReqKind) (st : Status) (d : List Byte) :
    s.answerVia .addressed k st d = s.answer k st d := rfl

@[simp] theorem State.answerVia_broadcast (k : ReqKind) (st : Status) (d : List Byte) :
    s.answerVia .broadcast k st d = s.takeHanded := rfl

/-! ### The share of a boundary that one block has still to take (R95, R99) -/

@[simp] theorem State.etm_setUntaken (u : Option Untaken) : (s.setUntaken u).etm = { s.etm with untaken := u } := rfl

theorem State.settle_none (h : s.etm.untaken = none) : s.settle = s := by simp [State.settle, h]

theorem State.settle_smu (h : s.etm.untaken = some .smu) : s.settle = (s.setUntaken none).moveCounts := by
  simp [State.settle, h]

theorem State.settle_wau {shift minWindows : Nat} (h : s.etm.untaken = some (.wau shift minWindows)) :
    s.settle = (s.setUntaken none).beginPass shift minWindows := by
  simp [State.settle, h]

/-- Once a share is taken none is left. -/
@[simp] theorem State.settle_settle : s.settle.settle = s.settle := by
  rcases h : s.etm.untaken with _ | _ | ⟨a, k⟩
  · rw [s.settle_none h, s.settle_none h]
  · rw [s.settle_smu h, State.settle_none _ rfl]
  · rw [s.settle_wau h, State.settle_none _ rfl]

@[simp] theorem State.untaken_settle : s.settle.etm.untaken = none := by
  rcases h : s.etm.untaken with _ | _ | ⟨a, k⟩
  · rw [s.settle_none h, h]
  · rw [s.settle_smu h]; rfl
  · rw [s.settle_wau h]; rfl

theorem State.takeShares_none {a k : Nat} (h : s.lagAt s.etm.epoch = none) :
    s.takeShares a k = s.moveCounts.beginPass a k := by simp [State.takeShares, h]

theorem State.takeShares_smu {a k : Nat} (h : s.lagAt s.etm.epoch = some .smu) :
    s.takeShares a k = (s.beginPass a k).setUntaken (some .smu) := by simp [State.takeShares, h]

theorem State.takeShares_wau {a k : Nat} (h : s.lagAt s.etm.epoch = some .wau) :
    s.takeShares a k = s.moveCounts.setUntaken (some (.wau a k)) := by simp [State.takeShares, h]

@[simp] theorem State.run_moveCounts (g : SegNo) : s.moveCounts.run g = (s.run g).moveCount := by
  simp [State.moveCounts, State.run, State.segment]

@[simp] theorem State.defn_moveCounts (g : SegNo) : s.moveCounts.defn g = s.defn g := by
  simp [State.moveCounts, State.defn, State.segment]

@[simp] theorem State.member_beginPass (a k : Nat) (n : MemberNo) :
    (s.beginPass a k).member n = (s.member n).map Member.snapshot := by
  simp [State.beginPass, State.member]

@[simp] theorem State.pass_beginPass (a k : Nat) :
    (s.beginPass a k).wau.pass = some { next := 0, shift := a, minWindows := k } := rfl

end Sys2Proof.Machine
end

