-- ==== Sys2Proof/Laws/Frame.lean ====
section
/-! SUPPORT. How the relation `KeepsAllBut` composes. -/

namespace Sys2Proof.Machine

/-- `KeepsAllBut`, block by block. -/
theorem keepsAllBut_iff (bs : List Block) (s t : State) : KeepsAllBut bs s t ↔
    (.siu ∈ bs ∨ t.siu = s.siu) ∧ (.smu ∈ bs ∨ t.smu = s.smu) ∧ (.itu ∈ bs ∨ t.itu = s.itu)
      ∧ (.wau ∈ bs ∨ t.wau = s.wau) ∧ (.etm ∈ bs ∨ t.etm = s.etm) ∧ (.spl ∈ bs ∨ t.spl = s.spl)
      ∧ (.nq ∈ bs ∨ t.nq = s.nq) ∧ (.lnk ∈ bs ∨ t.lnk = s.lnk) ∧ (.rqd ∈ bs ∨ t.rqd = s.rqd)
      ∧ t.arbiter = s.arbiter ∧ t.pending = s.pending := by
  constructor
  · rintro ⟨h, ha, hp⟩
    have k : ∀ b, b ∈ bs ∨ SameBlock b s t := fun b => or_iff_not_imp_left.2 (h b)
    exact ⟨k .siu, k .smu, k .itu, k .wau, k .etm, k .spl, k .nq, k .lnk, k .rqd, ha, hp⟩
  · rintro ⟨h1, h2, h3, h4, h5, h6, h7, h8, h9, ha, hp⟩
    refine ⟨fun b hb => ?_, ha, hp⟩
    cases b
    exacts [h1.resolve_left hb, h2.resolve_left hb, h3.resolve_left hb, h4.resolve_left hb, h5.resolve_left hb,
      h6.resolve_left hb, h7.resolve_left hb, h8.resolve_left hb, h9.resolve_left hb]

theorem KeepsAllBut.refl (bs : List Block) (s : State) : KeepsAllBut bs s s := ⟨fun b _ => by cases b <;> rfl, rfl, rfl⟩

theorem KeepsAllBut.trans {bs : List Block} {s t u : State} (h : KeepsAllBut bs s t) (h' : KeepsAllBut bs t u) :
    KeepsAllBut bs s u := by
  refine ⟨fun b hb => ?_, h'.2.1.trans h.2.1, h'.2.2.trans h.2.2⟩
  have e := h.1 b hb
  have e' := h'.1 b hb
  cases b <;> exact Eq.trans e' e

theorem KeepsAllBut.mono {bs cs : List Block} {s t : State} (h : KeepsAllBut bs s t) (hs : bs ⊆ cs) :
    KeepsAllBut cs s t := ⟨fun b hb => h.1 b fun hm => hb (hs hm), h.2⟩

/-- A fold of steps that each keep all but `bs` keeps all but `bs`. -/
theorem keepsAllBut_foldl {α : Type} {bs : List Block} {f : State → α → State} (h : ∀ s a, KeepsAllBut bs s (f s a))
    (l : List α) (s : State) : KeepsAllBut bs s (l.foldl f s) := by
  induction l generalizing s with
  | nil => exact KeepsAllBut.refl bs s
  | cons a l ih => exact (h s a).trans (ih (f s a))

end Sys2Proof.Machine
end

