-- ==== Sys2Proof/Laws/Tracking.lean ====
section
/-! SUPPORT. The frames of the operations of the ITU (03): for each, the blocks it may change, and simp lemmas that read every
other block, and the tables of those blocks, past it. -/

namespace Sys2Proof.Machine

variable (s : State)

theorem State.flush_keeps (g : SegNo) :
    KeepsAllBut [.itu] s (s.flush g) := by
  unfold State.flush; simp [keepsAllBut_iff]

@[simp] theorem State.flush_siu (g : SegNo) : (s.flush g).siu = s.siu :=
  (s.flush_keeps g).1 .siu (by decide)
@[simp] theorem State.flush_smu (g : SegNo) : (s.flush g).smu = s.smu :=
  (s.flush_keeps g).1 .smu (by decide)
@[simp] theorem State.flush_wau (g : SegNo) : (s.flush g).wau = s.wau :=
  (s.flush_keeps g).1 .wau (by decide)
@[simp] theorem State.flush_etm (g : SegNo) : (s.flush g).etm = s.etm :=
  (s.flush_keeps g).1 .etm (by decide)
@[simp] theorem State.flush_spl (g : SegNo) : (s.flush g).spl = s.spl :=
  (s.flush_keeps g).1 .spl (by decide)
@[simp] theorem State.flush_nq (g : SegNo) : (s.flush g).nq = s.nq :=
  (s.flush_keeps g).1 .nq (by decide)
@[simp] theorem State.flush_lnk (g : SegNo) : (s.flush g).lnk = s.lnk :=
  (s.flush_keeps g).1 .lnk (by decide)
@[simp] theorem State.flush_rqd (g : SegNo) : (s.flush g).rqd = s.rqd :=
  (s.flush_keeps g).1 .rqd (by decide)
@[simp] theorem State.flush_arbiter (g : SegNo) : (s.flush g).arbiter = s.arbiter :=
  (s.flush_keeps g).2.1
@[simp] theorem State.flush_pending (g : SegNo) : (s.flush g).pending = s.pending :=
  (s.flush_keeps g).2.2
@[simp] theorem State.line_flush (g : SegNo) (j : LineNo) : (s.flush g).line j = s.line j := by
  simp only [State.line, State.flush_siu]
@[simp] theorem State.segment_flush (g : SegNo) (j : SegNo) : (s.flush g).segment j = s.segment j := by
  simp only [State.segment, State.flush_smu]
@[simp] theorem State.defn_flush (g : SegNo) (j : SegNo) : (s.flush g).defn j = s.defn j := by
  simp only [State.defn, State.segment, State.flush_smu]
@[simp] theorem State.run_flush (g : SegNo) (j : SegNo) : (s.flush g).run j = s.run j := by
  simp only [State.run, State.segment, State.flush_smu]
@[simp] theorem State.member_flush (g : SegNo) (j : MemberNo) : (s.flush g).member j = s.member j := by
  simp only [State.member, State.flush_wau]
@[simp] theorem State.slot_flush (g : SegNo) (j : SlotNo) : (s.flush g).slot j = s.slot j := by
  simp only [State.slot, State.flush_spl]

theorem State.resync_keeps (g : SegNo) :
    KeepsAllBut [.itu, .nq] s (s.resync g) := by
  unfold State.resync; simp [keepsAllBut_iff]

@[simp] theorem State.resync_siu (g : SegNo) : (s.resync g).siu = s.siu :=
  (s.resync_keeps g).1 .siu (by decide)
@[simp] theorem State.resync_smu (g : SegNo) : (s.resync g).smu = s.smu :=
  (s.resync_keeps g).1 .smu (by decide)
@[simp] theorem State.resync_wau (g : SegNo) : (s.resync g).wau = s.wau :=
  (s.resync_keeps g).1 .wau (by decide)
@[simp] theorem State.resync_etm (g : SegNo) : (s.resync g).etm = s.etm :=
  (s.resync_keeps g).1 .etm (by decide)
@[simp] theorem State.resync_spl (g : SegNo) : (s.resync g).spl = s.spl :=
  (s.resync_keeps g).1 .spl (by decide)
@[simp] theorem State.resync_lnk (g : SegNo) : (s.resync g).lnk = s.lnk :=
  (s.resync_keeps g).1 .lnk (by decide)
@[simp] theorem State.resync_rqd (g : SegNo) : (s.resync g).rqd = s.rqd :=
  (s.resync_keeps g).1 .rqd (by decide)
@[simp] theorem State.resync_arbiter (g : SegNo) : (s.resync g).arbiter = s.arbiter :=
  (s.resync_keeps g).2.1
@[simp] theorem State.resync_pending (g : SegNo) : (s.resync g).pending = s.pending :=
  (s.resync_keeps g).2.2
@[simp] theorem State.line_resync (g : SegNo) (j : LineNo) : (s.resync g).line j = s.line j := by
  simp only [State.line, State.resync_siu]
@[simp] theorem State.segment_resync (g : SegNo) (j : SegNo) : (s.resync g).segment j = s.segment j := by
  simp only [State.segment, State.resync_smu]
@[simp] theorem State.defn_resync (g : SegNo) (j : SegNo) : (s.resync g).defn j = s.defn j := by
  simp only [State.defn, State.segment, State.resync_smu]
@[simp] theorem State.run_resync (g : SegNo) (j : SegNo) : (s.resync g).run j = s.run j := by
  simp only [State.run, State.segment, State.resync_smu]
@[simp] theorem State.member_resync (g : SegNo) (j : MemberNo) : (s.resync g).member j = s.member j := by
  simp only [State.member, State.resync_wau]
@[simp] theorem State.slot_resync (g : SegNo) (j : SlotNo) : (s.resync g).slot j = s.slot j := by
  simp only [State.slot, State.resync_spl]

theorem State.trackingError_keeps (g : SegNo) (d : SegDef) :
    KeepsAllBut [.itu, .nq] s (s.trackingError g d) := by
  unfold State.trackingError; dsimp only
  (repeat' split) <;> simp [keepsAllBut_iff]

@[simp] theorem State.trackingError_siu (g : SegNo) (d : SegDef) : (s.trackingError g d).siu = s.siu :=
  (s.trackingError_keeps g d).1 .siu (by decide)
@[simp] theorem State.trackingError_smu (g : SegNo) (d : SegDef) : (s.trackingError g d).smu = s.smu :=
  (s.trackingError_keeps g d).1 .smu (by decide)
@[simp] theorem State.trackingError_wau (g : SegNo) (d : SegDef) : (s.trackingError g d).wau = s.wau :=
  (s.trackingError_keeps g d).1 .wau (by decide)
@[simp] theorem State.trackingError_etm (g : SegNo) (d : SegDef) : (s.trackingError g d).etm = s.etm :=
  (s.trackingError_keeps g d).1 .etm (by decide)
@[simp] theorem State.trackingError_spl (g : SegNo) (d : SegDef) : (s.trackingError g d).spl = s.spl :=
  (s.trackingError_keeps g d).1 .spl (by decide)
@[simp] theorem State.trackingError_lnk (g : SegNo) (d : SegDef) : (s.trackingError g d).lnk = s.lnk :=
  (s.trackingError_keeps g d).1 .lnk (by decide)
@[simp] theorem State.trackingError_rqd (g : SegNo) (d : SegDef) : (s.trackingError g d).rqd = s.rqd :=
  (s.trackingError_keeps g d).1 .rqd (by decide)
@[simp] theorem State.trackingError_arbiter (g : SegNo) (d : SegDef) : (s.trackingError g d).arbiter = s.arbiter :=
  (s.trackingError_keeps g d).2.1
@[simp] theorem State.trackingError_pending (g : SegNo) (d : SegDef) : (s.trackingError g d).pending = s.pending :=
  (s.trackingError_keeps g d).2.2
@[simp] theorem State.line_trackingError (g : SegNo) (d : SegDef) (j : LineNo) : (s.trackingError g d).line j = s.line j := by
  simp only [State.line, State.trackingError_siu]
@[simp] theorem State.segment_trackingError (g : SegNo) (d : SegDef) (j : SegNo) : (s.trackingError g d).segment j = s.segment j := by
  simp only [State.segment, State.trackingError_smu]
@[simp] theorem State.defn_trackingError (g : SegNo) (d : SegDef) (j : SegNo) : (s.trackingError g d).defn j = s.defn j := by
  simp only [State.defn, State.segment, State.trackingError_smu]
@[simp] theorem State.run_trackingError (g : SegNo) (d : SegDef) (j : SegNo) : (s.trackingError g d).run j = s.run j := by
  simp only [State.run, State.segment, State.trackingError_smu]
@[simp] theorem State.member_trackingError (g : SegNo) (d : SegDef) (j : MemberNo) : (s.trackingError g d).member j = s.member j := by
  simp only [State.member, State.trackingError_wau]
@[simp] theorem State.slot_trackingError (g : SegNo) (d : SegDef) (j : SlotNo) : (s.trackingError g d).slot j = s.slot j := by
  simp only [State.slot, State.trackingError_spl]

theorem State.dropItem_keeps (g : SegNo) (cause : Nat) :
    KeepsAllBut [.itu, .nq] s (s.dropItem g cause) := by
  unfold State.dropItem; simp [keepsAllBut_iff]

@[simp] theorem State.dropItem_siu (g : SegNo) (cause : Nat) : (s.dropItem g cause).siu = s.siu :=
  (s.dropItem_keeps g cause).1 .siu (by decide)
@[simp] theorem State.dropItem_smu (g : SegNo) (cause : Nat) : (s.dropItem g cause).smu = s.smu :=
  (s.dropItem_keeps g cause).1 .smu (by decide)
@[simp] theorem State.dropItem_wau (g : SegNo) (cause : Nat) : (s.dropItem g cause).wau = s.wau :=
  (s.dropItem_keeps g cause).1 .wau (by decide)
@[simp] theorem State.dropItem_etm (g : SegNo) (cause : Nat) : (s.dropItem g cause).etm = s.etm :=
  (s.dropItem_keeps g cause).1 .etm (by decide)
@[simp] theorem State.dropItem_spl (g : SegNo) (cause : Nat) : (s.dropItem g cause).spl = s.spl :=
  (s.dropItem_keeps g cause).1 .spl (by decide)
@[simp] theorem State.dropItem_lnk (g : SegNo) (cause : Nat) : (s.dropItem g cause).lnk = s.lnk :=
  (s.dropItem_keeps g cause).1 .lnk (by decide)
@[simp] theorem State.dropItem_rqd (g : SegNo) (cause : Nat) : (s.dropItem g cause).rqd = s.rqd :=
  (s.dropItem_keeps g cause).1 .rqd (by decide)
@[simp] theorem State.dropItem_arbiter (g : SegNo) (cause : Nat) : (s.dropItem g cause).arbiter = s.arbiter :=
  (s.dropItem_keeps g cause).2.1
@[simp] theorem State.dropItem_pending (g : SegNo) (cause : Nat) : (s.dropItem g cause).pending = s.pending :=
  (s.dropItem_keeps g cause).2.2
@[simp] theorem State.line_dropItem (g : SegNo) (cause : Nat) (j : LineNo) : (s.dropItem g cause).line j = s.line j := by
  simp only [State.line, State.dropItem_siu]
@[simp] theorem State.segment_dropItem (g : SegNo) (cause : Nat) (j : SegNo) : (s.dropItem g cause).segment j = s.segment j := by
  simp only [State.segment, State.dropItem_smu]
@[simp] theorem State.defn_dropItem (g : SegNo) (cause : Nat) (j : SegNo) : (s.dropItem g cause).defn j = s.defn j := by
  simp only [State.defn, State.segment, State.dropItem_smu]
@[simp] theorem State.run_dropItem (g : SegNo) (cause : Nat) (j : SegNo) : (s.dropItem g cause).run j = s.run j := by
  simp only [State.run, State.segment, State.dropItem_smu]
@[simp] theorem State.member_dropItem (g : SegNo) (cause : Nat) (j : MemberNo) : (s.dropItem g cause).member j = s.member j := by
  simp only [State.member, State.dropItem_wau]
@[simp] theorem State.slot_dropItem (g : SegNo) (cause : Nat) (j : SlotNo) : (s.dropItem g cause).slot j = s.slot j := by
  simp only [State.slot, State.dropItem_spl]

theorem State.enterAnnounced_keeps (g : SegNo) (i : Item) (rest : List Item) :
    KeepsAllBut [.itu, .nq] s (s.enterAnnounced g i rest) := by
  unfold State.enterAnnounced; dsimp only
  (repeat' split) <;> simp [keepsAllBut_iff]

@[simp] theorem State.enterAnnounced_siu (g : SegNo) (i : Item) (rest : List Item) : (s.enterAnnounced g i rest).siu = s.siu :=
  (s.enterAnnounced_keeps g i rest).1 .siu (by decide)
@[simp] theorem State.enterAnnounced_smu (g : SegNo) (i : Item) (rest : List Item) : (s.enterAnnounced g i rest).smu = s.smu :=
  (s.enterAnnounced_keeps g i rest).1 .smu (by decide)
@[simp] theorem State.enterAnnounced_wau (g : SegNo) (i : Item) (rest : List Item) : (s.enterAnnounced g i rest).wau = s.wau :=
  (s.enterAnnounced_keeps g i rest).1 .wau (by decide)
@[simp] theorem State.enterAnnounced_etm (g : SegNo) (i : Item) (rest : List Item) : (s.enterAnnounced g i rest).etm = s.etm :=
  (s.enterAnnounced_keeps g i rest).1 .etm (by decide)
@[simp] theorem State.enterAnnounced_spl (g : SegNo) (i : Item) (rest : List Item) : (s.enterAnnounced g i rest).spl = s.spl :=
  (s.enterAnnounced_keeps g i rest).1 .spl (by decide)
@[simp] theorem State.enterAnnounced_lnk (g : SegNo) (i : Item) (rest : List Item) : (s.enterAnnounced g i rest).lnk = s.lnk :=
  (s.enterAnnounced_keeps g i rest).1 .lnk (by decide)
@[simp] theorem State.enterAnnounced_rqd (g : SegNo) (i : Item) (rest : List Item) : (s.enterAnnounced g i rest).rqd = s.rqd :=
  (s.enterAnnounced_keeps g i rest).1 .rqd (by decide)
@[simp] theorem State.enterAnnounced_arbiter (g : SegNo) (i : Item) (rest : List Item) : (s.enterAnnounced g i rest).arbiter = s.arbiter :=
  (s.enterAnnounced_keeps g i rest).2.1
@[simp] theorem State.enterAnnounced_pending (g : SegNo) (i : Item) (rest : List Item) : (s.enterAnnounced g i rest).pending = s.pending :=
  (s.enterAnnounced_keeps g i rest).2.2
@[simp] theorem State.line_enterAnnounced (g : SegNo) (i : Item) (rest : List Item) (j : LineNo) : (s.enterAnnounced g i rest).line j = s.line j := by
  simp only [State.line, State.enterAnnounced_siu]
@[simp] theorem State.segment_enterAnnounced (g : SegNo) (i : Item) (rest : List Item) (j : SegNo) : (s.enterAnnounced g i rest).segment j = s.segment j := by
  simp only [State.segment, State.enterAnnounced_smu]
@[simp] theorem State.defn_enterAnnounced (g : SegNo) (i : Item) (rest : List Item) (j : SegNo) : (s.enterAnnounced g i rest).defn j = s.defn j := by
  simp only [State.defn, State.segment, State.enterAnnounced_smu]
@[simp] theorem State.run_enterAnnounced (g : SegNo) (i : Item) (rest : List Item) (j : SegNo) : (s.enterAnnounced g i rest).run j = s.run j := by
  simp only [State.run, State.segment, State.enterAnnounced_smu]
@[simp] theorem State.member_enterAnnounced (g : SegNo) (i : Item) (rest : List Item) (j : MemberNo) : (s.enterAnnounced g i rest).member j = s.member j := by
  simp only [State.member, State.enterAnnounced_wau]
@[simp] theorem State.slot_enterAnnounced (g : SegNo) (i : Item) (rest : List Item) (j : SlotNo) : (s.enterAnnounced g i rest).slot j = s.slot j := by
  simp only [State.slot, State.enterAnnounced_spl]

theorem State.enterUnannounced_keeps (g : SegNo) (d : SegDef) :
    KeepsAllBut [.itu, .nq] s (s.enterUnannounced g d) := by
  unfold State.enterUnannounced; dsimp only
  (repeat' split) <;> simp [keepsAllBut_iff]

@[simp] theorem State.enterUnannounced_siu (g : SegNo) (d : SegDef) : (s.enterUnannounced g d).siu = s.siu :=
  (s.enterUnannounced_keeps g d).1 .siu (by decide)
@[simp] theorem State.enterUnannounced_smu (g : SegNo) (d : SegDef) : (s.enterUnannounced g d).smu = s.smu :=
  (s.enterUnannounced_keeps g d).1 .smu (by decide)
@[simp] theorem State.enterUnannounced_wau (g : SegNo) (d : SegDef) : (s.enterUnannounced g d).wau = s.wau :=
  (s.enterUnannounced_keeps g d).1 .wau (by decide)
@[simp] theorem State.enterUnannounced_etm (g : SegNo) (d : SegDef) : (s.enterUnannounced g d).etm = s.etm :=
  (s.enterUnannounced_keeps g d).1 .etm (by decide)
@[simp] theorem State.enterUnannounced_spl (g : SegNo) (d : SegDef) : (s.enterUnannounced g d).spl = s.spl :=
  (s.enterUnannounced_keeps g d).1 .spl (by decide)
@[simp] theorem State.enterUnannounced_lnk (g : SegNo) (d : SegDef) : (s.enterUnannounced g d).lnk = s.lnk :=
  (s.enterUnannounced_keeps g d).1 .lnk (by decide)
@[simp] theorem State.enterUnannounced_rqd (g : SegNo) (d : SegDef) : (s.enterUnannounced g d).rqd = s.rqd :=
  (s.enterUnannounced_keeps g d).1 .rqd (by decide)
@[simp] theorem State.enterUnannounced_arbiter (g : SegNo) (d : SegDef) : (s.enterUnannounced g d).arbiter = s.arbiter :=
  (s.enterUnannounced_keeps g d).2.1
@[simp] theorem State.enterUnannounced_pending (g : SegNo) (d : SegDef) : (s.enterUnannounced g d).pending = s.pending :=
  (s.enterUnannounced_keeps g d).2.2
@[simp] theorem State.line_enterUnannounced (g : SegNo) (d : SegDef) (j : LineNo) : (s.enterUnannounced g d).line j = s.line j := by
  simp only [State.line, State.enterUnannounced_siu]
@[simp] theorem State.segment_enterUnannounced (g : SegNo) (d : SegDef) (j : SegNo) : (s.enterUnannounced g d).segment j = s.segment j := by
  simp only [State.segment, State.enterUnannounced_smu]
@[simp] theorem State.defn_enterUnannounced (g : SegNo) (d : SegDef) (j : SegNo) : (s.enterUnannounced g d).defn j = s.defn j := by
  simp only [State.defn, State.segment, State.enterUnannounced_smu]
@[simp] theorem State.run_enterUnannounced (g : SegNo) (d : SegDef) (j : SegNo) : (s.enterUnannounced g d).run j = s.run j := by
  simp only [State.run, State.segment, State.enterUnannounced_smu]
@[simp] theorem State.member_enterUnannounced (g : SegNo) (d : SegDef) (j : MemberNo) : (s.enterUnannounced g d).member j = s.member j := by
  simp only [State.member, State.enterUnannounced_wau]
@[simp] theorem State.slot_enterUnannounced (g : SegNo) (d : SegDef) (j : SlotNo) : (s.enterUnannounced g d).slot j = s.slot j := by
  simp only [State.slot, State.enterUnannounced_spl]

theorem State.entryEvent_keeps (g : SegNo) (d : SegDef) :
    KeepsAllBut [.itu, .nq] s (s.entryEvent g d) := by
  unfold State.entryEvent
  (repeat' split) <;> simp [keepsAllBut_iff]

@[simp] theorem State.entryEvent_siu (g : SegNo) (d : SegDef) : (s.entryEvent g d).siu = s.siu :=
  (s.entryEvent_keeps g d).1 .siu (by decide)
@[simp] theorem State.entryEvent_smu (g : SegNo) (d : SegDef) : (s.entryEvent g d).smu = s.smu :=
  (s.entryEvent_keeps g d).1 .smu (by decide)
@[simp] theorem State.entryEvent_wau (g : SegNo) (d : SegDef) : (s.entryEvent g d).wau = s.wau :=
  (s.entryEvent_keeps g d).1 .wau (by decide)
@[simp] theorem State.entryEvent_etm (g : SegNo) (d : SegDef) : (s.entryEvent g d).etm = s.etm :=
  (s.entryEvent_keeps g d).1 .etm (by decide)
@[simp] theorem State.entryEvent_spl (g : SegNo) (d : SegDef) : (s.entryEvent g d).spl = s.spl :=
  (s.entryEvent_keeps g d).1 .spl (by decide)
@[simp] theorem State.entryEvent_lnk (g : SegNo) (d : SegDef) : (s.entryEvent g d).lnk = s.lnk :=
  (s.entryEvent_keeps g d).1 .lnk (by decide)
@[simp] theorem State.entryEvent_rqd (g : SegNo) (d : SegDef) : (s.entryEvent g d).rqd = s.rqd :=
  (s.entryEvent_keeps g d).1 .rqd (by decide)
@[simp] theorem State.entryEvent_arbiter (g : SegNo) (d : SegDef) : (s.entryEvent g d).arbiter = s.arbiter :=
  (s.entryEvent_keeps g d).2.1
@[simp] theorem State.entryEvent_pending (g : SegNo) (d : SegDef) : (s.entryEvent g d).pending = s.pending :=
  (s.entryEvent_keeps g d).2.2
@[simp] theorem State.line_entryEvent (g : SegNo) (d : SegDef) (j : LineNo) : (s.entryEvent g d).line j = s.line j := by
  simp only [State.line, State.entryEvent_siu]
@[simp] theorem State.segment_entryEvent (g : SegNo) (d : SegDef) (j : SegNo) : (s.entryEvent g d).segment j = s.segment j := by
  simp only [State.segment, State.entryEvent_smu]
@[simp] theorem State.defn_entryEvent (g : SegNo) (d : SegDef) (j : SegNo) : (s.entryEvent g d).defn j = s.defn j := by
  simp only [State.defn, State.segment, State.entryEvent_smu]
@[simp] theorem State.run_entryEvent (g : SegNo) (d : SegDef) (j : SegNo) : (s.entryEvent g d).run j = s.run j := by
  simp only [State.run, State.segment, State.entryEvent_smu]
@[simp] theorem State.member_entryEvent (g : SegNo) (d : SegDef) (j : MemberNo) : (s.entryEvent g d).member j = s.member j := by
  simp only [State.member, State.entryEvent_wau]
@[simp] theorem State.slot_entryEvent (g : SegNo) (d : SegDef) (j : SlotNo) : (s.entryEvent g d).slot j = s.slot j := by
  simp only [State.slot, State.entryEvent_spl]

theorem State.handOnItem_keeps (g : SegNo) (d : SegDef) (i : Item) :
    KeepsAllBut [.itu, .nq] s (s.handOnItem g d i) := by
  unfold State.handOnItem; dsimp only
  (repeat' split) <;> simp [keepsAllBut_iff]

@[simp] theorem State.handOnItem_siu (g : SegNo) (d : SegDef) (i : Item) : (s.handOnItem g d i).siu = s.siu :=
  (s.handOnItem_keeps g d i).1 .siu (by decide)
@[simp] theorem State.handOnItem_smu (g : SegNo) (d : SegDef) (i : Item) : (s.handOnItem g d i).smu = s.smu :=
  (s.handOnItem_keeps g d i).1 .smu (by decide)
@[simp] theorem State.handOnItem_wau (g : SegNo) (d : SegDef) (i : Item) : (s.handOnItem g d i).wau = s.wau :=
  (s.handOnItem_keeps g d i).1 .wau (by decide)
@[simp] theorem State.handOnItem_etm (g : SegNo) (d : SegDef) (i : Item) : (s.handOnItem g d i).etm = s.etm :=
  (s.handOnItem_keeps g d i).1 .etm (by decide)
@[simp] theorem State.handOnItem_spl (g : SegNo) (d : SegDef) (i : Item) : (s.handOnItem g d i).spl = s.spl :=
  (s.handOnItem_keeps g d i).1 .spl (by decide)
@[simp] theorem State.handOnItem_lnk (g : SegNo) (d : SegDef) (i : Item) : (s.handOnItem g d i).lnk = s.lnk :=
  (s.handOnItem_keeps g d i).1 .lnk (by decide)
@[simp] theorem State.handOnItem_rqd (g : SegNo) (d : SegDef) (i : Item) : (s.handOnItem g d i).rqd = s.rqd :=
  (s.handOnItem_keeps g d i).1 .rqd (by decide)
@[simp] theorem State.handOnItem_arbiter (g : SegNo) (d : SegDef) (i : Item) : (s.handOnItem g d i).arbiter = s.arbiter :=
  (s.handOnItem_keeps g d i).2.1
@[simp] theorem State.handOnItem_pending (g : SegNo) (d : SegDef) (i : Item) : (s.handOnItem g d i).pending = s.pending :=
  (s.handOnItem_keeps g d i).2.2
@[simp] theorem State.line_handOnItem (g : SegNo) (d : SegDef) (i : Item) (j : LineNo) : (s.handOnItem g d i).line j = s.line j := by
  simp only [State.line, State.handOnItem_siu]
@[simp] theorem State.segment_handOnItem (g : SegNo) (d : SegDef) (i : Item) (j : SegNo) : (s.handOnItem g d i).segment j = s.segment j := by
  simp only [State.segment, State.handOnItem_smu]
@[simp] theorem State.defn_handOnItem (g : SegNo) (d : SegDef) (i : Item) (j : SegNo) : (s.handOnItem g d i).defn j = s.defn j := by
  simp only [State.defn, State.segment, State.handOnItem_smu]
@[simp] theorem State.run_handOnItem (g : SegNo) (d : SegDef) (i : Item) (j : SegNo) : (s.handOnItem g d i).run j = s.run j := by
  simp only [State.run, State.segment, State.handOnItem_smu]
@[simp] theorem State.member_handOnItem (g : SegNo) (d : SegDef) (i : Item) (j : MemberNo) : (s.handOnItem g d i).member j = s.member j := by
  simp only [State.member, State.handOnItem_wau]
@[simp] theorem State.slot_handOnItem (g : SegNo) (d : SegDef) (i : Item) (j : SlotNo) : (s.handOnItem g d i).slot j = s.slot j := by
  simp only [State.slot, State.handOnItem_spl]

theorem State.cleanExit_keeps (g : SegNo) (d : SegDef) (i : Item) (rest : List Item) :
    KeepsAllBut [.itu, .nq] s (s.cleanExit g d i rest) := by
  unfold State.cleanExit; simp [keepsAllBut_iff]

@[simp] theorem State.cleanExit_siu (g : SegNo) (d : SegDef) (i : Item) (rest : List Item) : (s.cleanExit g d i rest).siu = s.siu :=
  (s.cleanExit_keeps g d i rest).1 .siu (by decide)
@[simp] theorem State.cleanExit_smu (g : SegNo) (d : SegDef) (i : Item) (rest : List Item) : (s.cleanExit g d i rest).smu = s.smu :=
  (s.cleanExit_keeps g d i rest).1 .smu (by decide)
@[simp] theorem State.cleanExit_wau (g : SegNo) (d : SegDef) (i : Item) (rest : List Item) : (s.cleanExit g d i rest).wau = s.wau :=
  (s.cleanExit_keeps g d i rest).1 .wau (by decide)
@[simp] theorem State.cleanExit_etm (g : SegNo) (d : SegDef) (i : Item) (rest : List Item) : (s.cleanExit g d i rest).etm = s.etm :=
  (s.cleanExit_keeps g d i rest).1 .etm (by decide)
@[simp] theorem State.cleanExit_spl (g : SegNo) (d : SegDef) (i : Item) (rest : List Item) : (s.cleanExit g d i rest).spl = s.spl :=
  (s.cleanExit_keeps g d i rest).1 .spl (by decide)
@[simp] theorem State.cleanExit_lnk (g : SegNo) (d : SegDef) (i : Item) (rest : List Item) : (s.cleanExit g d i rest).lnk = s.lnk :=
  (s.cleanExit_keeps g d i rest).1 .lnk (by decide)
@[simp] theorem State.cleanExit_rqd (g : SegNo) (d : SegDef) (i : Item) (rest : List Item) : (s.cleanExit g d i rest).rqd = s.rqd :=
  (s.cleanExit_keeps g d i rest).1 .rqd (by decide)
@[simp] theorem State.cleanExit_arbiter (g : SegNo) (d : SegDef) (i : Item) (rest : List Item) : (s.cleanExit g d i rest).arbiter = s.arbiter :=
  (s.cleanExit_keeps g d i rest).2.1
@[simp] theorem State.cleanExit_pending (g : SegNo) (d : SegDef) (i : Item) (rest : List Item) : (s.cleanExit g d i rest).pending = s.pending :=
  (s.cleanExit_keeps g d i rest).2.2
@[simp] theorem State.line_cleanExit (g : SegNo) (d : SegDef) (i : Item) (rest : List Item) (j : LineNo) : (s.cleanExit g d i rest).line j = s.line j := by
  simp only [State.line, State.cleanExit_siu]
@[simp] theorem State.segment_cleanExit (g : SegNo) (d : SegDef) (i : Item) (rest : List Item) (j : SegNo) : (s.cleanExit g d i rest).segment j = s.segment j := by
  simp only [State.segment, State.cleanExit_smu]
@[simp] theorem State.defn_cleanExit (g : SegNo) (d : SegDef) (i : Item) (rest : List Item) (j : SegNo) : (s.cleanExit g d i rest).defn j = s.defn j := by
  simp only [State.defn, State.segment, State.cleanExit_smu]
@[simp] theorem State.run_cleanExit (g : SegNo) (d : SegDef) (i : Item) (rest : List Item) (j : SegNo) : (s.cleanExit g d i rest).run j = s.run j := by
  simp only [State.run, State.segment, State.cleanExit_smu]
@[simp] theorem State.member_cleanExit (g : SegNo) (d : SegDef) (i : Item) (rest : List Item) (j : MemberNo) : (s.cleanExit g d i rest).member j = s.member j := by
  simp only [State.member, State.cleanExit_wau]
@[simp] theorem State.slot_cleanExit (g : SegNo) (d : SegDef) (i : Item) (rest : List Item) (j : SlotNo) : (s.cleanExit g d i rest).slot j = s.slot j := by
  simp only [State.slot, State.cleanExit_spl]

theorem State.exitEvent_keeps (g : SegNo) (d : SegDef) :
    KeepsAllBut [.itu, .nq] s (s.exitEvent g d) := by
  unfold State.exitEvent
  (repeat' split) <;> simp [keepsAllBut_iff]

@[simp] theorem State.exitEvent_siu (g : SegNo) (d : SegDef) : (s.exitEvent g d).siu = s.siu :=
  (s.exitEvent_keeps g d).1 .siu (by decide)
@[simp] theorem State.exitEvent_smu (g : SegNo) (d : SegDef) : (s.exitEvent g d).smu = s.smu :=
  (s.exitEvent_keeps g d).1 .smu (by decide)
@[simp] theorem State.exitEvent_wau (g : SegNo) (d : SegDef) : (s.exitEvent g d).wau = s.wau :=
  (s.exitEvent_keeps g d).1 .wau (by decide)
@[simp] theorem State.exitEvent_etm (g : SegNo) (d : SegDef) : (s.exitEvent g d).etm = s.etm :=
  (s.exitEvent_keeps g d).1 .etm (by decide)
@[simp] theorem State.exitEvent_spl (g : SegNo) (d : SegDef) : (s.exitEvent g d).spl = s.spl :=
  (s.exitEvent_keeps g d).1 .spl (by decide)
@[simp] theorem State.exitEvent_lnk (g : SegNo) (d : SegDef) : (s.exitEvent g d).lnk = s.lnk :=
  (s.exitEvent_keeps g d).1 .lnk (by decide)
@[simp] theorem State.exitEvent_rqd (g : SegNo) (d : SegDef) : (s.exitEvent g d).rqd = s.rqd :=
  (s.exitEvent_keeps g d).1 .rqd (by decide)
@[simp] theorem State.exitEvent_arbiter (g : SegNo) (d : SegDef) : (s.exitEvent g d).arbiter = s.arbiter :=
  (s.exitEvent_keeps g d).2.1
@[simp] theorem State.exitEvent_pending (g : SegNo) (d : SegDef) : (s.exitEvent g d).pending = s.pending :=
  (s.exitEvent_keeps g d).2.2
@[simp] theorem State.line_exitEvent (g : SegNo) (d : SegDef) (j : LineNo) : (s.exitEvent g d).line j = s.line j := by
  simp only [State.line, State.exitEvent_siu]
@[simp] theorem State.segment_exitEvent (g : SegNo) (d : SegDef) (j : SegNo) : (s.exitEvent g d).segment j = s.segment j := by
  simp only [State.segment, State.exitEvent_smu]
@[simp] theorem State.defn_exitEvent (g : SegNo) (d : SegDef) (j : SegNo) : (s.exitEvent g d).defn j = s.defn j := by
  simp only [State.defn, State.segment, State.exitEvent_smu]
@[simp] theorem State.run_exitEvent (g : SegNo) (d : SegDef) (j : SegNo) : (s.exitEvent g d).run j = s.run j := by
  simp only [State.run, State.segment, State.exitEvent_smu]
@[simp] theorem State.member_exitEvent (g : SegNo) (d : SegDef) (j : MemberNo) : (s.exitEvent g d).member j = s.member j := by
  simp only [State.member, State.exitEvent_wau]
@[simp] theorem State.slot_exitEvent (g : SegNo) (d : SegDef) (j : SlotNo) : (s.exitEvent g d).slot j = s.slot j := by
  simp only [State.slot, State.exitEvent_spl]

theorem State.exitHalf_keeps (g : SegNo) :
    KeepsAllBut [.itu, .nq] s (s.exitHalf g) := by
  unfold State.exitHalf
  (repeat' split) <;> simp [keepsAllBut_iff]

@[simp] theorem State.exitHalf_siu (g : SegNo) : (s.exitHalf g).siu = s.siu :=
  (s.exitHalf_keeps g).1 .siu (by decide)
@[simp] theorem State.exitHalf_smu (g : SegNo) : (s.exitHalf g).smu = s.smu :=
  (s.exitHalf_keeps g).1 .smu (by decide)
@[simp] theorem State.exitHalf_wau (g : SegNo) : (s.exitHalf g).wau = s.wau :=
  (s.exitHalf_keeps g).1 .wau (by decide)
@[simp] theorem State.exitHalf_etm (g : SegNo) : (s.exitHalf g).etm = s.etm :=
  (s.exitHalf_keeps g).1 .etm (by decide)
@[simp] theorem State.exitHalf_spl (g : SegNo) : (s.exitHalf g).spl = s.spl :=
  (s.exitHalf_keeps g).1 .spl (by decide)
@[simp] theorem State.exitHalf_lnk (g : SegNo) : (s.exitHalf g).lnk = s.lnk :=
  (s.exitHalf_keeps g).1 .lnk (by decide)
@[simp] theorem State.exitHalf_rqd (g : SegNo) : (s.exitHalf g).rqd = s.rqd :=
  (s.exitHalf_keeps g).1 .rqd (by decide)
@[simp] theorem State.exitHalf_arbiter (g : SegNo) : (s.exitHalf g).arbiter = s.arbiter :=
  (s.exitHalf_keeps g).2.1
@[simp] theorem State.exitHalf_pending (g : SegNo) : (s.exitHalf g).pending = s.pending :=
  (s.exitHalf_keeps g).2.2
@[simp] theorem State.line_exitHalf (g : SegNo) (j : LineNo) : (s.exitHalf g).line j = s.line j := by
  simp only [State.line, State.exitHalf_siu]
@[simp] theorem State.segment_exitHalf (g : SegNo) (j : SegNo) : (s.exitHalf g).segment j = s.segment j := by
  simp only [State.segment, State.exitHalf_smu]
@[simp] theorem State.defn_exitHalf (g : SegNo) (j : SegNo) : (s.exitHalf g).defn j = s.defn j := by
  simp only [State.defn, State.segment, State.exitHalf_smu]
@[simp] theorem State.run_exitHalf (g : SegNo) (j : SegNo) : (s.exitHalf g).run j = s.run j := by
  simp only [State.run, State.segment, State.exitHalf_smu]
@[simp] theorem State.member_exitHalf (g : SegNo) (j : MemberNo) : (s.exitHalf g).member j = s.member j := by
  simp only [State.member, State.exitHalf_wau]
@[simp] theorem State.slot_exitHalf (g : SegNo) (j : SlotNo) : (s.exitHalf g).slot j = s.slot j := by
  simp only [State.slot, State.exitHalf_spl]

theorem State.entryHalf_keeps (g : SegNo) :
    KeepsAllBut [.itu, .nq] s (s.entryHalf g) := by
  unfold State.entryHalf
  (repeat' split) <;> simp [keepsAllBut_iff]

@[simp] theorem State.entryHalf_siu (g : SegNo) : (s.entryHalf g).siu = s.siu :=
  (s.entryHalf_keeps g).1 .siu (by decide)
@[simp] theorem State.entryHalf_smu (g : SegNo) : (s.entryHalf g).smu = s.smu :=
  (s.entryHalf_keeps g).1 .smu (by decide)
@[simp] theorem State.entryHalf_wau (g : SegNo) : (s.entryHalf g).wau = s.wau :=
  (s.entryHalf_keeps g).1 .wau (by decide)
@[simp] theorem State.entryHalf_etm (g : SegNo) : (s.entryHalf g).etm = s.etm :=
  (s.entryHalf_keeps g).1 .etm (by decide)
@[simp] theorem State.entryHalf_spl (g : SegNo) : (s.entryHalf g).spl = s.spl :=
  (s.entryHalf_keeps g).1 .spl (by decide)
@[simp] theorem State.entryHalf_lnk (g : SegNo) : (s.entryHalf g).lnk = s.lnk :=
  (s.entryHalf_keeps g).1 .lnk (by decide)
@[simp] theorem State.entryHalf_rqd (g : SegNo) : (s.entryHalf g).rqd = s.rqd :=
  (s.entryHalf_keeps g).1 .rqd (by decide)
@[simp] theorem State.entryHalf_arbiter (g : SegNo) : (s.entryHalf g).arbiter = s.arbiter :=
  (s.entryHalf_keeps g).2.1
@[simp] theorem State.entryHalf_pending (g : SegNo) : (s.entryHalf g).pending = s.pending :=
  (s.entryHalf_keeps g).2.2
@[simp] theorem State.line_entryHalf (g : SegNo) (j : LineNo) : (s.entryHalf g).line j = s.line j := by
  simp only [State.line, State.entryHalf_siu]
@[simp] theorem State.segment_entryHalf (g : SegNo) (j : SegNo) : (s.entryHalf g).segment j = s.segment j := by
  simp only [State.segment, State.entryHalf_smu]
@[simp] theorem State.defn_entryHalf (g : SegNo) (j : SegNo) : (s.entryHalf g).defn j = s.defn j := by
  simp only [State.defn, State.segment, State.entryHalf_smu]
@[simp] theorem State.run_entryHalf (g : SegNo) (j : SegNo) : (s.entryHalf g).run j = s.run j := by
  simp only [State.run, State.segment, State.entryHalf_smu]
@[simp] theorem State.member_entryHalf (g : SegNo) (j : MemberNo) : (s.entryHalf g).member j = s.member j := by
  simp only [State.member, State.entryHalf_wau]
@[simp] theorem State.slot_entryHalf (g : SegNo) (j : SlotNo) : (s.entryHalf g).slot j = s.slot j := by
  simp only [State.slot, State.entryHalf_spl]

theorem State.gateEvent_keeps (l : LineNo) :
    KeepsAllBut [.itu, .nq] s (s.gateEvent l) := by
  unfold State.gateEvent; dsimp only
  (repeat' split) <;> simp [keepsAllBut_iff]

@[simp] theorem State.gateEvent_siu (l : LineNo) : (s.gateEvent l).siu = s.siu :=
  (s.gateEvent_keeps l).1 .siu (by decide)
@[simp] theorem State.gateEvent_smu (l : LineNo) : (s.gateEvent l).smu = s.smu :=
  (s.gateEvent_keeps l).1 .smu (by decide)
@[simp] theorem State.gateEvent_wau (l : LineNo) : (s.gateEvent l).wau = s.wau :=
  (s.gateEvent_keeps l).1 .wau (by decide)
@[simp] theorem State.gateEvent_etm (l : LineNo) : (s.gateEvent l).etm = s.etm :=
  (s.gateEvent_keeps l).1 .etm (by decide)
@[simp] theorem State.gateEvent_spl (l : LineNo) : (s.gateEvent l).spl = s.spl :=
  (s.gateEvent_keeps l).1 .spl (by decide)
@[simp] theorem State.gateEvent_lnk (l : LineNo) : (s.gateEvent l).lnk = s.lnk :=
  (s.gateEvent_keeps l).1 .lnk (by decide)
@[simp] theorem State.gateEvent_rqd (l : LineNo) : (s.gateEvent l).rqd = s.rqd :=
  (s.gateEvent_keeps l).1 .rqd (by decide)
@[simp] theorem State.gateEvent_arbiter (l : LineNo) : (s.gateEvent l).arbiter = s.arbiter :=
  (s.gateEvent_keeps l).2.1
@[simp] theorem State.gateEvent_pending (l : LineNo) : (s.gateEvent l).pending = s.pending :=
  (s.gateEvent_keeps l).2.2
@[simp] theorem State.line_gateEvent (l : LineNo) (j : LineNo) : (s.gateEvent l).line j = s.line j := by
  simp only [State.line, State.gateEvent_siu]
@[simp] theorem State.segment_gateEvent (l : LineNo) (j : SegNo) : (s.gateEvent l).segment j = s.segment j := by
  simp only [State.segment, State.gateEvent_smu]
@[simp] theorem State.defn_gateEvent (l : LineNo) (j : SegNo) : (s.gateEvent l).defn j = s.defn j := by
  simp only [State.defn, State.segment, State.gateEvent_smu]
@[simp] theorem State.run_gateEvent (l : LineNo) (j : SegNo) : (s.gateEvent l).run j = s.run j := by
  simp only [State.run, State.segment, State.gateEvent_smu]
@[simp] theorem State.member_gateEvent (l : LineNo) (j : MemberNo) : (s.gateEvent l).member j = s.member j := by
  simp only [State.member, State.gateEvent_wau]
@[simp] theorem State.slot_gateEvent (l : LineNo) (j : SlotNo) : (s.gateEvent l).slot j = s.slot j := by
  simp only [State.slot, State.gateEvent_spl]

theorem State.storeLoad_keeps (g : SegNo) (load : Nat) :
    KeepsAllBut [.itu] s (s.storeLoad g load) := by
  unfold State.storeLoad; simp [keepsAllBut_iff]

@[simp] theorem State.storeLoad_siu (g : SegNo) (load : Nat) : (s.storeLoad g load).siu = s.siu :=
  (s.storeLoad_keeps g load).1 .siu (by decide)
@[simp] theorem State.storeLoad_smu (g : SegNo) (load : Nat) : (s.storeLoad g load).smu = s.smu :=
  (s.storeLoad_keeps g load).1 .smu (by decide)
@[simp] theorem State.storeLoad_wau (g : SegNo) (load : Nat) : (s.storeLoad g load).wau = s.wau :=
  (s.storeLoad_keeps g load).1 .wau (by decide)
@[simp] theorem State.storeLoad_etm (g : SegNo) (load : Nat) : (s.storeLoad g load).etm = s.etm :=
  (s.storeLoad_keeps g load).1 .etm (by decide)
@[simp] theorem State.storeLoad_spl (g : SegNo) (load : Nat) : (s.storeLoad g load).spl = s.spl :=
  (s.storeLoad_keeps g load).1 .spl (by decide)
@[simp] theorem State.storeLoad_nq (g : SegNo) (load : Nat) : (s.storeLoad g load).nq = s.nq :=
  (s.storeLoad_keeps g load).1 .nq (by decide)
@[simp] theorem State.storeLoad_lnk (g : SegNo) (load : Nat) : (s.storeLoad g load).lnk = s.lnk :=
  (s.storeLoad_keeps g load).1 .lnk (by decide)
@[simp] theorem State.storeLoad_rqd (g : SegNo) (load : Nat) : (s.storeLoad g load).rqd = s.rqd :=
  (s.storeLoad_keeps g load).1 .rqd (by decide)
@[simp] theorem State.storeLoad_arbiter (g : SegNo) (load : Nat) : (s.storeLoad g load).arbiter = s.arbiter :=
  (s.storeLoad_keeps g load).2.1
@[simp] theorem State.storeLoad_pending (g : SegNo) (load : Nat) : (s.storeLoad g load).pending = s.pending :=
  (s.storeLoad_keeps g load).2.2
@[simp] theorem State.line_storeLoad (g : SegNo) (load : Nat) (j : LineNo) : (s.storeLoad g load).line j = s.line j := by
  simp only [State.line, State.storeLoad_siu]
@[simp] theorem State.segment_storeLoad (g : SegNo) (load : Nat) (j : SegNo) : (s.storeLoad g load).segment j = s.segment j := by
  simp only [State.segment, State.storeLoad_smu]
@[simp] theorem State.defn_storeLoad (g : SegNo) (load : Nat) (j : SegNo) : (s.storeLoad g load).defn j = s.defn j := by
  simp only [State.defn, State.segment, State.storeLoad_smu]
@[simp] theorem State.run_storeLoad (g : SegNo) (load : Nat) (j : SegNo) : (s.storeLoad g load).run j = s.run j := by
  simp only [State.run, State.segment, State.storeLoad_smu]
@[simp] theorem State.member_storeLoad (g : SegNo) (load : Nat) (j : MemberNo) : (s.storeLoad g load).member j = s.member j := by
  simp only [State.member, State.storeLoad_wau]
@[simp] theorem State.slot_storeLoad (g : SegNo) (load : Nat) (j : SlotNo) : (s.storeLoad g load).slot j = s.slot j := by
  simp only [State.slot, State.storeLoad_spl]

theorem State.removeStale_keeps (d : SegDef) (g : SegNo) (n : Nat) :
    KeepsAllBut [.itu, .nq] s (State.removeStale d g n s) := by
  induction n generalizing s with
  | zero => exact KeepsAllBut.refl _ _
  | succ n ih =>
    unfold State.removeStale
    split
    · exact KeepsAllBut.refl _ _
    · split
      · exact KeepsAllBut.trans (by simp [keepsAllBut_iff]) (ih _)
      · exact KeepsAllBut.refl _ _

@[simp] theorem State.removeStale_siu (d : SegDef) (g : SegNo) (n : Nat) : (State.removeStale d g n s).siu = s.siu :=
  (s.removeStale_keeps d g n).1 .siu (by decide)
@[simp] theorem State.removeStale_smu (d : SegDef) (g : SegNo) (n : Nat) : (State.removeStale d g n s).smu = s.smu :=
  (s.removeStale_keeps d g n).1 .smu (by decide)
@[simp] theorem State.removeStale_wau (d : SegDef) (g : SegNo) (n : Nat) : (State.removeStale d g n s).wau = s.wau :=
  (s.removeStale_keeps d g n).1 .wau (by decide)
@[simp] theorem State.removeStale_etm (d : SegDef) (g : SegNo) (n : Nat) : (State.removeStale d g n s).etm = s.etm :=
  (s.removeStale_keeps d g n).1 .etm (by decide)
@[simp] theorem State.removeStale_spl (d : SegDef) (g : SegNo) (n : Nat) : (State.removeStale d g n s).spl = s.spl :=
  (s.removeStale_keeps d g n).1 .spl (by decide)
@[simp] theorem State.removeStale_lnk (d : SegDef) (g : SegNo) (n : Nat) : (State.removeStale d g n s).lnk = s.lnk :=
  (s.removeStale_keeps d g n).1 .lnk (by decide)
@[simp] theorem State.removeStale_rqd (d : SegDef) (g : SegNo) (n : Nat) : (State.removeStale d g n s).rqd = s.rqd :=
  (s.removeStale_keeps d g n).1 .rqd (by decide)
@[simp] theorem State.removeStale_arbiter (d : SegDef) (g : SegNo) (n : Nat) : (State.removeStale d g n s).arbiter = s.arbiter :=
  (s.removeStale_keeps d g n).2.1
@[simp] theorem State.removeStale_pending (d : SegDef) (g : SegNo) (n : Nat) : (State.removeStale d g n s).pending = s.pending :=
  (s.removeStale_keeps d g n).2.2
@[simp] theorem State.line_removeStale (d : SegDef) (g : SegNo) (n : Nat) (j : LineNo) : (State.removeStale d g n s).line j = s.line j := by
  simp only [State.line, State.removeStale_siu]
@[simp] theorem State.segment_removeStale (d : SegDef) (g : SegNo) (n : Nat) (j : SegNo) : (State.removeStale d g n s).segment j = s.segment j := by
  simp only [State.segment, State.removeStale_smu]
@[simp] theorem State.defn_removeStale (d : SegDef) (g : SegNo) (n : Nat) (j : SegNo) : (State.removeStale d g n s).defn j = s.defn j := by
  simp only [State.defn, State.segment, State.removeStale_smu]
@[simp] theorem State.run_removeStale (d : SegDef) (g : SegNo) (n : Nat) (j : SegNo) : (State.removeStale d g n s).run j = s.run j := by
  simp only [State.run, State.segment, State.removeStale_smu]
@[simp] theorem State.member_removeStale (d : SegDef) (g : SegNo) (n : Nat) (j : MemberNo) : (State.removeStale d g n s).member j = s.member j := by
  simp only [State.member, State.removeStale_wau]
@[simp] theorem State.slot_removeStale (d : SegDef) (g : SegNo) (n : Nat) (j : SlotNo) : (State.removeStale d g n s).slot j = s.slot j := by
  simp only [State.slot, State.removeStale_spl]

theorem State.exitByTravel_keeps (d : SegDef) (g : SegNo) (n : Nat) :
    KeepsAllBut [.itu, .nq] s (State.exitByTravel d g n s) := by
  induction n generalizing s with
  | zero => exact KeepsAllBut.refl _ _
  | succ n ih =>
    unfold State.exitByTravel
    split
    · exact KeepsAllBut.refl _ _
    · split
      · exact KeepsAllBut.trans (by simp [keepsAllBut_iff]) (ih _)
      · exact KeepsAllBut.refl _ _

@[simp] theorem State.exitByTravel_siu (d : SegDef) (g : SegNo) (n : Nat) : (State.exitByTravel d g n s).siu = s.siu :=
  (s.exitByTravel_keeps d g n).1 .siu (by decide)
@[simp] theorem State.exitByTravel_smu (d : SegDef) (g : SegNo) (n : Nat) : (State.exitByTravel d g n s).smu = s.smu :=
  (s.exitByTravel_keeps d g n).1 .smu (by decide)
@[simp] theorem State.exitByTravel_wau (d : SegDef) (g : SegNo) (n : Nat) : (State.exitByTravel d g n s).wau = s.wau :=
  (s.exitByTravel_keeps d g n).1 .wau (by decide)
@[simp] theorem State.exitByTravel_etm (d : SegDef) (g : SegNo) (n : Nat) : (State.exitByTravel d g n s).etm = s.etm :=
  (s.exitByTravel_keeps d g n).1 .etm (by decide)
@[simp] theorem State.exitByTravel_spl (d : SegDef) (g : SegNo) (n : Nat) : (State.exitByTravel d g n s).spl = s.spl :=
  (s.exitByTravel_keeps d g n).1 .spl (by decide)
@[simp] theorem State.exitByTravel_lnk (d : SegDef) (g : SegNo) (n : Nat) : (State.exitByTravel d g n s).lnk = s.lnk :=
  (s.exitByTravel_keeps d g n).1 .lnk (by decide)
@[simp] theorem State.exitByTravel_rqd (d : SegDef) (g : SegNo) (n : Nat) : (State.exitByTravel d g n s).rqd = s.rqd :=
  (s.exitByTravel_keeps d g n).1 .rqd (by decide)
@[simp] theorem State.exitByTravel_arbiter (d : SegDef) (g : SegNo) (n : Nat) : (State.exitByTravel d g n s).arbiter = s.arbiter :=
  (s.exitByTravel_keeps d g n).2.1
@[simp] theorem State.exitByTravel_pending (d : SegDef) (g : SegNo) (n : Nat) : (State.exitByTravel d g n s).pending = s.pending :=
  (s.exitByTravel_keeps d g n).2.2
@[simp] theorem State.line_exitByTravel (d : SegDef) (g : SegNo) (n : Nat) (j : LineNo) : (State.exitByTravel d g n s).line j = s.line j := by
  simp only [State.line, State.exitByTravel_siu]
@[simp] theorem State.segment_exitByTravel (d : SegDef) (g : SegNo) (n : Nat) (j : SegNo) : (State.exitByTravel d g n s).segment j = s.segment j := by
  simp only [State.segment, State.exitByTravel_smu]
@[simp] theorem State.defn_exitByTravel (d : SegDef) (g : SegNo) (n : Nat) (j : SegNo) : (State.exitByTravel d g n s).defn j = s.defn j := by
  simp only [State.defn, State.segment, State.exitByTravel_smu]
@[simp] theorem State.run_exitByTravel (d : SegDef) (g : SegNo) (n : Nat) (j : SegNo) : (State.exitByTravel d g n s).run j = s.run j := by
  simp only [State.run, State.segment, State.exitByTravel_smu]
@[simp] theorem State.member_exitByTravel (d : SegDef) (g : SegNo) (n : Nat) (j : MemberNo) : (State.exitByTravel d g n s).member j = s.member j := by
  simp only [State.member, State.exitByTravel_wau]
@[simp] theorem State.slot_exitByTravel (d : SegDef) (g : SegNo) (n : Nat) (j : SlotNo) : (State.exitByTravel d g n s).slot j = s.slot j := by
  simp only [State.slot, State.exitByTravel_spl]

theorem State.ageItems_keeps (g : SegNo) (d : SegDef) (mm : Nat) :
    KeepsAllBut [.itu, .nq] s (s.ageItems g d mm) := by
  unfold State.ageItems
  (repeat' split) <;> simp [keepsAllBut_iff]

@[simp] theorem State.ageItems_siu (g : SegNo) (d : SegDef) (mm : Nat) : (s.ageItems g d mm).siu = s.siu :=
  (s.ageItems_keeps g d mm).1 .siu (by decide)
@[simp] theorem State.ageItems_smu (g : SegNo) (d : SegDef) (mm : Nat) : (s.ageItems g d mm).smu = s.smu :=
  (s.ageItems_keeps g d mm).1 .smu (by decide)
@[simp] theorem State.ageItems_wau (g : SegNo) (d : SegDef) (mm : Nat) : (s.ageItems g d mm).wau = s.wau :=
  (s.ageItems_keeps g d mm).1 .wau (by decide)
@[simp] theorem State.ageItems_etm (g : SegNo) (d : SegDef) (mm : Nat) : (s.ageItems g d mm).etm = s.etm :=
  (s.ageItems_keeps g d mm).1 .etm (by decide)
@[simp] theorem State.ageItems_spl (g : SegNo) (d : SegDef) (mm : Nat) : (s.ageItems g d mm).spl = s.spl :=
  (s.ageItems_keeps g d mm).1 .spl (by decide)
@[simp] theorem State.ageItems_lnk (g : SegNo) (d : SegDef) (mm : Nat) : (s.ageItems g d mm).lnk = s.lnk :=
  (s.ageItems_keeps g d mm).1 .lnk (by decide)
@[simp] theorem State.ageItems_rqd (g : SegNo) (d : SegDef) (mm : Nat) : (s.ageItems g d mm).rqd = s.rqd :=
  (s.ageItems_keeps g d mm).1 .rqd (by decide)
@[simp] theorem State.ageItems_arbiter (g : SegNo) (d : SegDef) (mm : Nat) : (s.ageItems g d mm).arbiter = s.arbiter :=
  (s.ageItems_keeps g d mm).2.1
@[simp] theorem State.ageItems_pending (g : SegNo) (d : SegDef) (mm : Nat) : (s.ageItems g d mm).pending = s.pending :=
  (s.ageItems_keeps g d mm).2.2
@[simp] theorem State.line_ageItems (g : SegNo) (d : SegDef) (mm : Nat) (j : LineNo) : (s.ageItems g d mm).line j = s.line j := by
  simp only [State.line, State.ageItems_siu]
@[simp] theorem State.segment_ageItems (g : SegNo) (d : SegDef) (mm : Nat) (j : SegNo) : (s.ageItems g d mm).segment j = s.segment j := by
  simp only [State.segment, State.ageItems_smu]
@[simp] theorem State.defn_ageItems (g : SegNo) (d : SegDef) (mm : Nat) (j : SegNo) : (s.ageItems g d mm).defn j = s.defn j := by
  simp only [State.defn, State.segment, State.ageItems_smu]
@[simp] theorem State.run_ageItems (g : SegNo) (d : SegDef) (mm : Nat) (j : SegNo) : (s.ageItems g d mm).run j = s.run j := by
  simp only [State.run, State.segment, State.ageItems_smu]
@[simp] theorem State.member_ageItems (g : SegNo) (d : SegDef) (mm : Nat) (j : MemberNo) : (s.ageItems g d mm).member j = s.member j := by
  simp only [State.member, State.ageItems_wau]
@[simp] theorem State.slot_ageItems (g : SegNo) (d : SegDef) (mm : Nat) (j : SlotNo) : (s.ageItems g d mm).slot j = s.slot j := by
  simp only [State.slot, State.ageItems_spl]

end Sys2Proof.Machine
end

