-- ==== Sys2Proof/Laws/Measurement.lean ====
section
/-! SUPPORT. The frames of the operations of the WAU's accrual and the SMU (01, 02, 04): for each, the blocks it may change, and simp lemmas that read every
other block, and the tables of those blocks, past it. -/

namespace Sys2Proof.Machine

variable (s : State)

theorem State.postAll_keeps (x : Nat) (notes : List (NoticeKind × Nat)) :
    KeepsAllBut [.nq] s (s.postAll x notes) := by
  exact keepsAllBut_foldl (fun s n => by simp [keepsAllBut_iff]) _ _

@[simp] theorem State.postAll_siu (x : Nat) (notes : List (NoticeKind × Nat)) : (s.postAll x notes).siu = s.siu :=
  (s.postAll_keeps x notes).1 .siu (by decide)
@[simp] theorem State.postAll_smu (x : Nat) (notes : List (NoticeKind × Nat)) : (s.postAll x notes).smu = s.smu :=
  (s.postAll_keeps x notes).1 .smu (by decide)
@[simp] theorem State.postAll_itu (x : Nat) (notes : List (NoticeKind × Nat)) : (s.postAll x notes).itu = s.itu :=
  (s.postAll_keeps x notes).1 .itu (by decide)
@[simp] theorem State.postAll_wau (x : Nat) (notes : List (NoticeKind × Nat)) : (s.postAll x notes).wau = s.wau :=
  (s.postAll_keeps x notes).1 .wau (by decide)
@[simp] theorem State.postAll_etm (x : Nat) (notes : List (NoticeKind × Nat)) : (s.postAll x notes).etm = s.etm :=
  (s.postAll_keeps x notes).1 .etm (by decide)
@[simp] theorem State.postAll_spl (x : Nat) (notes : List (NoticeKind × Nat)) : (s.postAll x notes).spl = s.spl :=
  (s.postAll_keeps x notes).1 .spl (by decide)
@[simp] theorem State.postAll_lnk (x : Nat) (notes : List (NoticeKind × Nat)) : (s.postAll x notes).lnk = s.lnk :=
  (s.postAll_keeps x notes).1 .lnk (by decide)
@[simp] theorem State.postAll_rqd (x : Nat) (notes : List (NoticeKind × Nat)) : (s.postAll x notes).rqd = s.rqd :=
  (s.postAll_keeps x notes).1 .rqd (by decide)
@[simp] theorem State.postAll_arbiter (x : Nat) (notes : List (NoticeKind × Nat)) : (s.postAll x notes).arbiter = s.arbiter :=
  (s.postAll_keeps x notes).2.1
@[simp] theorem State.postAll_pending (x : Nat) (notes : List (NoticeKind × Nat)) : (s.postAll x notes).pending = s.pending :=
  (s.postAll_keeps x notes).2.2
@[simp] theorem State.line_postAll (x : Nat) (notes : List (NoticeKind × Nat)) (j : LineNo) : (s.postAll x notes).line j = s.line j := by
  simp only [State.line, State.postAll_siu]
@[simp] theorem State.segment_postAll (x : Nat) (notes : List (NoticeKind × Nat)) (j : SegNo) : (s.postAll x notes).segment j = s.segment j := by
  simp only [State.segment, State.postAll_smu]
@[simp] theorem State.defn_postAll (x : Nat) (notes : List (NoticeKind × Nat)) (j : SegNo) : (s.postAll x notes).defn j = s.defn j := by
  simp only [State.defn, State.segment, State.postAll_smu]
@[simp] theorem State.run_postAll (x : Nat) (notes : List (NoticeKind × Nat)) (j : SegNo) : (s.postAll x notes).run j = s.run j := by
  simp only [State.run, State.segment, State.postAll_smu]
@[simp] theorem State.track_postAll (x : Nat) (notes : List (NoticeKind × Nat)) (j : SegNo) : (s.postAll x notes).track j = s.track j := by
  simp only [State.track, State.postAll_itu]
@[simp] theorem State.member_postAll (x : Nat) (notes : List (NoticeKind × Nat)) (j : MemberNo) : (s.postAll x notes).member j = s.member j := by
  simp only [State.member, State.postAll_wau]
@[simp] theorem State.slot_postAll (x : Nat) (notes : List (NoticeKind × Nat)) (j : SlotNo) : (s.postAll x notes).slot j = s.slot j := by
  simp only [State.slot, State.postAll_spl]

theorem State.accrueMember_keeps (rep : CloseReport) (load : Nat) (n : MemberNo) :
    KeepsAllBut [.wau, .nq] s (State.accrueMember rep load s n) := by
  unfold State.accrueMember; (repeat' split) <;> simp [keepsAllBut_iff]

@[simp] theorem State.accrueMember_siu (rep : CloseReport) (load : Nat) (n : MemberNo) : (State.accrueMember rep load s n).siu = s.siu :=
  (s.accrueMember_keeps rep load n).1 .siu (by decide)
@[simp] theorem State.accrueMember_smu (rep : CloseReport) (load : Nat) (n : MemberNo) : (State.accrueMember rep load s n).smu = s.smu :=
  (s.accrueMember_keeps rep load n).1 .smu (by decide)
@[simp] theorem State.accrueMember_itu (rep : CloseReport) (load : Nat) (n : MemberNo) : (State.accrueMember rep load s n).itu = s.itu :=
  (s.accrueMember_keeps rep load n).1 .itu (by decide)
@[simp] theorem State.accrueMember_etm (rep : CloseReport) (load : Nat) (n : MemberNo) : (State.accrueMember rep load s n).etm = s.etm :=
  (s.accrueMember_keeps rep load n).1 .etm (by decide)
@[simp] theorem State.accrueMember_spl (rep : CloseReport) (load : Nat) (n : MemberNo) : (State.accrueMember rep load s n).spl = s.spl :=
  (s.accrueMember_keeps rep load n).1 .spl (by decide)
@[simp] theorem State.accrueMember_lnk (rep : CloseReport) (load : Nat) (n : MemberNo) : (State.accrueMember rep load s n).lnk = s.lnk :=
  (s.accrueMember_keeps rep load n).1 .lnk (by decide)
@[simp] theorem State.accrueMember_rqd (rep : CloseReport) (load : Nat) (n : MemberNo) : (State.accrueMember rep load s n).rqd = s.rqd :=
  (s.accrueMember_keeps rep load n).1 .rqd (by decide)
@[simp] theorem State.accrueMember_arbiter (rep : CloseReport) (load : Nat) (n : MemberNo) : (State.accrueMember rep load s n).arbiter = s.arbiter :=
  (s.accrueMember_keeps rep load n).2.1
@[simp] theorem State.accrueMember_pending (rep : CloseReport) (load : Nat) (n : MemberNo) : (State.accrueMember rep load s n).pending = s.pending :=
  (s.accrueMember_keeps rep load n).2.2
@[simp] theorem State.line_accrueMember (rep : CloseReport) (load : Nat) (n : MemberNo) (j : LineNo) : (State.accrueMember rep load s n).line j = s.line j := by
  simp only [State.line, State.accrueMember_siu]
@[simp] theorem State.segment_accrueMember (rep : CloseReport) (load : Nat) (n : MemberNo) (j : SegNo) : (State.accrueMember rep load s n).segment j = s.segment j := by
  simp only [State.segment, State.accrueMember_smu]
@[simp] theorem State.defn_accrueMember (rep : CloseReport) (load : Nat) (n : MemberNo) (j : SegNo) : (State.accrueMember rep load s n).defn j = s.defn j := by
  simp only [State.defn, State.segment, State.accrueMember_smu]
@[simp] theorem State.run_accrueMember (rep : CloseReport) (load : Nat) (n : MemberNo) (j : SegNo) : (State.accrueMember rep load s n).run j = s.run j := by
  simp only [State.run, State.segment, State.accrueMember_smu]
@[simp] theorem State.track_accrueMember (rep : CloseReport) (load : Nat) (n : MemberNo) (j : SegNo) : (State.accrueMember rep load s n).track j = s.track j := by
  simp only [State.track, State.accrueMember_itu]
@[simp] theorem State.slot_accrueMember (rep : CloseReport) (load : Nat) (n : MemberNo) (j : SlotNo) : (State.accrueMember rep load s n).slot j = s.slot j := by
  simp only [State.slot, State.accrueMember_spl]

theorem State.accrueAll_keeps (rep : CloseReport) (load : Nat) :
    KeepsAllBut [.wau, .nq] s (s.accrueAll rep load) := by
  exact keepsAllBut_foldl (fun s x => s.accrueMember_keeps rep load x) _ _

@[simp] theorem State.accrueAll_siu (rep : CloseReport) (load : Nat) : (s.accrueAll rep load).siu = s.siu :=
  (s.accrueAll_keeps rep load).1 .siu (by decide)
@[simp] theorem State.accrueAll_smu (rep : CloseReport) (load : Nat) : (s.accrueAll rep load).smu = s.smu :=
  (s.accrueAll_keeps rep load).1 .smu (by decide)
@[simp] theorem State.accrueAll_itu (rep : CloseReport) (load : Nat) : (s.accrueAll rep load).itu = s.itu :=
  (s.accrueAll_keeps rep load).1 .itu (by decide)
@[simp] theorem State.accrueAll_etm (rep : CloseReport) (load : Nat) : (s.accrueAll rep load).etm = s.etm :=
  (s.accrueAll_keeps rep load).1 .etm (by decide)
@[simp] theorem State.accrueAll_spl (rep : CloseReport) (load : Nat) : (s.accrueAll rep load).spl = s.spl :=
  (s.accrueAll_keeps rep load).1 .spl (by decide)
@[simp] theorem State.accrueAll_lnk (rep : CloseReport) (load : Nat) : (s.accrueAll rep load).lnk = s.lnk :=
  (s.accrueAll_keeps rep load).1 .lnk (by decide)
@[simp] theorem State.accrueAll_rqd (rep : CloseReport) (load : Nat) : (s.accrueAll rep load).rqd = s.rqd :=
  (s.accrueAll_keeps rep load).1 .rqd (by decide)
@[simp] theorem State.accrueAll_arbiter (rep : CloseReport) (load : Nat) : (s.accrueAll rep load).arbiter = s.arbiter :=
  (s.accrueAll_keeps rep load).2.1
@[simp] theorem State.accrueAll_pending (rep : CloseReport) (load : Nat) : (s.accrueAll rep load).pending = s.pending :=
  (s.accrueAll_keeps rep load).2.2
@[simp] theorem State.line_accrueAll (rep : CloseReport) (load : Nat) (j : LineNo) : (s.accrueAll rep load).line j = s.line j := by
  simp only [State.line, State.accrueAll_siu]
@[simp] theorem State.segment_accrueAll (rep : CloseReport) (load : Nat) (j : SegNo) : (s.accrueAll rep load).segment j = s.segment j := by
  simp only [State.segment, State.accrueAll_smu]
@[simp] theorem State.defn_accrueAll (rep : CloseReport) (load : Nat) (j : SegNo) : (s.accrueAll rep load).defn j = s.defn j := by
  simp only [State.defn, State.segment, State.accrueAll_smu]
@[simp] theorem State.run_accrueAll (rep : CloseReport) (load : Nat) (j : SegNo) : (s.accrueAll rep load).run j = s.run j := by
  simp only [State.run, State.segment, State.accrueAll_smu]
@[simp] theorem State.track_accrueAll (rep : CloseReport) (load : Nat) (j : SegNo) : (s.accrueAll rep load).track j = s.track j := by
  simp only [State.track, State.accrueAll_itu]
@[simp] theorem State.slot_accrueAll (rep : CloseReport) (load : Nat) (j : SlotNo) : (s.accrueAll rep load).slot j = s.slot j := by
  simp only [State.slot, State.accrueAll_spl]

theorem State.handOn_keeps (g : SegNo) (d : SegDef) (kind : CloseKind) (mm : Nat) :
    KeepsAllBut [.itu, .wau, .nq] s (s.handOn g d kind mm) := by
  unfold State.handOn; simp [keepsAllBut_iff]

@[simp] theorem State.handOn_siu (g : SegNo) (d : SegDef) (kind : CloseKind) (mm : Nat) : (s.handOn g d kind mm).siu = s.siu :=
  (s.handOn_keeps g d kind mm).1 .siu (by decide)
@[simp] theorem State.handOn_smu (g : SegNo) (d : SegDef) (kind : CloseKind) (mm : Nat) : (s.handOn g d kind mm).smu = s.smu :=
  (s.handOn_keeps g d kind mm).1 .smu (by decide)
@[simp] theorem State.handOn_etm (g : SegNo) (d : SegDef) (kind : CloseKind) (mm : Nat) : (s.handOn g d kind mm).etm = s.etm :=
  (s.handOn_keeps g d kind mm).1 .etm (by decide)
@[simp] theorem State.handOn_spl (g : SegNo) (d : SegDef) (kind : CloseKind) (mm : Nat) : (s.handOn g d kind mm).spl = s.spl :=
  (s.handOn_keeps g d kind mm).1 .spl (by decide)
@[simp] theorem State.handOn_lnk (g : SegNo) (d : SegDef) (kind : CloseKind) (mm : Nat) : (s.handOn g d kind mm).lnk = s.lnk :=
  (s.handOn_keeps g d kind mm).1 .lnk (by decide)
@[simp] theorem State.handOn_rqd (g : SegNo) (d : SegDef) (kind : CloseKind) (mm : Nat) : (s.handOn g d kind mm).rqd = s.rqd :=
  (s.handOn_keeps g d kind mm).1 .rqd (by decide)
@[simp] theorem State.handOn_arbiter (g : SegNo) (d : SegDef) (kind : CloseKind) (mm : Nat) : (s.handOn g d kind mm).arbiter = s.arbiter :=
  (s.handOn_keeps g d kind mm).2.1
@[simp] theorem State.handOn_pending (g : SegNo) (d : SegDef) (kind : CloseKind) (mm : Nat) : (s.handOn g d kind mm).pending = s.pending :=
  (s.handOn_keeps g d kind mm).2.2
@[simp] theorem State.line_handOn (g : SegNo) (d : SegDef) (kind : CloseKind) (mm : Nat) (j : LineNo) : (s.handOn g d kind mm).line j = s.line j := by
  simp only [State.line, State.handOn_siu]
@[simp] theorem State.segment_handOn (g : SegNo) (d : SegDef) (kind : CloseKind) (mm : Nat) (j : SegNo) : (s.handOn g d kind mm).segment j = s.segment j := by
  simp only [State.segment, State.handOn_smu]
@[simp] theorem State.defn_handOn (g : SegNo) (d : SegDef) (kind : CloseKind) (mm : Nat) (j : SegNo) : (s.handOn g d kind mm).defn j = s.defn j := by
  simp only [State.defn, State.segment, State.handOn_smu]
@[simp] theorem State.run_handOn (g : SegNo) (d : SegDef) (kind : CloseKind) (mm : Nat) (j : SegNo) : (s.handOn g d kind mm).run j = s.run j := by
  simp only [State.run, State.segment, State.handOn_smu]
@[simp] theorem State.slot_handOn (g : SegNo) (d : SegDef) (kind : CloseKind) (mm : Nat) (j : SlotNo) : (s.handOn g d kind mm).slot j = s.slot j := by
  simp only [State.slot, State.handOn_spl]

theorem State.reckon_keeps (g : SegNo) (d : SegDef) (ms : Nat) :
    KeepsAllBut [.smu, .itu, .wau, .nq] s (s.reckon g d ms) := by
  unfold State.reckon; simp [keepsAllBut_iff]

@[simp] theorem State.reckon_siu (g : SegNo) (d : SegDef) (ms : Nat) : (s.reckon g d ms).siu = s.siu :=
  (s.reckon_keeps g d ms).1 .siu (by decide)
@[simp] theorem State.reckon_etm (g : SegNo) (d : SegDef) (ms : Nat) : (s.reckon g d ms).etm = s.etm :=
  (s.reckon_keeps g d ms).1 .etm (by decide)
@[simp] theorem State.reckon_spl (g : SegNo) (d : SegDef) (ms : Nat) : (s.reckon g d ms).spl = s.spl :=
  (s.reckon_keeps g d ms).1 .spl (by decide)
@[simp] theorem State.reckon_lnk (g : SegNo) (d : SegDef) (ms : Nat) : (s.reckon g d ms).lnk = s.lnk :=
  (s.reckon_keeps g d ms).1 .lnk (by decide)
@[simp] theorem State.reckon_rqd (g : SegNo) (d : SegDef) (ms : Nat) : (s.reckon g d ms).rqd = s.rqd :=
  (s.reckon_keeps g d ms).1 .rqd (by decide)
@[simp] theorem State.reckon_arbiter (g : SegNo) (d : SegDef) (ms : Nat) : (s.reckon g d ms).arbiter = s.arbiter :=
  (s.reckon_keeps g d ms).2.1
@[simp] theorem State.reckon_pending (g : SegNo) (d : SegDef) (ms : Nat) : (s.reckon g d ms).pending = s.pending :=
  (s.reckon_keeps g d ms).2.2
@[simp] theorem State.line_reckon (g : SegNo) (d : SegDef) (ms : Nat) (j : LineNo) : (s.reckon g d ms).line j = s.line j := by
  simp only [State.line, State.reckon_siu]
@[simp] theorem State.slot_reckon (g : SegNo) (d : SegDef) (ms : Nat) (j : SlotNo) : (s.reckon g d ms).slot j = s.slot j := by
  simp only [State.slot, State.reckon_spl]

theorem State.reckonPart_keeps (g : SegNo) (d : SegDef) (tick : Tick) :
    KeepsAllBut [.smu, .itu, .wau, .nq] s (s.reckonPart g d tick) := by
  unfold State.reckonPart; dsimp only
  (repeat' split) <;> simp [keepsAllBut_iff]

@[simp] theorem State.reckonPart_siu (g : SegNo) (d : SegDef) (tick : Tick) : (s.reckonPart g d tick).siu = s.siu :=
  (s.reckonPart_keeps g d tick).1 .siu (by decide)
@[simp] theorem State.reckonPart_etm (g : SegNo) (d : SegDef) (tick : Tick) : (s.reckonPart g d tick).etm = s.etm :=
  (s.reckonPart_keeps g d tick).1 .etm (by decide)
@[simp] theorem State.reckonPart_spl (g : SegNo) (d : SegDef) (tick : Tick) : (s.reckonPart g d tick).spl = s.spl :=
  (s.reckonPart_keeps g d tick).1 .spl (by decide)
@[simp] theorem State.reckonPart_lnk (g : SegNo) (d : SegDef) (tick : Tick) : (s.reckonPart g d tick).lnk = s.lnk :=
  (s.reckonPart_keeps g d tick).1 .lnk (by decide)
@[simp] theorem State.reckonPart_rqd (g : SegNo) (d : SegDef) (tick : Tick) : (s.reckonPart g d tick).rqd = s.rqd :=
  (s.reckonPart_keeps g d tick).1 .rqd (by decide)
@[simp] theorem State.reckonPart_arbiter (g : SegNo) (d : SegDef) (tick : Tick) : (s.reckonPart g d tick).arbiter = s.arbiter :=
  (s.reckonPart_keeps g d tick).2.1
@[simp] theorem State.reckonPart_pending (g : SegNo) (d : SegDef) (tick : Tick) : (s.reckonPart g d tick).pending = s.pending :=
  (s.reckonPart_keeps g d tick).2.2
@[simp] theorem State.line_reckonPart (g : SegNo) (d : SegDef) (tick : Tick) (j : LineNo) : (s.reckonPart g d tick).line j = s.line j := by
  simp only [State.line, State.reckonPart_siu]
@[simp] theorem State.slot_reckonPart (g : SegNo) (d : SegDef) (tick : Tick) (j : SlotNo) : (s.reckonPart g d tick).slot j = s.slot j := by
  simp only [State.slot, State.reckonPart_spl]

theorem State.partialClose_keeps (g : SegNo) (d : SegDef) (w : MeasWindow) :
    KeepsAllBut [.smu, .itu, .wau, .nq] s (s.partialClose g d w) := by
  unfold State.partialClose; simp [keepsAllBut_iff]

@[simp] theorem State.partialClose_siu (g : SegNo) (d : SegDef) (w : MeasWindow) : (s.partialClose g d w).siu = s.siu :=
  (s.partialClose_keeps g d w).1 .siu (by decide)
@[simp] theorem State.partialClose_etm (g : SegNo) (d : SegDef) (w : MeasWindow) : (s.partialClose g d w).etm = s.etm :=
  (s.partialClose_keeps g d w).1 .etm (by decide)
@[simp] theorem State.partialClose_spl (g : SegNo) (d : SegDef) (w : MeasWindow) : (s.partialClose g d w).spl = s.spl :=
  (s.partialClose_keeps g d w).1 .spl (by decide)
@[simp] theorem State.partialClose_lnk (g : SegNo) (d : SegDef) (w : MeasWindow) : (s.partialClose g d w).lnk = s.lnk :=
  (s.partialClose_keeps g d w).1 .lnk (by decide)
@[simp] theorem State.partialClose_rqd (g : SegNo) (d : SegDef) (w : MeasWindow) : (s.partialClose g d w).rqd = s.rqd :=
  (s.partialClose_keeps g d w).1 .rqd (by decide)
@[simp] theorem State.partialClose_arbiter (g : SegNo) (d : SegDef) (w : MeasWindow) : (s.partialClose g d w).arbiter = s.arbiter :=
  (s.partialClose_keeps g d w).2.1
@[simp] theorem State.partialClose_pending (g : SegNo) (d : SegDef) (w : MeasWindow) : (s.partialClose g d w).pending = s.pending :=
  (s.partialClose_keeps g d w).2.2
@[simp] theorem State.line_partialClose (g : SegNo) (d : SegDef) (w : MeasWindow) (j : LineNo) : (s.partialClose g d w).line j = s.line j := by
  simp only [State.line, State.partialClose_siu]
@[simp] theorem State.slot_partialClose (g : SegNo) (d : SegDef) (w : MeasWindow) (j : SlotNo) : (s.partialClose g d w).slot j = s.slot j := by
  simp only [State.slot, State.partialClose_spl]

theorem State.abandonWindow_keeps (g : SegNo) :
    KeepsAllBut [.smu] s (s.abandonWindow g) := by
  unfold State.abandonWindow; simp [keepsAllBut_iff]

@[simp] theorem State.abandonWindow_siu (g : SegNo) : (s.abandonWindow g).siu = s.siu :=
  (s.abandonWindow_keeps g).1 .siu (by decide)
@[simp] theorem State.abandonWindow_itu (g : SegNo) : (s.abandonWindow g).itu = s.itu :=
  (s.abandonWindow_keeps g).1 .itu (by decide)
@[simp] theorem State.abandonWindow_wau (g : SegNo) : (s.abandonWindow g).wau = s.wau :=
  (s.abandonWindow_keeps g).1 .wau (by decide)
@[simp] theorem State.abandonWindow_etm (g : SegNo) : (s.abandonWindow g).etm = s.etm :=
  (s.abandonWindow_keeps g).1 .etm (by decide)
@[simp] theorem State.abandonWindow_spl (g : SegNo) : (s.abandonWindow g).spl = s.spl :=
  (s.abandonWindow_keeps g).1 .spl (by decide)
@[simp] theorem State.abandonWindow_nq (g : SegNo) : (s.abandonWindow g).nq = s.nq :=
  (s.abandonWindow_keeps g).1 .nq (by decide)
@[simp] theorem State.abandonWindow_lnk (g : SegNo) : (s.abandonWindow g).lnk = s.lnk :=
  (s.abandonWindow_keeps g).1 .lnk (by decide)
@[simp] theorem State.abandonWindow_rqd (g : SegNo) : (s.abandonWindow g).rqd = s.rqd :=
  (s.abandonWindow_keeps g).1 .rqd (by decide)
@[simp] theorem State.abandonWindow_arbiter (g : SegNo) : (s.abandonWindow g).arbiter = s.arbiter :=
  (s.abandonWindow_keeps g).2.1
@[simp] theorem State.abandonWindow_pending (g : SegNo) : (s.abandonWindow g).pending = s.pending :=
  (s.abandonWindow_keeps g).2.2
@[simp] theorem State.line_abandonWindow (g : SegNo) (j : LineNo) : (s.abandonWindow g).line j = s.line j := by
  simp only [State.line, State.abandonWindow_siu]
@[simp] theorem State.track_abandonWindow (g : SegNo) (j : SegNo) : (s.abandonWindow g).track j = s.track j := by
  simp only [State.track, State.abandonWindow_itu]
@[simp] theorem State.member_abandonWindow (g : SegNo) (j : MemberNo) : (s.abandonWindow g).member j = s.member j := by
  simp only [State.member, State.abandonWindow_wau]
@[simp] theorem State.slot_abandonWindow (g : SegNo) (j : SlotNo) : (s.abandonWindow g).slot j = s.slot j := by
  simp only [State.slot, State.abandonWindow_spl]

theorem State.openWindow_keeps (g : SegNo) (tick : Tick) :
    KeepsAllBut [.smu] s (s.openWindow g tick) := by
  unfold State.openWindow; simp [keepsAllBut_iff]

@[simp] theorem State.openWindow_siu (g : SegNo) (tick : Tick) : (s.openWindow g tick).siu = s.siu :=
  (s.openWindow_keeps g tick).1 .siu (by decide)
@[simp] theorem State.openWindow_itu (g : SegNo) (tick : Tick) : (s.openWindow g tick).itu = s.itu :=
  (s.openWindow_keeps g tick).1 .itu (by decide)
@[simp] theorem State.openWindow_wau (g : SegNo) (tick : Tick) : (s.openWindow g tick).wau = s.wau :=
  (s.openWindow_keeps g tick).1 .wau (by decide)
@[simp] theorem State.openWindow_etm (g : SegNo) (tick : Tick) : (s.openWindow g tick).etm = s.etm :=
  (s.openWindow_keeps g tick).1 .etm (by decide)
@[simp] theorem State.openWindow_spl (g : SegNo) (tick : Tick) : (s.openWindow g tick).spl = s.spl :=
  (s.openWindow_keeps g tick).1 .spl (by decide)
@[simp] theorem State.openWindow_nq (g : SegNo) (tick : Tick) : (s.openWindow g tick).nq = s.nq :=
  (s.openWindow_keeps g tick).1 .nq (by decide)
@[simp] theorem State.openWindow_lnk (g : SegNo) (tick : Tick) : (s.openWindow g tick).lnk = s.lnk :=
  (s.openWindow_keeps g tick).1 .lnk (by decide)
@[simp] theorem State.openWindow_rqd (g : SegNo) (tick : Tick) : (s.openWindow g tick).rqd = s.rqd :=
  (s.openWindow_keeps g tick).1 .rqd (by decide)
@[simp] theorem State.openWindow_arbiter (g : SegNo) (tick : Tick) : (s.openWindow g tick).arbiter = s.arbiter :=
  (s.openWindow_keeps g tick).2.1
@[simp] theorem State.openWindow_pending (g : SegNo) (tick : Tick) : (s.openWindow g tick).pending = s.pending :=
  (s.openWindow_keeps g tick).2.2
@[simp] theorem State.line_openWindow (g : SegNo) (tick : Tick) (j : LineNo) : (s.openWindow g tick).line j = s.line j := by
  simp only [State.line, State.openWindow_siu]
@[simp] theorem State.track_openWindow (g : SegNo) (tick : Tick) (j : SegNo) : (s.openWindow g tick).track j = s.track j := by
  simp only [State.track, State.openWindow_itu]
@[simp] theorem State.member_openWindow (g : SegNo) (tick : Tick) (j : MemberNo) : (s.openWindow g tick).member j = s.member j := by
  simp only [State.member, State.openWindow_wau]
@[simp] theorem State.slot_openWindow (g : SegNo) (tick : Tick) (j : SlotNo) : (s.openWindow g tick).slot j = s.slot j := by
  simp only [State.slot, State.openWindow_spl]

theorem State.idlerPulse_keeps (g : SegNo) :
    KeepsAllBut [.smu] s (s.idlerPulse g) := by
  unfold State.idlerPulse; dsimp only
  (repeat' split) <;> simp [keepsAllBut_iff]

@[simp] theorem State.idlerPulse_siu (g : SegNo) : (s.idlerPulse g).siu = s.siu :=
  (s.idlerPulse_keeps g).1 .siu (by decide)
@[simp] theorem State.idlerPulse_itu (g : SegNo) : (s.idlerPulse g).itu = s.itu :=
  (s.idlerPulse_keeps g).1 .itu (by decide)
@[simp] theorem State.idlerPulse_wau (g : SegNo) : (s.idlerPulse g).wau = s.wau :=
  (s.idlerPulse_keeps g).1 .wau (by decide)
@[simp] theorem State.idlerPulse_etm (g : SegNo) : (s.idlerPulse g).etm = s.etm :=
  (s.idlerPulse_keeps g).1 .etm (by decide)
@[simp] theorem State.idlerPulse_spl (g : SegNo) : (s.idlerPulse g).spl = s.spl :=
  (s.idlerPulse_keeps g).1 .spl (by decide)
@[simp] theorem State.idlerPulse_nq (g : SegNo) : (s.idlerPulse g).nq = s.nq :=
  (s.idlerPulse_keeps g).1 .nq (by decide)
@[simp] theorem State.idlerPulse_lnk (g : SegNo) : (s.idlerPulse g).lnk = s.lnk :=
  (s.idlerPulse_keeps g).1 .lnk (by decide)
@[simp] theorem State.idlerPulse_rqd (g : SegNo) : (s.idlerPulse g).rqd = s.rqd :=
  (s.idlerPulse_keeps g).1 .rqd (by decide)
@[simp] theorem State.idlerPulse_arbiter (g : SegNo) : (s.idlerPulse g).arbiter = s.arbiter :=
  (s.idlerPulse_keeps g).2.1
@[simp] theorem State.idlerPulse_pending (g : SegNo) : (s.idlerPulse g).pending = s.pending :=
  (s.idlerPulse_keeps g).2.2
@[simp] theorem State.line_idlerPulse (g : SegNo) (j : LineNo) : (s.idlerPulse g).line j = s.line j := by
  simp only [State.line, State.idlerPulse_siu]
@[simp] theorem State.track_idlerPulse (g : SegNo) (j : SegNo) : (s.idlerPulse g).track j = s.track j := by
  simp only [State.track, State.idlerPulse_itu]
@[simp] theorem State.member_idlerPulse (g : SegNo) (j : MemberNo) : (s.idlerPulse g).member j = s.member j := by
  simp only [State.member, State.idlerPulse_wau]
@[simp] theorem State.slot_idlerPulse (g : SegNo) (j : SlotNo) : (s.idlerPulse g).slot j = s.slot j := by
  simp only [State.slot, State.idlerPulse_spl]

theorem State.enter_keeps (g : SegNo) (st : Supervision) (tick : Tick) :
    KeepsAllBut [.smu] s (s.enter g st tick) := by
  unfold State.enter; simp [keepsAllBut_iff]

@[simp] theorem State.enter_siu (g : SegNo) (st : Supervision) (tick : Tick) : (s.enter g st tick).siu = s.siu :=
  (s.enter_keeps g st tick).1 .siu (by decide)
@[simp] theorem State.enter_itu (g : SegNo) (st : Supervision) (tick : Tick) : (s.enter g st tick).itu = s.itu :=
  (s.enter_keeps g st tick).1 .itu (by decide)
@[simp] theorem State.enter_wau (g : SegNo) (st : Supervision) (tick : Tick) : (s.enter g st tick).wau = s.wau :=
  (s.enter_keeps g st tick).1 .wau (by decide)
@[simp] theorem State.enter_etm (g : SegNo) (st : Supervision) (tick : Tick) : (s.enter g st tick).etm = s.etm :=
  (s.enter_keeps g st tick).1 .etm (by decide)
@[simp] theorem State.enter_spl (g : SegNo) (st : Supervision) (tick : Tick) : (s.enter g st tick).spl = s.spl :=
  (s.enter_keeps g st tick).1 .spl (by decide)
@[simp] theorem State.enter_nq (g : SegNo) (st : Supervision) (tick : Tick) : (s.enter g st tick).nq = s.nq :=
  (s.enter_keeps g st tick).1 .nq (by decide)
@[simp] theorem State.enter_lnk (g : SegNo) (st : Supervision) (tick : Tick) : (s.enter g st tick).lnk = s.lnk :=
  (s.enter_keeps g st tick).1 .lnk (by decide)
@[simp] theorem State.enter_rqd (g : SegNo) (st : Supervision) (tick : Tick) : (s.enter g st tick).rqd = s.rqd :=
  (s.enter_keeps g st tick).1 .rqd (by decide)
@[simp] theorem State.enter_arbiter (g : SegNo) (st : Supervision) (tick : Tick) : (s.enter g st tick).arbiter = s.arbiter :=
  (s.enter_keeps g st tick).2.1
@[simp] theorem State.enter_pending (g : SegNo) (st : Supervision) (tick : Tick) : (s.enter g st tick).pending = s.pending :=
  (s.enter_keeps g st tick).2.2
@[simp] theorem State.line_enter (g : SegNo) (st : Supervision) (tick : Tick) (j : LineNo) : (s.enter g st tick).line j = s.line j := by
  simp only [State.line, State.enter_siu]
@[simp] theorem State.track_enter (g : SegNo) (st : Supervision) (tick : Tick) (j : SegNo) : (s.enter g st tick).track j = s.track j := by
  simp only [State.track, State.enter_itu]
@[simp] theorem State.member_enter (g : SegNo) (st : Supervision) (tick : Tick) (j : MemberNo) : (s.enter g st tick).member j = s.member j := by
  simp only [State.member, State.enter_wau]
@[simp] theorem State.slot_enter (g : SegNo) (st : Supervision) (tick : Tick) (j : SlotNo) : (s.enter g st tick).slot j = s.slot j := by
  simp only [State.slot, State.enter_spl]

theorem State.afterFullClose_keeps (g : SegNo) (d : SegDef) (idler : Nat) :
    KeepsAllBut [.smu, .nq] s (s.afterFullClose g d idler) := by
  unfold State.afterFullClose; dsimp only
  (repeat' split) <;> simp [keepsAllBut_iff]

@[simp] theorem State.afterFullClose_siu (g : SegNo) (d : SegDef) (idler : Nat) : (s.afterFullClose g d idler).siu = s.siu :=
  (s.afterFullClose_keeps g d idler).1 .siu (by decide)
@[simp] theorem State.afterFullClose_itu (g : SegNo) (d : SegDef) (idler : Nat) : (s.afterFullClose g d idler).itu = s.itu :=
  (s.afterFullClose_keeps g d idler).1 .itu (by decide)
@[simp] theorem State.afterFullClose_wau (g : SegNo) (d : SegDef) (idler : Nat) : (s.afterFullClose g d idler).wau = s.wau :=
  (s.afterFullClose_keeps g d idler).1 .wau (by decide)
@[simp] theorem State.afterFullClose_etm (g : SegNo) (d : SegDef) (idler : Nat) : (s.afterFullClose g d idler).etm = s.etm :=
  (s.afterFullClose_keeps g d idler).1 .etm (by decide)
@[simp] theorem State.afterFullClose_spl (g : SegNo) (d : SegDef) (idler : Nat) : (s.afterFullClose g d idler).spl = s.spl :=
  (s.afterFullClose_keeps g d idler).1 .spl (by decide)
@[simp] theorem State.afterFullClose_lnk (g : SegNo) (d : SegDef) (idler : Nat) : (s.afterFullClose g d idler).lnk = s.lnk :=
  (s.afterFullClose_keeps g d idler).1 .lnk (by decide)
@[simp] theorem State.afterFullClose_rqd (g : SegNo) (d : SegDef) (idler : Nat) : (s.afterFullClose g d idler).rqd = s.rqd :=
  (s.afterFullClose_keeps g d idler).1 .rqd (by decide)
@[simp] theorem State.afterFullClose_arbiter (g : SegNo) (d : SegDef) (idler : Nat) : (s.afterFullClose g d idler).arbiter = s.arbiter :=
  (s.afterFullClose_keeps g d idler).2.1
@[simp] theorem State.afterFullClose_pending (g : SegNo) (d : SegDef) (idler : Nat) : (s.afterFullClose g d idler).pending = s.pending :=
  (s.afterFullClose_keeps g d idler).2.2
@[simp] theorem State.line_afterFullClose (g : SegNo) (d : SegDef) (idler : Nat) (j : LineNo) : (s.afterFullClose g d idler).line j = s.line j := by
  simp only [State.line, State.afterFullClose_siu]
@[simp] theorem State.track_afterFullClose (g : SegNo) (d : SegDef) (idler : Nat) (j : SegNo) : (s.afterFullClose g d idler).track j = s.track j := by
  simp only [State.track, State.afterFullClose_itu]
@[simp] theorem State.member_afterFullClose (g : SegNo) (d : SegDef) (idler : Nat) (j : MemberNo) : (s.afterFullClose g d idler).member j = s.member j := by
  simp only [State.member, State.afterFullClose_wau]
@[simp] theorem State.slot_afterFullClose (g : SegNo) (d : SegDef) (idler : Nat) (j : SlotNo) : (s.afterFullClose g d idler).slot j = s.slot j := by
  simp only [State.slot, State.afterFullClose_spl]

theorem State.countPulse_keeps (g : SegNo) (d : SegDef) (w : MeasWindow) :
    KeepsAllBut [.smu, .itu, .wau, .nq] s (s.countPulse g d w) := by
  unfold State.countPulse; dsimp only
  (repeat' split) <;> simp [keepsAllBut_iff]

@[simp] theorem State.countPulse_siu (g : SegNo) (d : SegDef) (w : MeasWindow) : (s.countPulse g d w).siu = s.siu :=
  (s.countPulse_keeps g d w).1 .siu (by decide)
@[simp] theorem State.countPulse_etm (g : SegNo) (d : SegDef) (w : MeasWindow) : (s.countPulse g d w).etm = s.etm :=
  (s.countPulse_keeps g d w).1 .etm (by decide)
@[simp] theorem State.countPulse_spl (g : SegNo) (d : SegDef) (w : MeasWindow) : (s.countPulse g d w).spl = s.spl :=
  (s.countPulse_keeps g d w).1 .spl (by decide)
@[simp] theorem State.countPulse_lnk (g : SegNo) (d : SegDef) (w : MeasWindow) : (s.countPulse g d w).lnk = s.lnk :=
  (s.countPulse_keeps g d w).1 .lnk (by decide)
@[simp] theorem State.countPulse_rqd (g : SegNo) (d : SegDef) (w : MeasWindow) : (s.countPulse g d w).rqd = s.rqd :=
  (s.countPulse_keeps g d w).1 .rqd (by decide)
@[simp] theorem State.countPulse_arbiter (g : SegNo) (d : SegDef) (w : MeasWindow) : (s.countPulse g d w).arbiter = s.arbiter :=
  (s.countPulse_keeps g d w).2.1
@[simp] theorem State.countPulse_pending (g : SegNo) (d : SegDef) (w : MeasWindow) : (s.countPulse g d w).pending = s.pending :=
  (s.countPulse_keeps g d w).2.2
@[simp] theorem State.line_countPulse (g : SegNo) (d : SegDef) (w : MeasWindow) (j : LineNo) : (s.countPulse g d w).line j = s.line j := by
  simp only [State.line, State.countPulse_siu]
@[simp] theorem State.slot_countPulse (g : SegNo) (d : SegDef) (w : MeasWindow) (j : SlotNo) : (s.countPulse g d w).slot j = s.slot j := by
  simp only [State.slot, State.countPulse_spl]

theorem State.drivePulse_keeps (g : SegNo) (d : SegDef) :
    KeepsAllBut [.smu, .itu, .wau, .nq] s (s.drivePulse g d) := by
  unfold State.drivePulse; dsimp only
  (repeat' split) <;> simp [keepsAllBut_iff]

@[simp] theorem State.drivePulse_siu (g : SegNo) (d : SegDef) : (s.drivePulse g d).siu = s.siu :=
  (s.drivePulse_keeps g d).1 .siu (by decide)
@[simp] theorem State.drivePulse_etm (g : SegNo) (d : SegDef) : (s.drivePulse g d).etm = s.etm :=
  (s.drivePulse_keeps g d).1 .etm (by decide)
@[simp] theorem State.drivePulse_spl (g : SegNo) (d : SegDef) : (s.drivePulse g d).spl = s.spl :=
  (s.drivePulse_keeps g d).1 .spl (by decide)
@[simp] theorem State.drivePulse_lnk (g : SegNo) (d : SegDef) : (s.drivePulse g d).lnk = s.lnk :=
  (s.drivePulse_keeps g d).1 .lnk (by decide)
@[simp] theorem State.drivePulse_rqd (g : SegNo) (d : SegDef) : (s.drivePulse g d).rqd = s.rqd :=
  (s.drivePulse_keeps g d).1 .rqd (by decide)
@[simp] theorem State.drivePulse_arbiter (g : SegNo) (d : SegDef) : (s.drivePulse g d).arbiter = s.arbiter :=
  (s.drivePulse_keeps g d).2.1
@[simp] theorem State.drivePulse_pending (g : SegNo) (d : SegDef) : (s.drivePulse g d).pending = s.pending :=
  (s.drivePulse_keeps g d).2.2
@[simp] theorem State.line_drivePulse (g : SegNo) (d : SegDef) (j : LineNo) : (s.drivePulse g d).line j = s.line j := by
  simp only [State.line, State.drivePulse_siu]
@[simp] theorem State.slot_drivePulse (g : SegNo) (d : SegDef) (j : SlotNo) : (s.drivePulse g d).slot j = s.slot j := by
  simp only [State.slot, State.drivePulse_spl]

theorem State.checkLossLimit_keeps (g : SegNo) (d : SegDef) :
    KeepsAllBut [.smu, .nq] s (s.checkLossLimit g d) := by
  unfold State.checkLossLimit; dsimp only
  (repeat' split) <;> simp [keepsAllBut_iff]

@[simp] theorem State.checkLossLimit_siu (g : SegNo) (d : SegDef) : (s.checkLossLimit g d).siu = s.siu :=
  (s.checkLossLimit_keeps g d).1 .siu (by decide)
@[simp] theorem State.checkLossLimit_itu (g : SegNo) (d : SegDef) : (s.checkLossLimit g d).itu = s.itu :=
  (s.checkLossLimit_keeps g d).1 .itu (by decide)
@[simp] theorem State.checkLossLimit_wau (g : SegNo) (d : SegDef) : (s.checkLossLimit g d).wau = s.wau :=
  (s.checkLossLimit_keeps g d).1 .wau (by decide)
@[simp] theorem State.checkLossLimit_etm (g : SegNo) (d : SegDef) : (s.checkLossLimit g d).etm = s.etm :=
  (s.checkLossLimit_keeps g d).1 .etm (by decide)
@[simp] theorem State.checkLossLimit_spl (g : SegNo) (d : SegDef) : (s.checkLossLimit g d).spl = s.spl :=
  (s.checkLossLimit_keeps g d).1 .spl (by decide)
@[simp] theorem State.checkLossLimit_lnk (g : SegNo) (d : SegDef) : (s.checkLossLimit g d).lnk = s.lnk :=
  (s.checkLossLimit_keeps g d).1 .lnk (by decide)
@[simp] theorem State.checkLossLimit_rqd (g : SegNo) (d : SegDef) : (s.checkLossLimit g d).rqd = s.rqd :=
  (s.checkLossLimit_keeps g d).1 .rqd (by decide)
@[simp] theorem State.checkLossLimit_arbiter (g : SegNo) (d : SegDef) : (s.checkLossLimit g d).arbiter = s.arbiter :=
  (s.checkLossLimit_keeps g d).2.1
@[simp] theorem State.checkLossLimit_pending (g : SegNo) (d : SegDef) : (s.checkLossLimit g d).pending = s.pending :=
  (s.checkLossLimit_keeps g d).2.2
@[simp] theorem State.line_checkLossLimit (g : SegNo) (d : SegDef) (j : LineNo) : (s.checkLossLimit g d).line j = s.line j := by
  simp only [State.line, State.checkLossLimit_siu]
@[simp] theorem State.track_checkLossLimit (g : SegNo) (d : SegDef) (j : SegNo) : (s.checkLossLimit g d).track j = s.track j := by
  simp only [State.track, State.checkLossLimit_itu]
@[simp] theorem State.member_checkLossLimit (g : SegNo) (d : SegDef) (j : MemberNo) : (s.checkLossLimit g d).member j = s.member j := by
  simp only [State.member, State.checkLossLimit_wau]
@[simp] theorem State.slot_checkLossLimit (g : SegNo) (d : SegDef) (j : SlotNo) : (s.checkLossLimit g d).slot j = s.slot j := by
  simp only [State.slot, State.checkLossLimit_spl]

theorem State.fullInterval_keeps (g : SegNo) (d : SegDef) (n : Nat) :
    KeepsAllBut [.smu, .itu, .wau, .nq] s (s.fullInterval g d n) := by
  unfold State.fullInterval; simp [keepsAllBut_iff]

@[simp] theorem State.fullInterval_siu (g : SegNo) (d : SegDef) (n : Nat) : (s.fullInterval g d n).siu = s.siu :=
  (s.fullInterval_keeps g d n).1 .siu (by decide)
@[simp] theorem State.fullInterval_etm (g : SegNo) (d : SegDef) (n : Nat) : (s.fullInterval g d n).etm = s.etm :=
  (s.fullInterval_keeps g d n).1 .etm (by decide)
@[simp] theorem State.fullInterval_spl (g : SegNo) (d : SegDef) (n : Nat) : (s.fullInterval g d n).spl = s.spl :=
  (s.fullInterval_keeps g d n).1 .spl (by decide)
@[simp] theorem State.fullInterval_lnk (g : SegNo) (d : SegDef) (n : Nat) : (s.fullInterval g d n).lnk = s.lnk :=
  (s.fullInterval_keeps g d n).1 .lnk (by decide)
@[simp] theorem State.fullInterval_rqd (g : SegNo) (d : SegDef) (n : Nat) : (s.fullInterval g d n).rqd = s.rqd :=
  (s.fullInterval_keeps g d n).1 .rqd (by decide)
@[simp] theorem State.fullInterval_arbiter (g : SegNo) (d : SegDef) (n : Nat) : (s.fullInterval g d n).arbiter = s.arbiter :=
  (s.fullInterval_keeps g d n).2.1
@[simp] theorem State.fullInterval_pending (g : SegNo) (d : SegDef) (n : Nat) : (s.fullInterval g d n).pending = s.pending :=
  (s.fullInterval_keeps g d n).2.2
@[simp] theorem State.line_fullInterval (g : SegNo) (d : SegDef) (n : Nat) (j : LineNo) : (s.fullInterval g d n).line j = s.line j := by
  simp only [State.line, State.fullInterval_siu]
@[simp] theorem State.slot_fullInterval (g : SegNo) (d : SegDef) (n : Nat) (j : SlotNo) : (s.fullInterval g d n).slot j = s.slot j := by
  simp only [State.slot, State.fullInterval_spl]

theorem State.emptyExpiry_keeps (g : SegNo) (d : SegDef) :
    KeepsAllBut [.smu, .itu, .wau, .nq] s (s.emptyExpiry g d) := by
  unfold State.emptyExpiry; dsimp only
  (repeat' split) <;> simp [keepsAllBut_iff]

@[simp] theorem State.emptyExpiry_siu (g : SegNo) (d : SegDef) : (s.emptyExpiry g d).siu = s.siu :=
  (s.emptyExpiry_keeps g d).1 .siu (by decide)
@[simp] theorem State.emptyExpiry_etm (g : SegNo) (d : SegDef) : (s.emptyExpiry g d).etm = s.etm :=
  (s.emptyExpiry_keeps g d).1 .etm (by decide)
@[simp] theorem State.emptyExpiry_spl (g : SegNo) (d : SegDef) : (s.emptyExpiry g d).spl = s.spl :=
  (s.emptyExpiry_keeps g d).1 .spl (by decide)
@[simp] theorem State.emptyExpiry_lnk (g : SegNo) (d : SegDef) : (s.emptyExpiry g d).lnk = s.lnk :=
  (s.emptyExpiry_keeps g d).1 .lnk (by decide)
@[simp] theorem State.emptyExpiry_rqd (g : SegNo) (d : SegDef) : (s.emptyExpiry g d).rqd = s.rqd :=
  (s.emptyExpiry_keeps g d).1 .rqd (by decide)
@[simp] theorem State.emptyExpiry_arbiter (g : SegNo) (d : SegDef) : (s.emptyExpiry g d).arbiter = s.arbiter :=
  (s.emptyExpiry_keeps g d).2.1
@[simp] theorem State.emptyExpiry_pending (g : SegNo) (d : SegDef) : (s.emptyExpiry g d).pending = s.pending :=
  (s.emptyExpiry_keeps g d).2.2
@[simp] theorem State.line_emptyExpiry (g : SegNo) (d : SegDef) (j : LineNo) : (s.emptyExpiry g d).line j = s.line j := by
  simp only [State.line, State.emptyExpiry_siu]
@[simp] theorem State.slot_emptyExpiry (g : SegNo) (d : SegDef) (j : SlotNo) : (s.emptyExpiry g d).slot j = s.slot j := by
  simp only [State.slot, State.emptyExpiry_spl]

theorem State.expire_keeps (g : SegNo) (d : SegDef) :
    KeepsAllBut [.smu, .itu, .wau, .nq] s (s.expire g d) := by
  unfold State.expire; dsimp only
  (repeat' split) <;> simp [keepsAllBut_iff]

@[simp] theorem State.expire_siu (g : SegNo) (d : SegDef) : (s.expire g d).siu = s.siu :=
  (s.expire_keeps g d).1 .siu (by decide)
@[simp] theorem State.expire_etm (g : SegNo) (d : SegDef) : (s.expire g d).etm = s.etm :=
  (s.expire_keeps g d).1 .etm (by decide)
@[simp] theorem State.expire_spl (g : SegNo) (d : SegDef) : (s.expire g d).spl = s.spl :=
  (s.expire_keeps g d).1 .spl (by decide)
@[simp] theorem State.expire_lnk (g : SegNo) (d : SegDef) : (s.expire g d).lnk = s.lnk :=
  (s.expire_keeps g d).1 .lnk (by decide)
@[simp] theorem State.expire_rqd (g : SegNo) (d : SegDef) : (s.expire g d).rqd = s.rqd :=
  (s.expire_keeps g d).1 .rqd (by decide)
@[simp] theorem State.expire_arbiter (g : SegNo) (d : SegDef) : (s.expire g d).arbiter = s.arbiter :=
  (s.expire_keeps g d).2.1
@[simp] theorem State.expire_pending (g : SegNo) (d : SegDef) : (s.expire g d).pending = s.pending :=
  (s.expire_keeps g d).2.2
@[simp] theorem State.line_expire (g : SegNo) (d : SegDef) (j : LineNo) : (s.expire g d).line j = s.line j := by
  simp only [State.line, State.expire_siu]
@[simp] theorem State.slot_expire (g : SegNo) (d : SegDef) (j : SlotNo) : (s.expire g d).slot j = s.slot j := by
  simp only [State.slot, State.expire_spl]

theorem State.runOn_keeps (g : SegNo) (d : SegDef) :
    KeepsAllBut [.smu] s (s.runOn g d) := by
  unfold State.runOn; dsimp only
  (repeat' split) <;> simp [keepsAllBut_iff]

@[simp] theorem State.runOn_siu (g : SegNo) (d : SegDef) : (s.runOn g d).siu = s.siu :=
  (s.runOn_keeps g d).1 .siu (by decide)
@[simp] theorem State.runOn_itu (g : SegNo) (d : SegDef) : (s.runOn g d).itu = s.itu :=
  (s.runOn_keeps g d).1 .itu (by decide)
@[simp] theorem State.runOn_wau (g : SegNo) (d : SegDef) : (s.runOn g d).wau = s.wau :=
  (s.runOn_keeps g d).1 .wau (by decide)
@[simp] theorem State.runOn_etm (g : SegNo) (d : SegDef) : (s.runOn g d).etm = s.etm :=
  (s.runOn_keeps g d).1 .etm (by decide)
@[simp] theorem State.runOn_spl (g : SegNo) (d : SegDef) : (s.runOn g d).spl = s.spl :=
  (s.runOn_keeps g d).1 .spl (by decide)
@[simp] theorem State.runOn_nq (g : SegNo) (d : SegDef) : (s.runOn g d).nq = s.nq :=
  (s.runOn_keeps g d).1 .nq (by decide)
@[simp] theorem State.runOn_lnk (g : SegNo) (d : SegDef) : (s.runOn g d).lnk = s.lnk :=
  (s.runOn_keeps g d).1 .lnk (by decide)
@[simp] theorem State.runOn_rqd (g : SegNo) (d : SegDef) : (s.runOn g d).rqd = s.rqd :=
  (s.runOn_keeps g d).1 .rqd (by decide)
@[simp] theorem State.runOn_arbiter (g : SegNo) (d : SegDef) : (s.runOn g d).arbiter = s.arbiter :=
  (s.runOn_keeps g d).2.1
@[simp] theorem State.runOn_pending (g : SegNo) (d : SegDef) : (s.runOn g d).pending = s.pending :=
  (s.runOn_keeps g d).2.2
@[simp] theorem State.line_runOn (g : SegNo) (d : SegDef) (j : LineNo) : (s.runOn g d).line j = s.line j := by
  simp only [State.line, State.runOn_siu]
@[simp] theorem State.track_runOn (g : SegNo) (d : SegDef) (j : SegNo) : (s.runOn g d).track j = s.track j := by
  simp only [State.track, State.runOn_itu]
@[simp] theorem State.member_runOn (g : SegNo) (d : SegDef) (j : MemberNo) : (s.runOn g d).member j = s.member j := by
  simp only [State.member, State.runOn_wau]
@[simp] theorem State.slot_runOn (g : SegNo) (d : SegDef) (j : SlotNo) : (s.runOn g d).slot j = s.slot j := by
  simp only [State.slot, State.runOn_spl]

theorem State.closeOnBehalf_keeps (g : SegNo) (d : SegDef) (tick : Tick) (b : Bool) :
    KeepsAllBut [.smu, .itu, .wau, .nq] s (s.closeOnBehalf g d tick b) := by
  unfold State.closeOnBehalf
  (repeat' split) <;> simp [keepsAllBut_iff]

@[simp] theorem State.closeOnBehalf_siu (g : SegNo) (d : SegDef) (tick : Tick) (b : Bool) : (s.closeOnBehalf g d tick b).siu = s.siu :=
  (s.closeOnBehalf_keeps g d tick b).1 .siu (by decide)
@[simp] theorem State.closeOnBehalf_etm (g : SegNo) (d : SegDef) (tick : Tick) (b : Bool) : (s.closeOnBehalf g d tick b).etm = s.etm :=
  (s.closeOnBehalf_keeps g d tick b).1 .etm (by decide)
@[simp] theorem State.closeOnBehalf_spl (g : SegNo) (d : SegDef) (tick : Tick) (b : Bool) : (s.closeOnBehalf g d tick b).spl = s.spl :=
  (s.closeOnBehalf_keeps g d tick b).1 .spl (by decide)
@[simp] theorem State.closeOnBehalf_lnk (g : SegNo) (d : SegDef) (tick : Tick) (b : Bool) : (s.closeOnBehalf g d tick b).lnk = s.lnk :=
  (s.closeOnBehalf_keeps g d tick b).1 .lnk (by decide)
@[simp] theorem State.closeOnBehalf_rqd (g : SegNo) (d : SegDef) (tick : Tick) (b : Bool) : (s.closeOnBehalf g d tick b).rqd = s.rqd :=
  (s.closeOnBehalf_keeps g d tick b).1 .rqd (by decide)
@[simp] theorem State.closeOnBehalf_arbiter (g : SegNo) (d : SegDef) (tick : Tick) (b : Bool) : (s.closeOnBehalf g d tick b).arbiter = s.arbiter :=
  (s.closeOnBehalf_keeps g d tick b).2.1
@[simp] theorem State.closeOnBehalf_pending (g : SegNo) (d : SegDef) (tick : Tick) (b : Bool) : (s.closeOnBehalf g d tick b).pending = s.pending :=
  (s.closeOnBehalf_keeps g d tick b).2.2
@[simp] theorem State.line_closeOnBehalf (g : SegNo) (d : SegDef) (tick : Tick) (b : Bool) (j : LineNo) : (s.closeOnBehalf g d tick b).line j = s.line j := by
  simp only [State.line, State.closeOnBehalf_siu]
@[simp] theorem State.slot_closeOnBehalf (g : SegNo) (d : SegDef) (tick : Tick) (b : Bool) (j : SlotNo) : (s.closeOnBehalf g d tick b).slot j = s.slot j := by
  simp only [State.slot, State.closeOnBehalf_spl]

theorem State.runOff_keeps (g : SegNo) (d : SegDef) :
    KeepsAllBut [.smu, .itu, .wau, .nq] s (s.runOff g d) := by
  unfold State.runOff
  (repeat' split) <;> simp [keepsAllBut_iff]

@[simp] theorem State.runOff_siu (g : SegNo) (d : SegDef) : (s.runOff g d).siu = s.siu :=
  (s.runOff_keeps g d).1 .siu (by decide)
@[simp] theorem State.runOff_etm (g : SegNo) (d : SegDef) : (s.runOff g d).etm = s.etm :=
  (s.runOff_keeps g d).1 .etm (by decide)
@[simp] theorem State.runOff_spl (g : SegNo) (d : SegDef) : (s.runOff g d).spl = s.spl :=
  (s.runOff_keeps g d).1 .spl (by decide)
@[simp] theorem State.runOff_lnk (g : SegNo) (d : SegDef) : (s.runOff g d).lnk = s.lnk :=
  (s.runOff_keeps g d).1 .lnk (by decide)
@[simp] theorem State.runOff_rqd (g : SegNo) (d : SegDef) : (s.runOff g d).rqd = s.rqd :=
  (s.runOff_keeps g d).1 .rqd (by decide)
@[simp] theorem State.runOff_arbiter (g : SegNo) (d : SegDef) : (s.runOff g d).arbiter = s.arbiter :=
  (s.runOff_keeps g d).2.1
@[simp] theorem State.runOff_pending (g : SegNo) (d : SegDef) : (s.runOff g d).pending = s.pending :=
  (s.runOff_keeps g d).2.2
@[simp] theorem State.line_runOff (g : SegNo) (d : SegDef) (j : LineNo) : (s.runOff g d).line j = s.line j := by
  simp only [State.line, State.runOff_siu]
@[simp] theorem State.slot_runOff (g : SegNo) (d : SegDef) (j : SlotNo) : (s.runOff g d).slot j = s.slot j := by
  simp only [State.slot, State.runOff_spl]

theorem State.setupClose_keeps (g : SegNo) (d : SegDef) (tick : Tick) :
    KeepsAllBut [.smu, .itu, .wau, .nq] s (s.setupClose g d tick) := by
  unfold State.setupClose
  (repeat' split) <;> simp [keepsAllBut_iff]

@[simp] theorem State.setupClose_siu (g : SegNo) (d : SegDef) (tick : Tick) : (s.setupClose g d tick).siu = s.siu :=
  (s.setupClose_keeps g d tick).1 .siu (by decide)
@[simp] theorem State.setupClose_etm (g : SegNo) (d : SegDef) (tick : Tick) : (s.setupClose g d tick).etm = s.etm :=
  (s.setupClose_keeps g d tick).1 .etm (by decide)
@[simp] theorem State.setupClose_spl (g : SegNo) (d : SegDef) (tick : Tick) : (s.setupClose g d tick).spl = s.spl :=
  (s.setupClose_keeps g d tick).1 .spl (by decide)
@[simp] theorem State.setupClose_lnk (g : SegNo) (d : SegDef) (tick : Tick) : (s.setupClose g d tick).lnk = s.lnk :=
  (s.setupClose_keeps g d tick).1 .lnk (by decide)
@[simp] theorem State.setupClose_rqd (g : SegNo) (d : SegDef) (tick : Tick) : (s.setupClose g d tick).rqd = s.rqd :=
  (s.setupClose_keeps g d tick).1 .rqd (by decide)
@[simp] theorem State.setupClose_arbiter (g : SegNo) (d : SegDef) (tick : Tick) : (s.setupClose g d tick).arbiter = s.arbiter :=
  (s.setupClose_keeps g d tick).2.1
@[simp] theorem State.setupClose_pending (g : SegNo) (d : SegDef) (tick : Tick) : (s.setupClose g d tick).pending = s.pending :=
  (s.setupClose_keeps g d tick).2.2
@[simp] theorem State.line_setupClose (g : SegNo) (d : SegDef) (tick : Tick) (j : LineNo) : (s.setupClose g d tick).line j = s.line j := by
  simp only [State.line, State.setupClose_siu]
@[simp] theorem State.slot_setupClose (g : SegNo) (d : SegDef) (tick : Tick) (j : SlotNo) : (s.setupClose g d tick).slot j = s.slot j := by
  simp only [State.slot, State.setupClose_spl]

theorem State.enterOff_keeps (g : SegNo) :
    KeepsAllBut [.smu] s (s.enterOff g) := by
  unfold State.enterOff; simp [keepsAllBut_iff]

@[simp] theorem State.enterOff_siu (g : SegNo) : (s.enterOff g).siu = s.siu :=
  (s.enterOff_keeps g).1 .siu (by decide)
@[simp] theorem State.enterOff_itu (g : SegNo) : (s.enterOff g).itu = s.itu :=
  (s.enterOff_keeps g).1 .itu (by decide)
@[simp] theorem State.enterOff_wau (g : SegNo) : (s.enterOff g).wau = s.wau :=
  (s.enterOff_keeps g).1 .wau (by decide)
@[simp] theorem State.enterOff_etm (g : SegNo) : (s.enterOff g).etm = s.etm :=
  (s.enterOff_keeps g).1 .etm (by decide)
@[simp] theorem State.enterOff_spl (g : SegNo) : (s.enterOff g).spl = s.spl :=
  (s.enterOff_keeps g).1 .spl (by decide)
@[simp] theorem State.enterOff_nq (g : SegNo) : (s.enterOff g).nq = s.nq :=
  (s.enterOff_keeps g).1 .nq (by decide)
@[simp] theorem State.enterOff_lnk (g : SegNo) : (s.enterOff g).lnk = s.lnk :=
  (s.enterOff_keeps g).1 .lnk (by decide)
@[simp] theorem State.enterOff_rqd (g : SegNo) : (s.enterOff g).rqd = s.rqd :=
  (s.enterOff_keeps g).1 .rqd (by decide)
@[simp] theorem State.enterOff_arbiter (g : SegNo) : (s.enterOff g).arbiter = s.arbiter :=
  (s.enterOff_keeps g).2.1
@[simp] theorem State.enterOff_pending (g : SegNo) : (s.enterOff g).pending = s.pending :=
  (s.enterOff_keeps g).2.2
@[simp] theorem State.line_enterOff (g : SegNo) (j : LineNo) : (s.enterOff g).line j = s.line j := by
  simp only [State.line, State.enterOff_siu]
@[simp] theorem State.track_enterOff (g : SegNo) (j : SegNo) : (s.enterOff g).track j = s.track j := by
  simp only [State.track, State.enterOff_itu]
@[simp] theorem State.member_enterOff (g : SegNo) (j : MemberNo) : (s.enterOff g).member j = s.member j := by
  simp only [State.member, State.enterOff_wau]
@[simp] theorem State.slot_enterOff (g : SegNo) (j : SlotNo) : (s.enterOff g).slot j = s.slot j := by
  simp only [State.slot, State.enterOff_spl]

theorem State.setupSegment_keeps (tick : Tick) (g : SegNo) :
    KeepsAllBut [.smu, .itu, .wau, .nq] s (State.setupSegment tick s g) := by
  unfold State.setupSegment; (repeat' split) <;> simp [keepsAllBut_iff]

@[simp] theorem State.setupSegment_siu (tick : Tick) (g : SegNo) : (State.setupSegment tick s g).siu = s.siu :=
  (s.setupSegment_keeps tick g).1 .siu (by decide)
@[simp] theorem State.setupSegment_etm (tick : Tick) (g : SegNo) : (State.setupSegment tick s g).etm = s.etm :=
  (s.setupSegment_keeps tick g).1 .etm (by decide)
@[simp] theorem State.setupSegment_spl (tick : Tick) (g : SegNo) : (State.setupSegment tick s g).spl = s.spl :=
  (s.setupSegment_keeps tick g).1 .spl (by decide)
@[simp] theorem State.setupSegment_lnk (tick : Tick) (g : SegNo) : (State.setupSegment tick s g).lnk = s.lnk :=
  (s.setupSegment_keeps tick g).1 .lnk (by decide)
@[simp] theorem State.setupSegment_rqd (tick : Tick) (g : SegNo) : (State.setupSegment tick s g).rqd = s.rqd :=
  (s.setupSegment_keeps tick g).1 .rqd (by decide)
@[simp] theorem State.setupSegment_arbiter (tick : Tick) (g : SegNo) : (State.setupSegment tick s g).arbiter = s.arbiter :=
  (s.setupSegment_keeps tick g).2.1
@[simp] theorem State.setupSegment_pending (tick : Tick) (g : SegNo) : (State.setupSegment tick s g).pending = s.pending :=
  (s.setupSegment_keeps tick g).2.2
@[simp] theorem State.line_setupSegment (tick : Tick) (g : SegNo) (j : LineNo) : (State.setupSegment tick s g).line j = s.line j := by
  simp only [State.line, State.setupSegment_siu]
@[simp] theorem State.slot_setupSegment (tick : Tick) (g : SegNo) (j : SlotNo) : (State.setupSegment tick s g).slot j = s.slot j := by
  simp only [State.slot, State.setupSegment_spl]

theorem State.enterCounting_keeps (g : SegNo) :
    KeepsAllBut [.smu] s (s.enterCounting g) := by
  unfold State.enterCounting
  (repeat' split) <;> simp [keepsAllBut_iff]

@[simp] theorem State.enterCounting_siu (g : SegNo) : (s.enterCounting g).siu = s.siu :=
  (s.enterCounting_keeps g).1 .siu (by decide)
@[simp] theorem State.enterCounting_itu (g : SegNo) : (s.enterCounting g).itu = s.itu :=
  (s.enterCounting_keeps g).1 .itu (by decide)
@[simp] theorem State.enterCounting_wau (g : SegNo) : (s.enterCounting g).wau = s.wau :=
  (s.enterCounting_keeps g).1 .wau (by decide)
@[simp] theorem State.enterCounting_etm (g : SegNo) : (s.enterCounting g).etm = s.etm :=
  (s.enterCounting_keeps g).1 .etm (by decide)
@[simp] theorem State.enterCounting_spl (g : SegNo) : (s.enterCounting g).spl = s.spl :=
  (s.enterCounting_keeps g).1 .spl (by decide)
@[simp] theorem State.enterCounting_nq (g : SegNo) : (s.enterCounting g).nq = s.nq :=
  (s.enterCounting_keeps g).1 .nq (by decide)
@[simp] theorem State.enterCounting_lnk (g : SegNo) : (s.enterCounting g).lnk = s.lnk :=
  (s.enterCounting_keeps g).1 .lnk (by decide)
@[simp] theorem State.enterCounting_rqd (g : SegNo) : (s.enterCounting g).rqd = s.rqd :=
  (s.enterCounting_keeps g).1 .rqd (by decide)
@[simp] theorem State.enterCounting_arbiter (g : SegNo) : (s.enterCounting g).arbiter = s.arbiter :=
  (s.enterCounting_keeps g).2.1
@[simp] theorem State.enterCounting_pending (g : SegNo) : (s.enterCounting g).pending = s.pending :=
  (s.enterCounting_keeps g).2.2
@[simp] theorem State.line_enterCounting (g : SegNo) (j : LineNo) : (s.enterCounting g).line j = s.line j := by
  simp only [State.line, State.enterCounting_siu]
@[simp] theorem State.track_enterCounting (g : SegNo) (j : SegNo) : (s.enterCounting g).track j = s.track j := by
  simp only [State.track, State.enterCounting_itu]
@[simp] theorem State.member_enterCounting (g : SegNo) (j : MemberNo) : (s.enterCounting g).member j = s.member j := by
  simp only [State.member, State.enterCounting_wau]
@[simp] theorem State.slot_enterCounting (g : SegNo) (j : SlotNo) : (s.enterCounting g).slot j = s.slot j := by
  simp only [State.slot, State.enterCounting_spl]

theorem State.rearm_keeps (g : SegNo) :
    KeepsAllBut [.smu, .itu, .wau, .nq] s (s.rearm g) := by
  unfold State.rearm
  (repeat' split) <;> simp [keepsAllBut_iff]

@[simp] theorem State.rearm_siu (g : SegNo) : (s.rearm g).siu = s.siu :=
  (s.rearm_keeps g).1 .siu (by decide)
@[simp] theorem State.rearm_etm (g : SegNo) : (s.rearm g).etm = s.etm :=
  (s.rearm_keeps g).1 .etm (by decide)
@[simp] theorem State.rearm_spl (g : SegNo) : (s.rearm g).spl = s.spl :=
  (s.rearm_keeps g).1 .spl (by decide)
@[simp] theorem State.rearm_lnk (g : SegNo) : (s.rearm g).lnk = s.lnk :=
  (s.rearm_keeps g).1 .lnk (by decide)
@[simp] theorem State.rearm_rqd (g : SegNo) : (s.rearm g).rqd = s.rqd :=
  (s.rearm_keeps g).1 .rqd (by decide)
@[simp] theorem State.rearm_arbiter (g : SegNo) : (s.rearm g).arbiter = s.arbiter :=
  (s.rearm_keeps g).2.1
@[simp] theorem State.rearm_pending (g : SegNo) : (s.rearm g).pending = s.pending :=
  (s.rearm_keeps g).2.2
@[simp] theorem State.line_rearm (g : SegNo) (j : LineNo) : (s.rearm g).line j = s.line j := by
  simp only [State.line, State.rearm_siu]
@[simp] theorem State.slot_rearm (g : SegNo) (j : SlotNo) : (s.rearm g).slot j = s.slot j := by
  simp only [State.slot, State.rearm_spl]

theorem State.pulseAt_keeps (l : LineNo) (g : SegNo) :
    KeepsAllBut [.smu, .itu, .wau, .nq] s (State.pulseAt l s g) := by
  unfold State.pulseAt; (repeat' split) <;> simp [keepsAllBut_iff]

@[simp] theorem State.pulseAt_siu (l : LineNo) (g : SegNo) : (State.pulseAt l s g).siu = s.siu :=
  (s.pulseAt_keeps l g).1 .siu (by decide)
@[simp] theorem State.pulseAt_etm (l : LineNo) (g : SegNo) : (State.pulseAt l s g).etm = s.etm :=
  (s.pulseAt_keeps l g).1 .etm (by decide)
@[simp] theorem State.pulseAt_spl (l : LineNo) (g : SegNo) : (State.pulseAt l s g).spl = s.spl :=
  (s.pulseAt_keeps l g).1 .spl (by decide)
@[simp] theorem State.pulseAt_lnk (l : LineNo) (g : SegNo) : (State.pulseAt l s g).lnk = s.lnk :=
  (s.pulseAt_keeps l g).1 .lnk (by decide)
@[simp] theorem State.pulseAt_rqd (l : LineNo) (g : SegNo) : (State.pulseAt l s g).rqd = s.rqd :=
  (s.pulseAt_keeps l g).1 .rqd (by decide)
@[simp] theorem State.pulseAt_arbiter (l : LineNo) (g : SegNo) : (State.pulseAt l s g).arbiter = s.arbiter :=
  (s.pulseAt_keeps l g).2.1
@[simp] theorem State.pulseAt_pending (l : LineNo) (g : SegNo) : (State.pulseAt l s g).pending = s.pending :=
  (s.pulseAt_keeps l g).2.2
@[simp] theorem State.line_pulseAt (l : LineNo) (g : SegNo) (j : LineNo) : (State.pulseAt l s g).line j = s.line j := by
  simp only [State.line, State.pulseAt_siu]
@[simp] theorem State.slot_pulseAt (l : LineNo) (g : SegNo) (j : SlotNo) : (State.pulseAt l s g).slot j = s.slot j := by
  simp only [State.slot, State.pulseAt_spl]

theorem State.runAt_keeps (l : LineNo) (on : Bool) (g : SegNo) :
    KeepsAllBut [.smu, .itu, .wau, .nq] s (State.runAt l on s g) := by
  unfold State.runAt; (repeat' split) <;> simp [keepsAllBut_iff]

@[simp] theorem State.runAt_siu (l : LineNo) (on : Bool) (g : SegNo) : (State.runAt l on s g).siu = s.siu :=
  (s.runAt_keeps l on g).1 .siu (by decide)
@[simp] theorem State.runAt_etm (l : LineNo) (on : Bool) (g : SegNo) : (State.runAt l on s g).etm = s.etm :=
  (s.runAt_keeps l on g).1 .etm (by decide)
@[simp] theorem State.runAt_spl (l : LineNo) (on : Bool) (g : SegNo) : (State.runAt l on s g).spl = s.spl :=
  (s.runAt_keeps l on g).1 .spl (by decide)
@[simp] theorem State.runAt_lnk (l : LineNo) (on : Bool) (g : SegNo) : (State.runAt l on s g).lnk = s.lnk :=
  (s.runAt_keeps l on g).1 .lnk (by decide)
@[simp] theorem State.runAt_rqd (l : LineNo) (on : Bool) (g : SegNo) : (State.runAt l on s g).rqd = s.rqd :=
  (s.runAt_keeps l on g).1 .rqd (by decide)
@[simp] theorem State.runAt_arbiter (l : LineNo) (on : Bool) (g : SegNo) : (State.runAt l on s g).arbiter = s.arbiter :=
  (s.runAt_keeps l on g).2.1
@[simp] theorem State.runAt_pending (l : LineNo) (on : Bool) (g : SegNo) : (State.runAt l on s g).pending = s.pending :=
  (s.runAt_keeps l on g).2.2
@[simp] theorem State.line_runAt (l : LineNo) (on : Bool) (g : SegNo) (j : LineNo) : (State.runAt l on s g).line j = s.line j := by
  simp only [State.line, State.runAt_siu]
@[simp] theorem State.slot_runAt (l : LineNo) (on : Bool) (g : SegNo) (j : SlotNo) : (State.runAt l on s g).slot j = s.slot j := by
  simp only [State.slot, State.runAt_spl]

theorem State.pulseEvent_keeps (l : LineNo) :
    KeepsAllBut [.smu, .itu, .wau, .nq] s (s.pulseEvent l) := by
  exact keepsAllBut_foldl (fun s x => s.pulseAt_keeps l x) _ _

@[simp] theorem State.pulseEvent_siu (l : LineNo) : (s.pulseEvent l).siu = s.siu :=
  (s.pulseEvent_keeps l).1 .siu (by decide)
@[simp] theorem State.pulseEvent_etm (l : LineNo) : (s.pulseEvent l).etm = s.etm :=
  (s.pulseEvent_keeps l).1 .etm (by decide)
@[simp] theorem State.pulseEvent_spl (l : LineNo) : (s.pulseEvent l).spl = s.spl :=
  (s.pulseEvent_keeps l).1 .spl (by decide)
@[simp] theorem State.pulseEvent_lnk (l : LineNo) : (s.pulseEvent l).lnk = s.lnk :=
  (s.pulseEvent_keeps l).1 .lnk (by decide)
@[simp] theorem State.pulseEvent_rqd (l : LineNo) : (s.pulseEvent l).rqd = s.rqd :=
  (s.pulseEvent_keeps l).1 .rqd (by decide)
@[simp] theorem State.pulseEvent_arbiter (l : LineNo) : (s.pulseEvent l).arbiter = s.arbiter :=
  (s.pulseEvent_keeps l).2.1
@[simp] theorem State.pulseEvent_pending (l : LineNo) : (s.pulseEvent l).pending = s.pending :=
  (s.pulseEvent_keeps l).2.2
@[simp] theorem State.line_pulseEvent (l : LineNo) (j : LineNo) : (s.pulseEvent l).line j = s.line j := by
  simp only [State.line, State.pulseEvent_siu]
@[simp] theorem State.slot_pulseEvent (l : LineNo) (j : SlotNo) : (s.pulseEvent l).slot j = s.slot j := by
  simp only [State.slot, State.pulseEvent_spl]

theorem State.runEvent_keeps (l : LineNo) (on : Bool) :
    KeepsAllBut [.smu, .itu, .wau, .nq] s (s.runEvent l on) := by
  exact keepsAllBut_foldl (fun s x => s.runAt_keeps l on x) _ _

@[simp] theorem State.runEvent_siu (l : LineNo) (on : Bool) : (s.runEvent l on).siu = s.siu :=
  (s.runEvent_keeps l on).1 .siu (by decide)
@[simp] theorem State.runEvent_etm (l : LineNo) (on : Bool) : (s.runEvent l on).etm = s.etm :=
  (s.runEvent_keeps l on).1 .etm (by decide)
@[simp] theorem State.runEvent_spl (l : LineNo) (on : Bool) : (s.runEvent l on).spl = s.spl :=
  (s.runEvent_keeps l on).1 .spl (by decide)
@[simp] theorem State.runEvent_lnk (l : LineNo) (on : Bool) : (s.runEvent l on).lnk = s.lnk :=
  (s.runEvent_keeps l on).1 .lnk (by decide)
@[simp] theorem State.runEvent_rqd (l : LineNo) (on : Bool) : (s.runEvent l on).rqd = s.rqd :=
  (s.runEvent_keeps l on).1 .rqd (by decide)
@[simp] theorem State.runEvent_arbiter (l : LineNo) (on : Bool) : (s.runEvent l on).arbiter = s.arbiter :=
  (s.runEvent_keeps l on).2.1
@[simp] theorem State.runEvent_pending (l : LineNo) (on : Bool) : (s.runEvent l on).pending = s.pending :=
  (s.runEvent_keeps l on).2.2
@[simp] theorem State.line_runEvent (l : LineNo) (on : Bool) (j : LineNo) : (s.runEvent l on).line j = s.line j := by
  simp only [State.line, State.runEvent_siu]
@[simp] theorem State.slot_runEvent (l : LineNo) (on : Bool) (j : SlotNo) : (s.runEvent l on).slot j = s.slot j := by
  simp only [State.slot, State.runEvent_spl]

theorem State.lineEvent_keeps (l : LineNo) (level : Level) :
    KeepsAllBut [.smu, .itu, .wau, .nq] s (s.lineEvent l level) := by
  unfold State.lineEvent
  (repeat' split) <;> simp [keepsAllBut_iff]

@[simp] theorem State.lineEvent_siu (l : LineNo) (level : Level) : (s.lineEvent l level).siu = s.siu :=
  (s.lineEvent_keeps l level).1 .siu (by decide)
@[simp] theorem State.lineEvent_etm (l : LineNo) (level : Level) : (s.lineEvent l level).etm = s.etm :=
  (s.lineEvent_keeps l level).1 .etm (by decide)
@[simp] theorem State.lineEvent_spl (l : LineNo) (level : Level) : (s.lineEvent l level).spl = s.spl :=
  (s.lineEvent_keeps l level).1 .spl (by decide)
@[simp] theorem State.lineEvent_lnk (l : LineNo) (level : Level) : (s.lineEvent l level).lnk = s.lnk :=
  (s.lineEvent_keeps l level).1 .lnk (by decide)
@[simp] theorem State.lineEvent_rqd (l : LineNo) (level : Level) : (s.lineEvent l level).rqd = s.rqd :=
  (s.lineEvent_keeps l level).1 .rqd (by decide)
@[simp] theorem State.lineEvent_arbiter (l : LineNo) (level : Level) : (s.lineEvent l level).arbiter = s.arbiter :=
  (s.lineEvent_keeps l level).2.1
@[simp] theorem State.lineEvent_pending (l : LineNo) (level : Level) : (s.lineEvent l level).pending = s.pending :=
  (s.lineEvent_keeps l level).2.2
@[simp] theorem State.line_lineEvent (l : LineNo) (level : Level) (j : LineNo) : (s.lineEvent l level).line j = s.line j := by
  simp only [State.line, State.lineEvent_siu]
@[simp] theorem State.slot_lineEvent (l : LineNo) (level : Level) (j : SlotNo) : (s.lineEvent l level).slot j = s.slot j := by
  simp only [State.slot, State.lineEvent_spl]

theorem State.acceptTransition_keeps (l : LineNo) :
    KeepsAllBut [.siu, .smu, .itu, .wau, .nq] s (s.acceptTransition l) := by
  unfold State.acceptTransition; simp [keepsAllBut_iff]

@[simp] theorem State.acceptTransition_etm (l : LineNo) : (s.acceptTransition l).etm = s.etm :=
  (s.acceptTransition_keeps l).1 .etm (by decide)
@[simp] theorem State.acceptTransition_spl (l : LineNo) : (s.acceptTransition l).spl = s.spl :=
  (s.acceptTransition_keeps l).1 .spl (by decide)
@[simp] theorem State.acceptTransition_lnk (l : LineNo) : (s.acceptTransition l).lnk = s.lnk :=
  (s.acceptTransition_keeps l).1 .lnk (by decide)
@[simp] theorem State.acceptTransition_rqd (l : LineNo) : (s.acceptTransition l).rqd = s.rqd :=
  (s.acceptTransition_keeps l).1 .rqd (by decide)
@[simp] theorem State.acceptTransition_arbiter (l : LineNo) : (s.acceptTransition l).arbiter = s.arbiter :=
  (s.acceptTransition_keeps l).2.1
@[simp] theorem State.acceptTransition_pending (l : LineNo) : (s.acceptTransition l).pending = s.pending :=
  (s.acceptTransition_keeps l).2.2
@[simp] theorem State.slot_acceptTransition (l : LineNo) (j : SlotNo) : (s.acceptTransition l).slot j = s.slot j := by
  simp only [State.slot, State.acceptTransition_spl]

theorem State.sampleLines_keeps (raw : BitVec 32) :
    KeepsAllBut [.siu, .smu, .itu, .wau, .nq] s (s.sampleLines raw) := by
  unfold State.sampleLines
  simp only
  split
  · exact KeepsAllBut.trans (by simp [keepsAllBut_iff]) (keepsAllBut_foldl (fun s x => s.acceptTransition_keeps x) _ _)
  · simp [keepsAllBut_iff]

@[simp] theorem State.sampleLines_etm (raw : BitVec 32) : (s.sampleLines raw).etm = s.etm :=
  (s.sampleLines_keeps raw).1 .etm (by decide)
@[simp] theorem State.sampleLines_spl (raw : BitVec 32) : (s.sampleLines raw).spl = s.spl :=
  (s.sampleLines_keeps raw).1 .spl (by decide)
@[simp] theorem State.sampleLines_lnk (raw : BitVec 32) : (s.sampleLines raw).lnk = s.lnk :=
  (s.sampleLines_keeps raw).1 .lnk (by decide)
@[simp] theorem State.sampleLines_rqd (raw : BitVec 32) : (s.sampleLines raw).rqd = s.rqd :=
  (s.sampleLines_keeps raw).1 .rqd (by decide)
@[simp] theorem State.sampleLines_arbiter (raw : BitVec 32) : (s.sampleLines raw).arbiter = s.arbiter :=
  (s.sampleLines_keeps raw).2.1
@[simp] theorem State.sampleLines_pending (raw : BitVec 32) : (s.sampleLines raw).pending = s.pending :=
  (s.sampleLines_keeps raw).2.2
@[simp] theorem State.slot_sampleLines (raw : BitVec 32) (j : SlotNo) : (s.sampleLines raw).slot j = s.slot j := by
  simp only [State.slot, State.sampleLines_spl]

end Sys2Proof.Machine
end

