-- ==== Sys2Proof/Laws/Plan.lean ====
section
/-! SUPPORT. The frames of the operations of the SPL (06, 07, 08): for each, the blocks it may change, and simp lemmas that read every
other block, and the tables of those blocks, past it. -/

namespace Sys2Proof.Machine

variable (s : State)

theorem State.returnMinutes_keeps (o : Order) :
    KeepsAllBut [.spl] s (s.returnMinutes o) := by
  unfold State.returnMinutes
  (repeat' split) <;> simp [keepsAllBut_iff]

@[simp] theorem State.returnMinutes_siu (o : Order) : (s.returnMinutes o).siu = s.siu :=
  (s.returnMinutes_keeps o).1 .siu (by decide)
@[simp] theorem State.returnMinutes_smu (o : Order) : (s.returnMinutes o).smu = s.smu :=
  (s.returnMinutes_keeps o).1 .smu (by decide)
@[simp] theorem State.returnMinutes_itu (o : Order) : (s.returnMinutes o).itu = s.itu :=
  (s.returnMinutes_keeps o).1 .itu (by decide)
@[simp] theorem State.returnMinutes_wau (o : Order) : (s.returnMinutes o).wau = s.wau :=
  (s.returnMinutes_keeps o).1 .wau (by decide)
@[simp] theorem State.returnMinutes_etm (o : Order) : (s.returnMinutes o).etm = s.etm :=
  (s.returnMinutes_keeps o).1 .etm (by decide)
@[simp] theorem State.returnMinutes_nq (o : Order) : (s.returnMinutes o).nq = s.nq :=
  (s.returnMinutes_keeps o).1 .nq (by decide)
@[simp] theorem State.returnMinutes_lnk (o : Order) : (s.returnMinutes o).lnk = s.lnk :=
  (s.returnMinutes_keeps o).1 .lnk (by decide)
@[simp] theorem State.returnMinutes_rqd (o : Order) : (s.returnMinutes o).rqd = s.rqd :=
  (s.returnMinutes_keeps o).1 .rqd (by decide)
@[simp] theorem State.returnMinutes_arbiter (o : Order) : (s.returnMinutes o).arbiter = s.arbiter :=
  (s.returnMinutes_keeps o).2.1
@[simp] theorem State.returnMinutes_pending (o : Order) : (s.returnMinutes o).pending = s.pending :=
  (s.returnMinutes_keeps o).2.2
@[simp] theorem State.line_returnMinutes (o : Order) (j : LineNo) : (s.returnMinutes o).line j = s.line j := by
  simp only [State.line, State.returnMinutes_siu]
@[simp] theorem State.segment_returnMinutes (o : Order) (j : SegNo) : (s.returnMinutes o).segment j = s.segment j := by
  simp only [State.segment, State.returnMinutes_smu]
@[simp] theorem State.defn_returnMinutes (o : Order) (j : SegNo) : (s.returnMinutes o).defn j = s.defn j := by
  simp only [State.defn, State.segment, State.returnMinutes_smu]
@[simp] theorem State.run_returnMinutes (o : Order) (j : SegNo) : (s.returnMinutes o).run j = s.run j := by
  simp only [State.run, State.segment, State.returnMinutes_smu]
@[simp] theorem State.track_returnMinutes (o : Order) (j : SegNo) : (s.returnMinutes o).track j = s.track j := by
  simp only [State.track, State.returnMinutes_itu]
@[simp] theorem State.member_returnMinutes (o : Order) (j : MemberNo) : (s.returnMinutes o).member j = s.member j := by
  simp only [State.member, State.returnMinutes_wau]

theorem State.addMinutes_keeps (tag minutes : Nat) :
    KeepsAllBut [.spl] s (s.addMinutes tag minutes) := by
  unfold State.addMinutes; simp [keepsAllBut_iff]

@[simp] theorem State.addMinutes_siu (tag minutes : Nat) : (s.addMinutes tag minutes).siu = s.siu :=
  (s.addMinutes_keeps tag minutes).1 .siu (by decide)
@[simp] theorem State.addMinutes_smu (tag minutes : Nat) : (s.addMinutes tag minutes).smu = s.smu :=
  (s.addMinutes_keeps tag minutes).1 .smu (by decide)
@[simp] theorem State.addMinutes_itu (tag minutes : Nat) : (s.addMinutes tag minutes).itu = s.itu :=
  (s.addMinutes_keeps tag minutes).1 .itu (by decide)
@[simp] theorem State.addMinutes_wau (tag minutes : Nat) : (s.addMinutes tag minutes).wau = s.wau :=
  (s.addMinutes_keeps tag minutes).1 .wau (by decide)
@[simp] theorem State.addMinutes_etm (tag minutes : Nat) : (s.addMinutes tag minutes).etm = s.etm :=
  (s.addMinutes_keeps tag minutes).1 .etm (by decide)
@[simp] theorem State.addMinutes_nq (tag minutes : Nat) : (s.addMinutes tag minutes).nq = s.nq :=
  (s.addMinutes_keeps tag minutes).1 .nq (by decide)
@[simp] theorem State.addMinutes_lnk (tag minutes : Nat) : (s.addMinutes tag minutes).lnk = s.lnk :=
  (s.addMinutes_keeps tag minutes).1 .lnk (by decide)
@[simp] theorem State.addMinutes_rqd (tag minutes : Nat) : (s.addMinutes tag minutes).rqd = s.rqd :=
  (s.addMinutes_keeps tag minutes).1 .rqd (by decide)
@[simp] theorem State.addMinutes_arbiter (tag minutes : Nat) : (s.addMinutes tag minutes).arbiter = s.arbiter :=
  (s.addMinutes_keeps tag minutes).2.1
@[simp] theorem State.addMinutes_pending (tag minutes : Nat) : (s.addMinutes tag minutes).pending = s.pending :=
  (s.addMinutes_keeps tag minutes).2.2
@[simp] theorem State.line_addMinutes (tag minutes : Nat) (j : LineNo) : (s.addMinutes tag minutes).line j = s.line j := by
  simp only [State.line, State.addMinutes_siu]
@[simp] theorem State.segment_addMinutes (tag minutes : Nat) (j : SegNo) : (s.addMinutes tag minutes).segment j = s.segment j := by
  simp only [State.segment, State.addMinutes_smu]
@[simp] theorem State.defn_addMinutes (tag minutes : Nat) (j : SegNo) : (s.addMinutes tag minutes).defn j = s.defn j := by
  simp only [State.defn, State.segment, State.addMinutes_smu]
@[simp] theorem State.run_addMinutes (tag minutes : Nat) (j : SegNo) : (s.addMinutes tag minutes).run j = s.run j := by
  simp only [State.run, State.segment, State.addMinutes_smu]
@[simp] theorem State.track_addMinutes (tag minutes : Nat) (j : SegNo) : (s.addMinutes tag minutes).track j = s.track j := by
  simp only [State.track, State.addMinutes_itu]
@[simp] theorem State.member_addMinutes (tag minutes : Nat) (j : MemberNo) : (s.addMinutes tag minutes).member j = s.member j := by
  simp only [State.member, State.addMinutes_wau]

theorem State.removeOrder_keeps (k : SlotNo) (o : Order) :
    KeepsAllBut [.spl] s (s.removeOrder k o) := by
  unfold State.removeOrder; simp [keepsAllBut_iff]

@[simp] theorem State.removeOrder_siu (k : SlotNo) (o : Order) : (s.removeOrder k o).siu = s.siu :=
  (s.removeOrder_keeps k o).1 .siu (by decide)
@[simp] theorem State.removeOrder_smu (k : SlotNo) (o : Order) : (s.removeOrder k o).smu = s.smu :=
  (s.removeOrder_keeps k o).1 .smu (by decide)
@[simp] theorem State.removeOrder_itu (k : SlotNo) (o : Order) : (s.removeOrder k o).itu = s.itu :=
  (s.removeOrder_keeps k o).1 .itu (by decide)
@[simp] theorem State.removeOrder_wau (k : SlotNo) (o : Order) : (s.removeOrder k o).wau = s.wau :=
  (s.removeOrder_keeps k o).1 .wau (by decide)
@[simp] theorem State.removeOrder_etm (k : SlotNo) (o : Order) : (s.removeOrder k o).etm = s.etm :=
  (s.removeOrder_keeps k o).1 .etm (by decide)
@[simp] theorem State.removeOrder_nq (k : SlotNo) (o : Order) : (s.removeOrder k o).nq = s.nq :=
  (s.removeOrder_keeps k o).1 .nq (by decide)
@[simp] theorem State.removeOrder_lnk (k : SlotNo) (o : Order) : (s.removeOrder k o).lnk = s.lnk :=
  (s.removeOrder_keeps k o).1 .lnk (by decide)
@[simp] theorem State.removeOrder_rqd (k : SlotNo) (o : Order) : (s.removeOrder k o).rqd = s.rqd :=
  (s.removeOrder_keeps k o).1 .rqd (by decide)
@[simp] theorem State.removeOrder_arbiter (k : SlotNo) (o : Order) : (s.removeOrder k o).arbiter = s.arbiter :=
  (s.removeOrder_keeps k o).2.1
@[simp] theorem State.removeOrder_pending (k : SlotNo) (o : Order) : (s.removeOrder k o).pending = s.pending :=
  (s.removeOrder_keeps k o).2.2
@[simp] theorem State.line_removeOrder (k : SlotNo) (o : Order) (j : LineNo) : (s.removeOrder k o).line j = s.line j := by
  simp only [State.line, State.removeOrder_siu]
@[simp] theorem State.segment_removeOrder (k : SlotNo) (o : Order) (j : SegNo) : (s.removeOrder k o).segment j = s.segment j := by
  simp only [State.segment, State.removeOrder_smu]
@[simp] theorem State.defn_removeOrder (k : SlotNo) (o : Order) (j : SegNo) : (s.removeOrder k o).defn j = s.defn j := by
  simp only [State.defn, State.segment, State.removeOrder_smu]
@[simp] theorem State.run_removeOrder (k : SlotNo) (o : Order) (j : SegNo) : (s.removeOrder k o).run j = s.run j := by
  simp only [State.run, State.segment, State.removeOrder_smu]
@[simp] theorem State.track_removeOrder (k : SlotNo) (o : Order) (j : SegNo) : (s.removeOrder k o).track j = s.track j := by
  simp only [State.track, State.removeOrder_itu]
@[simp] theorem State.member_removeOrder (k : SlotNo) (o : Order) (j : MemberNo) : (s.removeOrder k o).member j = s.member j := by
  simp only [State.member, State.removeOrder_wau]

theorem State.requestRerun_keeps :
    KeepsAllBut [.spl] s s.requestRerun := by
  unfold State.requestRerun
  (repeat' split) <;> simp [keepsAllBut_iff]

@[simp] theorem State.requestRerun_siu : s.requestRerun.siu = s.siu :=
  (s.requestRerun_keeps).1 .siu (by decide)
@[simp] theorem State.requestRerun_smu : s.requestRerun.smu = s.smu :=
  (s.requestRerun_keeps).1 .smu (by decide)
@[simp] theorem State.requestRerun_itu : s.requestRerun.itu = s.itu :=
  (s.requestRerun_keeps).1 .itu (by decide)
@[simp] theorem State.requestRerun_wau : s.requestRerun.wau = s.wau :=
  (s.requestRerun_keeps).1 .wau (by decide)
@[simp] theorem State.requestRerun_etm : s.requestRerun.etm = s.etm :=
  (s.requestRerun_keeps).1 .etm (by decide)
@[simp] theorem State.requestRerun_nq : s.requestRerun.nq = s.nq :=
  (s.requestRerun_keeps).1 .nq (by decide)
@[simp] theorem State.requestRerun_lnk : s.requestRerun.lnk = s.lnk :=
  (s.requestRerun_keeps).1 .lnk (by decide)
@[simp] theorem State.requestRerun_rqd : s.requestRerun.rqd = s.rqd :=
  (s.requestRerun_keeps).1 .rqd (by decide)
@[simp] theorem State.requestRerun_arbiter : s.requestRerun.arbiter = s.arbiter :=
  (s.requestRerun_keeps).2.1
@[simp] theorem State.requestRerun_pending : s.requestRerun.pending = s.pending :=
  (s.requestRerun_keeps).2.2
@[simp] theorem State.line_requestRerun (j : LineNo) : s.requestRerun.line j = s.line j := by
  simp only [State.line, State.requestRerun_siu]
@[simp] theorem State.segment_requestRerun (j : SegNo) : s.requestRerun.segment j = s.segment j := by
  simp only [State.segment, State.requestRerun_smu]
@[simp] theorem State.defn_requestRerun (j : SegNo) : s.requestRerun.defn j = s.defn j := by
  simp only [State.defn, State.segment, State.requestRerun_smu]
@[simp] theorem State.run_requestRerun (j : SegNo) : s.requestRerun.run j = s.run j := by
  simp only [State.run, State.segment, State.requestRerun_smu]
@[simp] theorem State.track_requestRerun (j : SegNo) : s.requestRerun.track j = s.track j := by
  simp only [State.track, State.requestRerun_itu]
@[simp] theorem State.member_requestRerun (j : MemberNo) : s.requestRerun.member j = s.member j := by
  simp only [State.member, State.requestRerun_wau]

theorem State.listWindow_keeps (st len cap : Nat) (mask : BitVec 24) (src : WindowSource) :
    KeepsAllBut [.spl] s (s.listWindow st len cap mask src) := by
  unfold State.listWindow; simp [keepsAllBut_iff]

@[simp] theorem State.listWindow_siu (st len cap : Nat) (mask : BitVec 24) (src : WindowSource) : (s.listWindow st len cap mask src).siu = s.siu :=
  (s.listWindow_keeps st len cap mask src).1 .siu (by decide)
@[simp] theorem State.listWindow_smu (st len cap : Nat) (mask : BitVec 24) (src : WindowSource) : (s.listWindow st len cap mask src).smu = s.smu :=
  (s.listWindow_keeps st len cap mask src).1 .smu (by decide)
@[simp] theorem State.listWindow_itu (st len cap : Nat) (mask : BitVec 24) (src : WindowSource) : (s.listWindow st len cap mask src).itu = s.itu :=
  (s.listWindow_keeps st len cap mask src).1 .itu (by decide)
@[simp] theorem State.listWindow_wau (st len cap : Nat) (mask : BitVec 24) (src : WindowSource) : (s.listWindow st len cap mask src).wau = s.wau :=
  (s.listWindow_keeps st len cap mask src).1 .wau (by decide)
@[simp] theorem State.listWindow_etm (st len cap : Nat) (mask : BitVec 24) (src : WindowSource) : (s.listWindow st len cap mask src).etm = s.etm :=
  (s.listWindow_keeps st len cap mask src).1 .etm (by decide)
@[simp] theorem State.listWindow_nq (st len cap : Nat) (mask : BitVec 24) (src : WindowSource) : (s.listWindow st len cap mask src).nq = s.nq :=
  (s.listWindow_keeps st len cap mask src).1 .nq (by decide)
@[simp] theorem State.listWindow_lnk (st len cap : Nat) (mask : BitVec 24) (src : WindowSource) : (s.listWindow st len cap mask src).lnk = s.lnk :=
  (s.listWindow_keeps st len cap mask src).1 .lnk (by decide)
@[simp] theorem State.listWindow_rqd (st len cap : Nat) (mask : BitVec 24) (src : WindowSource) : (s.listWindow st len cap mask src).rqd = s.rqd :=
  (s.listWindow_keeps st len cap mask src).1 .rqd (by decide)
@[simp] theorem State.listWindow_arbiter (st len cap : Nat) (mask : BitVec 24) (src : WindowSource) : (s.listWindow st len cap mask src).arbiter = s.arbiter :=
  (s.listWindow_keeps st len cap mask src).2.1
@[simp] theorem State.listWindow_pending (st len cap : Nat) (mask : BitVec 24) (src : WindowSource) : (s.listWindow st len cap mask src).pending = s.pending :=
  (s.listWindow_keeps st len cap mask src).2.2
@[simp] theorem State.line_listWindow (st len cap : Nat) (mask : BitVec 24) (src : WindowSource) (j : LineNo) : (s.listWindow st len cap mask src).line j = s.line j := by
  simp only [State.line, State.listWindow_siu]
@[simp] theorem State.segment_listWindow (st len cap : Nat) (mask : BitVec 24) (src : WindowSource) (j : SegNo) : (s.listWindow st len cap mask src).segment j = s.segment j := by
  simp only [State.segment, State.listWindow_smu]
@[simp] theorem State.defn_listWindow (st len cap : Nat) (mask : BitVec 24) (src : WindowSource) (j : SegNo) : (s.listWindow st len cap mask src).defn j = s.defn j := by
  simp only [State.defn, State.segment, State.listWindow_smu]
@[simp] theorem State.run_listWindow (st len cap : Nat) (mask : BitVec 24) (src : WindowSource) (j : SegNo) : (s.listWindow st len cap mask src).run j = s.run j := by
  simp only [State.run, State.segment, State.listWindow_smu]
@[simp] theorem State.track_listWindow (st len cap : Nat) (mask : BitVec 24) (src : WindowSource) (j : SegNo) : (s.listWindow st len cap mask src).track j = s.track j := by
  simp only [State.track, State.listWindow_itu]
@[simp] theorem State.member_listWindow (st len cap : Nat) (mask : BitVec 24) (src : WindowSource) (j : MemberNo) : (s.listWindow st len cap mask src).member j = s.member j := by
  simp only [State.member, State.listWindow_wau]

theorem State.mapSlot_keeps (f : Order → Order) (k : SlotNo) :
    KeepsAllBut [.spl] s (State.mapSlot f s k) := by
  unfold State.mapSlot; simp [keepsAllBut_iff]

@[simp] theorem State.mapSlot_siu (f : Order → Order) (k : SlotNo) : (State.mapSlot f s k).siu = s.siu :=
  (s.mapSlot_keeps f k).1 .siu (by decide)
@[simp] theorem State.mapSlot_smu (f : Order → Order) (k : SlotNo) : (State.mapSlot f s k).smu = s.smu :=
  (s.mapSlot_keeps f k).1 .smu (by decide)
@[simp] theorem State.mapSlot_itu (f : Order → Order) (k : SlotNo) : (State.mapSlot f s k).itu = s.itu :=
  (s.mapSlot_keeps f k).1 .itu (by decide)
@[simp] theorem State.mapSlot_wau (f : Order → Order) (k : SlotNo) : (State.mapSlot f s k).wau = s.wau :=
  (s.mapSlot_keeps f k).1 .wau (by decide)
@[simp] theorem State.mapSlot_etm (f : Order → Order) (k : SlotNo) : (State.mapSlot f s k).etm = s.etm :=
  (s.mapSlot_keeps f k).1 .etm (by decide)
@[simp] theorem State.mapSlot_nq (f : Order → Order) (k : SlotNo) : (State.mapSlot f s k).nq = s.nq :=
  (s.mapSlot_keeps f k).1 .nq (by decide)
@[simp] theorem State.mapSlot_lnk (f : Order → Order) (k : SlotNo) : (State.mapSlot f s k).lnk = s.lnk :=
  (s.mapSlot_keeps f k).1 .lnk (by decide)
@[simp] theorem State.mapSlot_rqd (f : Order → Order) (k : SlotNo) : (State.mapSlot f s k).rqd = s.rqd :=
  (s.mapSlot_keeps f k).1 .rqd (by decide)
@[simp] theorem State.mapSlot_arbiter (f : Order → Order) (k : SlotNo) : (State.mapSlot f s k).arbiter = s.arbiter :=
  (s.mapSlot_keeps f k).2.1
@[simp] theorem State.mapSlot_pending (f : Order → Order) (k : SlotNo) : (State.mapSlot f s k).pending = s.pending :=
  (s.mapSlot_keeps f k).2.2
@[simp] theorem State.line_mapSlot (f : Order → Order) (k : SlotNo) (j : LineNo) : (State.mapSlot f s k).line j = s.line j := by
  simp only [State.line, State.mapSlot_siu]
@[simp] theorem State.segment_mapSlot (f : Order → Order) (k : SlotNo) (j : SegNo) : (State.mapSlot f s k).segment j = s.segment j := by
  simp only [State.segment, State.mapSlot_smu]
@[simp] theorem State.defn_mapSlot (f : Order → Order) (k : SlotNo) (j : SegNo) : (State.mapSlot f s k).defn j = s.defn j := by
  simp only [State.defn, State.segment, State.mapSlot_smu]
@[simp] theorem State.run_mapSlot (f : Order → Order) (k : SlotNo) (j : SegNo) : (State.mapSlot f s k).run j = s.run j := by
  simp only [State.run, State.segment, State.mapSlot_smu]
@[simp] theorem State.track_mapSlot (f : Order → Order) (k : SlotNo) (j : SegNo) : (State.mapSlot f s k).track j = s.track j := by
  simp only [State.track, State.mapSlot_itu]
@[simp] theorem State.member_mapSlot (f : Order → Order) (k : SlotNo) (j : MemberNo) : (State.mapSlot f s k).member j = s.member j := by
  simp only [State.member, State.mapSlot_wau]

theorem State.activateWindow_keeps (n : Nat) (w : MaintWindow) :
    KeepsAllBut [.spl, .nq] s (State.activateWindow n s w) := by
  have h := fun (s : State) (l : List SlotNo) =>
    keepsAllBut_foldl (f := State.mapSlot fun o => { o with state := .released }) (fun s x => s.mapSlot_keeps _ x) l s
  simp only [keepsAllBut_iff, List.mem_singleton, reduceCtorEq, false_or, true_or, true_and] at h
  unfold State.activateWindow
  dsimp only
  split <;> simp [keepsAllBut_iff, h]

@[simp] theorem State.activateWindow_siu (n : Nat) (w : MaintWindow) : (State.activateWindow n s w).siu = s.siu :=
  (s.activateWindow_keeps n w).1 .siu (by decide)
@[simp] theorem State.activateWindow_smu (n : Nat) (w : MaintWindow) : (State.activateWindow n s w).smu = s.smu :=
  (s.activateWindow_keeps n w).1 .smu (by decide)
@[simp] theorem State.activateWindow_itu (n : Nat) (w : MaintWindow) : (State.activateWindow n s w).itu = s.itu :=
  (s.activateWindow_keeps n w).1 .itu (by decide)
@[simp] theorem State.activateWindow_wau (n : Nat) (w : MaintWindow) : (State.activateWindow n s w).wau = s.wau :=
  (s.activateWindow_keeps n w).1 .wau (by decide)
@[simp] theorem State.activateWindow_etm (n : Nat) (w : MaintWindow) : (State.activateWindow n s w).etm = s.etm :=
  (s.activateWindow_keeps n w).1 .etm (by decide)
@[simp] theorem State.activateWindow_lnk (n : Nat) (w : MaintWindow) : (State.activateWindow n s w).lnk = s.lnk :=
  (s.activateWindow_keeps n w).1 .lnk (by decide)
@[simp] theorem State.activateWindow_rqd (n : Nat) (w : MaintWindow) : (State.activateWindow n s w).rqd = s.rqd :=
  (s.activateWindow_keeps n w).1 .rqd (by decide)
@[simp] theorem State.activateWindow_arbiter (n : Nat) (w : MaintWindow) : (State.activateWindow n s w).arbiter = s.arbiter :=
  (s.activateWindow_keeps n w).2.1
@[simp] theorem State.activateWindow_pending (n : Nat) (w : MaintWindow) : (State.activateWindow n s w).pending = s.pending :=
  (s.activateWindow_keeps n w).2.2
@[simp] theorem State.line_activateWindow (n : Nat) (w : MaintWindow) (j : LineNo) : (State.activateWindow n s w).line j = s.line j := by
  simp only [State.line, State.activateWindow_siu]
@[simp] theorem State.segment_activateWindow (n : Nat) (w : MaintWindow) (j : SegNo) : (State.activateWindow n s w).segment j = s.segment j := by
  simp only [State.segment, State.activateWindow_smu]
@[simp] theorem State.defn_activateWindow (n : Nat) (w : MaintWindow) (j : SegNo) : (State.activateWindow n s w).defn j = s.defn j := by
  simp only [State.defn, State.segment, State.activateWindow_smu]
@[simp] theorem State.run_activateWindow (n : Nat) (w : MaintWindow) (j : SegNo) : (State.activateWindow n s w).run j = s.run j := by
  simp only [State.run, State.segment, State.activateWindow_smu]
@[simp] theorem State.track_activateWindow (n : Nat) (w : MaintWindow) (j : SegNo) : (State.activateWindow n s w).track j = s.track j := by
  simp only [State.track, State.activateWindow_itu]
@[simp] theorem State.member_activateWindow (n : Nat) (w : MaintWindow) (j : MemberNo) : (State.activateWindow n s w).member j = s.member j := by
  simp only [State.member, State.activateWindow_wau]

theorem State.activateWindows_keeps (n : Nat) :
    KeepsAllBut [.spl, .nq] s (s.activateWindows n) := by
  exact keepsAllBut_foldl (fun s x => s.activateWindow_keeps n x) _ _

@[simp] theorem State.activateWindows_siu (n : Nat) : (s.activateWindows n).siu = s.siu :=
  (s.activateWindows_keeps n).1 .siu (by decide)
@[simp] theorem State.activateWindows_smu (n : Nat) : (s.activateWindows n).smu = s.smu :=
  (s.activateWindows_keeps n).1 .smu (by decide)
@[simp] theorem State.activateWindows_itu (n : Nat) : (s.activateWindows n).itu = s.itu :=
  (s.activateWindows_keeps n).1 .itu (by decide)
@[simp] theorem State.activateWindows_wau (n : Nat) : (s.activateWindows n).wau = s.wau :=
  (s.activateWindows_keeps n).1 .wau (by decide)
@[simp] theorem State.activateWindows_etm (n : Nat) : (s.activateWindows n).etm = s.etm :=
  (s.activateWindows_keeps n).1 .etm (by decide)
@[simp] theorem State.activateWindows_lnk (n : Nat) : (s.activateWindows n).lnk = s.lnk :=
  (s.activateWindows_keeps n).1 .lnk (by decide)
@[simp] theorem State.activateWindows_rqd (n : Nat) : (s.activateWindows n).rqd = s.rqd :=
  (s.activateWindows_keeps n).1 .rqd (by decide)
@[simp] theorem State.activateWindows_arbiter (n : Nat) : (s.activateWindows n).arbiter = s.arbiter :=
  (s.activateWindows_keeps n).2.1
@[simp] theorem State.activateWindows_pending (n : Nat) : (s.activateWindows n).pending = s.pending :=
  (s.activateWindows_keeps n).2.2
@[simp] theorem State.line_activateWindows (n : Nat) (j : LineNo) : (s.activateWindows n).line j = s.line j := by
  simp only [State.line, State.activateWindows_siu]
@[simp] theorem State.segment_activateWindows (n : Nat) (j : SegNo) : (s.activateWindows n).segment j = s.segment j := by
  simp only [State.segment, State.activateWindows_smu]
@[simp] theorem State.defn_activateWindows (n : Nat) (j : SegNo) : (s.activateWindows n).defn j = s.defn j := by
  simp only [State.defn, State.segment, State.activateWindows_smu]
@[simp] theorem State.run_activateWindows (n : Nat) (j : SegNo) : (s.activateWindows n).run j = s.run j := by
  simp only [State.run, State.segment, State.activateWindows_smu]
@[simp] theorem State.track_activateWindows (n : Nat) (j : SegNo) : (s.activateWindows n).track j = s.track j := by
  simp only [State.track, State.activateWindows_itu]
@[simp] theorem State.member_activateWindows (n : Nat) (j : MemberNo) : (s.activateWindows n).member j = s.member j := by
  simp only [State.member, State.activateWindows_wau]

theorem State.missOrder_keeps (tag : Nat) (k : SlotNo) :
    KeepsAllBut [.spl, .nq] s (State.missOrder tag s k) := by
  unfold State.missOrder; (repeat' split) <;> simp [keepsAllBut_iff]

@[simp] theorem State.missOrder_siu (tag : Nat) (k : SlotNo) : (State.missOrder tag s k).siu = s.siu :=
  (s.missOrder_keeps tag k).1 .siu (by decide)
@[simp] theorem State.missOrder_smu (tag : Nat) (k : SlotNo) : (State.missOrder tag s k).smu = s.smu :=
  (s.missOrder_keeps tag k).1 .smu (by decide)
@[simp] theorem State.missOrder_itu (tag : Nat) (k : SlotNo) : (State.missOrder tag s k).itu = s.itu :=
  (s.missOrder_keeps tag k).1 .itu (by decide)
@[simp] theorem State.missOrder_wau (tag : Nat) (k : SlotNo) : (State.missOrder tag s k).wau = s.wau :=
  (s.missOrder_keeps tag k).1 .wau (by decide)
@[simp] theorem State.missOrder_etm (tag : Nat) (k : SlotNo) : (State.missOrder tag s k).etm = s.etm :=
  (s.missOrder_keeps tag k).1 .etm (by decide)
@[simp] theorem State.missOrder_lnk (tag : Nat) (k : SlotNo) : (State.missOrder tag s k).lnk = s.lnk :=
  (s.missOrder_keeps tag k).1 .lnk (by decide)
@[simp] theorem State.missOrder_rqd (tag : Nat) (k : SlotNo) : (State.missOrder tag s k).rqd = s.rqd :=
  (s.missOrder_keeps tag k).1 .rqd (by decide)
@[simp] theorem State.missOrder_arbiter (tag : Nat) (k : SlotNo) : (State.missOrder tag s k).arbiter = s.arbiter :=
  (s.missOrder_keeps tag k).2.1
@[simp] theorem State.missOrder_pending (tag : Nat) (k : SlotNo) : (State.missOrder tag s k).pending = s.pending :=
  (s.missOrder_keeps tag k).2.2
@[simp] theorem State.line_missOrder (tag : Nat) (k : SlotNo) (j : LineNo) : (State.missOrder tag s k).line j = s.line j := by
  simp only [State.line, State.missOrder_siu]
@[simp] theorem State.segment_missOrder (tag : Nat) (k : SlotNo) (j : SegNo) : (State.missOrder tag s k).segment j = s.segment j := by
  simp only [State.segment, State.missOrder_smu]
@[simp] theorem State.defn_missOrder (tag : Nat) (k : SlotNo) (j : SegNo) : (State.missOrder tag s k).defn j = s.defn j := by
  simp only [State.defn, State.segment, State.missOrder_smu]
@[simp] theorem State.run_missOrder (tag : Nat) (k : SlotNo) (j : SegNo) : (State.missOrder tag s k).run j = s.run j := by
  simp only [State.run, State.segment, State.missOrder_smu]
@[simp] theorem State.track_missOrder (tag : Nat) (k : SlotNo) (j : SegNo) : (State.missOrder tag s k).track j = s.track j := by
  simp only [State.track, State.missOrder_itu]
@[simp] theorem State.member_missOrder (tag : Nat) (k : SlotNo) (j : MemberNo) : (State.missOrder tag s k).member j = s.member j := by
  simp only [State.member, State.missOrder_wau]

theorem State.endWindow_keeps (w : MaintWindow) :
    KeepsAllBut [.spl, .nq] s (s.endWindow w) := by
  have h := fun (s : State) (l : List SlotNo) => keepsAllBut_foldl (fun s x => s.missOrder_keeps w.tag x) l s
  simp only [keepsAllBut_iff, List.mem_cons, List.not_mem_nil, reduceCtorEq, false_or, true_or, or_true, or_false,
    true_and] at h
  unfold State.endWindow
  dsimp only
  split <;> simp [keepsAllBut_iff, h]

@[simp] theorem State.endWindow_siu (w : MaintWindow) : (s.endWindow w).siu = s.siu :=
  (s.endWindow_keeps w).1 .siu (by decide)
@[simp] theorem State.endWindow_smu (w : MaintWindow) : (s.endWindow w).smu = s.smu :=
  (s.endWindow_keeps w).1 .smu (by decide)
@[simp] theorem State.endWindow_itu (w : MaintWindow) : (s.endWindow w).itu = s.itu :=
  (s.endWindow_keeps w).1 .itu (by decide)
@[simp] theorem State.endWindow_wau (w : MaintWindow) : (s.endWindow w).wau = s.wau :=
  (s.endWindow_keeps w).1 .wau (by decide)
@[simp] theorem State.endWindow_etm (w : MaintWindow) : (s.endWindow w).etm = s.etm :=
  (s.endWindow_keeps w).1 .etm (by decide)
@[simp] theorem State.endWindow_lnk (w : MaintWindow) : (s.endWindow w).lnk = s.lnk :=
  (s.endWindow_keeps w).1 .lnk (by decide)
@[simp] theorem State.endWindow_rqd (w : MaintWindow) : (s.endWindow w).rqd = s.rqd :=
  (s.endWindow_keeps w).1 .rqd (by decide)
@[simp] theorem State.endWindow_arbiter (w : MaintWindow) : (s.endWindow w).arbiter = s.arbiter :=
  (s.endWindow_keeps w).2.1
@[simp] theorem State.endWindow_pending (w : MaintWindow) : (s.endWindow w).pending = s.pending :=
  (s.endWindow_keeps w).2.2
@[simp] theorem State.line_endWindow (w : MaintWindow) (j : LineNo) : (s.endWindow w).line j = s.line j := by
  simp only [State.line, State.endWindow_siu]
@[simp] theorem State.segment_endWindow (w : MaintWindow) (j : SegNo) : (s.endWindow w).segment j = s.segment j := by
  simp only [State.segment, State.endWindow_smu]
@[simp] theorem State.defn_endWindow (w : MaintWindow) (j : SegNo) : (s.endWindow w).defn j = s.defn j := by
  simp only [State.defn, State.segment, State.endWindow_smu]
@[simp] theorem State.run_endWindow (w : MaintWindow) (j : SegNo) : (s.endWindow w).run j = s.run j := by
  simp only [State.run, State.segment, State.endWindow_smu]
@[simp] theorem State.track_endWindow (w : MaintWindow) (j : SegNo) : (s.endWindow w).track j = s.track j := by
  simp only [State.track, State.endWindow_itu]
@[simp] theorem State.member_endWindow (w : MaintWindow) (j : MemberNo) : (s.endWindow w).member j = s.member j := by
  simp only [State.member, State.endWindow_wau]

theorem State.endWindows_keeps (n : Nat) :
    KeepsAllBut [.spl, .nq] s (s.endWindows n) := by
  exact keepsAllBut_foldl (fun s x => s.endWindow_keeps x) _ _

@[simp] theorem State.endWindows_siu (n : Nat) : (s.endWindows n).siu = s.siu :=
  (s.endWindows_keeps n).1 .siu (by decide)
@[simp] theorem State.endWindows_smu (n : Nat) : (s.endWindows n).smu = s.smu :=
  (s.endWindows_keeps n).1 .smu (by decide)
@[simp] theorem State.endWindows_itu (n : Nat) : (s.endWindows n).itu = s.itu :=
  (s.endWindows_keeps n).1 .itu (by decide)
@[simp] theorem State.endWindows_wau (n : Nat) : (s.endWindows n).wau = s.wau :=
  (s.endWindows_keeps n).1 .wau (by decide)
@[simp] theorem State.endWindows_etm (n : Nat) : (s.endWindows n).etm = s.etm :=
  (s.endWindows_keeps n).1 .etm (by decide)
@[simp] theorem State.endWindows_lnk (n : Nat) : (s.endWindows n).lnk = s.lnk :=
  (s.endWindows_keeps n).1 .lnk (by decide)
@[simp] theorem State.endWindows_rqd (n : Nat) : (s.endWindows n).rqd = s.rqd :=
  (s.endWindows_keeps n).1 .rqd (by decide)
@[simp] theorem State.endWindows_arbiter (n : Nat) : (s.endWindows n).arbiter = s.arbiter :=
  (s.endWindows_keeps n).2.1
@[simp] theorem State.endWindows_pending (n : Nat) : (s.endWindows n).pending = s.pending :=
  (s.endWindows_keeps n).2.2
@[simp] theorem State.line_endWindows (n : Nat) (j : LineNo) : (s.endWindows n).line j = s.line j := by
  simp only [State.line, State.endWindows_siu]
@[simp] theorem State.segment_endWindows (n : Nat) (j : SegNo) : (s.endWindows n).segment j = s.segment j := by
  simp only [State.segment, State.endWindows_smu]
@[simp] theorem State.defn_endWindows (n : Nat) (j : SegNo) : (s.endWindows n).defn j = s.defn j := by
  simp only [State.defn, State.segment, State.endWindows_smu]
@[simp] theorem State.run_endWindows (n : Nat) (j : SegNo) : (s.endWindows n).run j = s.run j := by
  simp only [State.run, State.segment, State.endWindows_smu]
@[simp] theorem State.track_endWindows (n : Nat) (j : SegNo) : (s.endWindows n).track j = s.track j := by
  simp only [State.track, State.endWindows_itu]
@[simp] theorem State.member_endWindows (n : Nat) (j : MemberNo) : (s.endWindows n).member j = s.member j := by
  simp only [State.member, State.endWindows_wau]

theorem State.endStep_keeps (b : Bool) :
    KeepsAllBut [.spl, .nq] s (s.endStep b) := by
  unfold State.endStep; dsimp only
  (repeat' split) <;> simp [keepsAllBut_iff]

@[simp] theorem State.endStep_siu (b : Bool) : (s.endStep b).siu = s.siu :=
  (s.endStep_keeps b).1 .siu (by decide)
@[simp] theorem State.endStep_smu (b : Bool) : (s.endStep b).smu = s.smu :=
  (s.endStep_keeps b).1 .smu (by decide)
@[simp] theorem State.endStep_itu (b : Bool) : (s.endStep b).itu = s.itu :=
  (s.endStep_keeps b).1 .itu (by decide)
@[simp] theorem State.endStep_wau (b : Bool) : (s.endStep b).wau = s.wau :=
  (s.endStep_keeps b).1 .wau (by decide)
@[simp] theorem State.endStep_etm (b : Bool) : (s.endStep b).etm = s.etm :=
  (s.endStep_keeps b).1 .etm (by decide)
@[simp] theorem State.endStep_lnk (b : Bool) : (s.endStep b).lnk = s.lnk :=
  (s.endStep_keeps b).1 .lnk (by decide)
@[simp] theorem State.endStep_rqd (b : Bool) : (s.endStep b).rqd = s.rqd :=
  (s.endStep_keeps b).1 .rqd (by decide)
@[simp] theorem State.endStep_arbiter (b : Bool) : (s.endStep b).arbiter = s.arbiter :=
  (s.endStep_keeps b).2.1
@[simp] theorem State.endStep_pending (b : Bool) : (s.endStep b).pending = s.pending :=
  (s.endStep_keeps b).2.2
@[simp] theorem State.line_endStep (b : Bool) (j : LineNo) : (s.endStep b).line j = s.line j := by
  simp only [State.line, State.endStep_siu]
@[simp] theorem State.segment_endStep (b : Bool) (j : SegNo) : (s.endStep b).segment j = s.segment j := by
  simp only [State.segment, State.endStep_smu]
@[simp] theorem State.defn_endStep (b : Bool) (j : SegNo) : (s.endStep b).defn j = s.defn j := by
  simp only [State.defn, State.segment, State.endStep_smu]
@[simp] theorem State.run_endStep (b : Bool) (j : SegNo) : (s.endStep b).run j = s.run j := by
  simp only [State.run, State.segment, State.endStep_smu]
@[simp] theorem State.track_endStep (b : Bool) (j : SegNo) : (s.endStep b).track j = s.track j := by
  simp only [State.track, State.endStep_itu]
@[simp] theorem State.member_endStep (b : Bool) (j : MemberNo) : (s.endStep b).member j = s.member j := by
  simp only [State.member, State.endStep_wau]

theorem State.generateStep_keeps (t : Template) :
    KeepsAllBut [.spl, .nq] s (s.generateStep t).1 := by
  unfold State.generateStep; simp only; split <;> simp [keepsAllBut_iff]

@[simp] theorem State.generateStep_siu (t : Template) : (s.generateStep t).1.siu = s.siu :=
  (s.generateStep_keeps t).1 .siu (by decide)
@[simp] theorem State.generateStep_smu (t : Template) : (s.generateStep t).1.smu = s.smu :=
  (s.generateStep_keeps t).1 .smu (by decide)
@[simp] theorem State.generateStep_itu (t : Template) : (s.generateStep t).1.itu = s.itu :=
  (s.generateStep_keeps t).1 .itu (by decide)
@[simp] theorem State.generateStep_wau (t : Template) : (s.generateStep t).1.wau = s.wau :=
  (s.generateStep_keeps t).1 .wau (by decide)
@[simp] theorem State.generateStep_etm (t : Template) : (s.generateStep t).1.etm = s.etm :=
  (s.generateStep_keeps t).1 .etm (by decide)
@[simp] theorem State.generateStep_lnk (t : Template) : (s.generateStep t).1.lnk = s.lnk :=
  (s.generateStep_keeps t).1 .lnk (by decide)
@[simp] theorem State.generateStep_rqd (t : Template) : (s.generateStep t).1.rqd = s.rqd :=
  (s.generateStep_keeps t).1 .rqd (by decide)
@[simp] theorem State.generateStep_arbiter (t : Template) : (s.generateStep t).1.arbiter = s.arbiter :=
  (s.generateStep_keeps t).2.1
@[simp] theorem State.generateStep_pending (t : Template) : (s.generateStep t).1.pending = s.pending :=
  (s.generateStep_keeps t).2.2
@[simp] theorem State.line_generateStep (t : Template) (j : LineNo) : (s.generateStep t).1.line j = s.line j := by
  simp only [State.line, State.generateStep_siu]
@[simp] theorem State.segment_generateStep (t : Template) (j : SegNo) : (s.generateStep t).1.segment j = s.segment j := by
  simp only [State.segment, State.generateStep_smu]
@[simp] theorem State.defn_generateStep (t : Template) (j : SegNo) : (s.generateStep t).1.defn j = s.defn j := by
  simp only [State.defn, State.segment, State.generateStep_smu]
@[simp] theorem State.run_generateStep (t : Template) (j : SegNo) : (s.generateStep t).1.run j = s.run j := by
  simp only [State.run, State.segment, State.generateStep_smu]
@[simp] theorem State.track_generateStep (t : Template) (j : SegNo) : (s.generateStep t).1.track j = s.track j := by
  simp only [State.track, State.generateStep_itu]
@[simp] theorem State.member_generateStep (t : Template) (j : MemberNo) : (s.generateStep t).1.member j = s.member j := by
  simp only [State.member, State.generateStep_wau]

theorem State.generateSteps_keeps (n : Nat) :
    KeepsAllBut [.spl, .nq] s (State.generateSteps n s) := by
  induction n generalizing s with
  | zero => exact KeepsAllBut.refl _ _
  | succ n ih =>
    unfold State.generateSteps
    split
    · split
      · exact KeepsAllBut.refl _ _
      · rename_i t _
        simp only
        split
        · exact s.generateStep_keeps t
        · exact (s.generateStep_keeps t).trans (ih _)
    · exact KeepsAllBut.refl _ _

@[simp] theorem State.generateSteps_siu (n : Nat) : (State.generateSteps n s).siu = s.siu :=
  (s.generateSteps_keeps n).1 .siu (by decide)
@[simp] theorem State.generateSteps_smu (n : Nat) : (State.generateSteps n s).smu = s.smu :=
  (s.generateSteps_keeps n).1 .smu (by decide)
@[simp] theorem State.generateSteps_itu (n : Nat) : (State.generateSteps n s).itu = s.itu :=
  (s.generateSteps_keeps n).1 .itu (by decide)
@[simp] theorem State.generateSteps_wau (n : Nat) : (State.generateSteps n s).wau = s.wau :=
  (s.generateSteps_keeps n).1 .wau (by decide)
@[simp] theorem State.generateSteps_etm (n : Nat) : (State.generateSteps n s).etm = s.etm :=
  (s.generateSteps_keeps n).1 .etm (by decide)
@[simp] theorem State.generateSteps_lnk (n : Nat) : (State.generateSteps n s).lnk = s.lnk :=
  (s.generateSteps_keeps n).1 .lnk (by decide)
@[simp] theorem State.generateSteps_rqd (n : Nat) : (State.generateSteps n s).rqd = s.rqd :=
  (s.generateSteps_keeps n).1 .rqd (by decide)
@[simp] theorem State.generateSteps_arbiter (n : Nat) : (State.generateSteps n s).arbiter = s.arbiter :=
  (s.generateSteps_keeps n).2.1
@[simp] theorem State.generateSteps_pending (n : Nat) : (State.generateSteps n s).pending = s.pending :=
  (s.generateSteps_keeps n).2.2
@[simp] theorem State.line_generateSteps (n : Nat) (j : LineNo) : (State.generateSteps n s).line j = s.line j := by
  simp only [State.line, State.generateSteps_siu]
@[simp] theorem State.segment_generateSteps (n : Nat) (j : SegNo) : (State.generateSteps n s).segment j = s.segment j := by
  simp only [State.segment, State.generateSteps_smu]
@[simp] theorem State.defn_generateSteps (n : Nat) (j : SegNo) : (State.generateSteps n s).defn j = s.defn j := by
  simp only [State.defn, State.segment, State.generateSteps_smu]
@[simp] theorem State.run_generateSteps (n : Nat) (j : SegNo) : (State.generateSteps n s).run j = s.run j := by
  simp only [State.run, State.segment, State.generateSteps_smu]
@[simp] theorem State.track_generateSteps (n : Nat) (j : SegNo) : (State.generateSteps n s).track j = s.track j := by
  simp only [State.track, State.generateSteps_itu]
@[simp] theorem State.member_generateSteps (n : Nat) (j : MemberNo) : (State.generateSteps n s).member j = s.member j := by
  simp only [State.member, State.generateSteps_wau]

theorem State.generate_keeps :
    KeepsAllBut [.spl, .nq] s s.generate := by
  exact s.generateSteps_keeps _

@[simp] theorem State.generate_siu : s.generate.siu = s.siu :=
  (s.generate_keeps).1 .siu (by decide)
@[simp] theorem State.generate_smu : s.generate.smu = s.smu :=
  (s.generate_keeps).1 .smu (by decide)
@[simp] theorem State.generate_itu : s.generate.itu = s.itu :=
  (s.generate_keeps).1 .itu (by decide)
@[simp] theorem State.generate_wau : s.generate.wau = s.wau :=
  (s.generate_keeps).1 .wau (by decide)
@[simp] theorem State.generate_etm : s.generate.etm = s.etm :=
  (s.generate_keeps).1 .etm (by decide)
@[simp] theorem State.generate_lnk : s.generate.lnk = s.lnk :=
  (s.generate_keeps).1 .lnk (by decide)
@[simp] theorem State.generate_rqd : s.generate.rqd = s.rqd :=
  (s.generate_keeps).1 .rqd (by decide)
@[simp] theorem State.generate_arbiter : s.generate.arbiter = s.arbiter :=
  (s.generate_keeps).2.1
@[simp] theorem State.generate_pending : s.generate.pending = s.pending :=
  (s.generate_keeps).2.2
@[simp] theorem State.line_generate (j : LineNo) : s.generate.line j = s.line j := by
  simp only [State.line, State.generate_siu]
@[simp] theorem State.segment_generate (j : SegNo) : s.generate.segment j = s.segment j := by
  simp only [State.segment, State.generate_smu]
@[simp] theorem State.defn_generate (j : SegNo) : s.generate.defn j = s.defn j := by
  simp only [State.defn, State.segment, State.generate_smu]
@[simp] theorem State.run_generate (j : SegNo) : s.generate.run j = s.run j := by
  simp only [State.run, State.segment, State.generate_smu]
@[simp] theorem State.track_generate (j : SegNo) : s.generate.track j = s.track j := by
  simp only [State.track, State.generate_itu]
@[simp] theorem State.member_generate (j : MemberNo) : s.generate.member j = s.member j := by
  simp only [State.member, State.generate_wau]

theorem State.removeWindow_keeps (tag : Nat) :
    KeepsAllBut [.spl] s (s.removeWindow tag).1 := by
  have h := fun (s : State) (l : List SlotNo) => keepsAllBut_foldl (fun s x => s.mapSlot_keeps Order.propose x) l s
  simp only [keepsAllBut_iff, List.mem_singleton, reduceCtorEq, false_or, true_or, true_and] at h
  unfold State.removeWindow
  simp [keepsAllBut_iff, h]

@[simp] theorem State.removeWindow_siu (tag : Nat) : (s.removeWindow tag).1.siu = s.siu :=
  (s.removeWindow_keeps tag).1 .siu (by decide)
@[simp] theorem State.removeWindow_smu (tag : Nat) : (s.removeWindow tag).1.smu = s.smu :=
  (s.removeWindow_keeps tag).1 .smu (by decide)
@[simp] theorem State.removeWindow_itu (tag : Nat) : (s.removeWindow tag).1.itu = s.itu :=
  (s.removeWindow_keeps tag).1 .itu (by decide)
@[simp] theorem State.removeWindow_wau (tag : Nat) : (s.removeWindow tag).1.wau = s.wau :=
  (s.removeWindow_keeps tag).1 .wau (by decide)
@[simp] theorem State.removeWindow_etm (tag : Nat) : (s.removeWindow tag).1.etm = s.etm :=
  (s.removeWindow_keeps tag).1 .etm (by decide)
@[simp] theorem State.removeWindow_nq (tag : Nat) : (s.removeWindow tag).1.nq = s.nq :=
  (s.removeWindow_keeps tag).1 .nq (by decide)
@[simp] theorem State.removeWindow_lnk (tag : Nat) : (s.removeWindow tag).1.lnk = s.lnk :=
  (s.removeWindow_keeps tag).1 .lnk (by decide)
@[simp] theorem State.removeWindow_rqd (tag : Nat) : (s.removeWindow tag).1.rqd = s.rqd :=
  (s.removeWindow_keeps tag).1 .rqd (by decide)
@[simp] theorem State.removeWindow_arbiter (tag : Nat) : (s.removeWindow tag).1.arbiter = s.arbiter :=
  (s.removeWindow_keeps tag).2.1
@[simp] theorem State.removeWindow_pending (tag : Nat) : (s.removeWindow tag).1.pending = s.pending :=
  (s.removeWindow_keeps tag).2.2
@[simp] theorem State.line_removeWindow (tag : Nat) (j : LineNo) : (s.removeWindow tag).1.line j = s.line j := by
  simp only [State.line, State.removeWindow_siu]
@[simp] theorem State.segment_removeWindow (tag : Nat) (j : SegNo) : (s.removeWindow tag).1.segment j = s.segment j := by
  simp only [State.segment, State.removeWindow_smu]
@[simp] theorem State.defn_removeWindow (tag : Nat) (j : SegNo) : (s.removeWindow tag).1.defn j = s.defn j := by
  simp only [State.defn, State.segment, State.removeWindow_smu]
@[simp] theorem State.run_removeWindow (tag : Nat) (j : SegNo) : (s.removeWindow tag).1.run j = s.run j := by
  simp only [State.run, State.segment, State.removeWindow_smu]
@[simp] theorem State.track_removeWindow (tag : Nat) (j : SegNo) : (s.removeWindow tag).1.track j = s.track j := by
  simp only [State.track, State.removeWindow_itu]
@[simp] theorem State.member_removeWindow (tag : Nat) (j : MemberNo) : (s.removeWindow tag).1.member j = s.member j := by
  simp only [State.member, State.removeWindow_wau]

theorem State.removeOrderOf_keeps (n : MemberNo) :
    KeepsAllBut [.spl] s (s.removeOrderOf n) := by
  unfold State.removeOrderOf
  (repeat' split) <;> simp [keepsAllBut_iff]

@[simp] theorem State.removeOrderOf_siu (n : MemberNo) : (s.removeOrderOf n).siu = s.siu :=
  (s.removeOrderOf_keeps n).1 .siu (by decide)
@[simp] theorem State.removeOrderOf_smu (n : MemberNo) : (s.removeOrderOf n).smu = s.smu :=
  (s.removeOrderOf_keeps n).1 .smu (by decide)
@[simp] theorem State.removeOrderOf_itu (n : MemberNo) : (s.removeOrderOf n).itu = s.itu :=
  (s.removeOrderOf_keeps n).1 .itu (by decide)
@[simp] theorem State.removeOrderOf_wau (n : MemberNo) : (s.removeOrderOf n).wau = s.wau :=
  (s.removeOrderOf_keeps n).1 .wau (by decide)
@[simp] theorem State.removeOrderOf_etm (n : MemberNo) : (s.removeOrderOf n).etm = s.etm :=
  (s.removeOrderOf_keeps n).1 .etm (by decide)
@[simp] theorem State.removeOrderOf_nq (n : MemberNo) : (s.removeOrderOf n).nq = s.nq :=
  (s.removeOrderOf_keeps n).1 .nq (by decide)
@[simp] theorem State.removeOrderOf_lnk (n : MemberNo) : (s.removeOrderOf n).lnk = s.lnk :=
  (s.removeOrderOf_keeps n).1 .lnk (by decide)
@[simp] theorem State.removeOrderOf_rqd (n : MemberNo) : (s.removeOrderOf n).rqd = s.rqd :=
  (s.removeOrderOf_keeps n).1 .rqd (by decide)
@[simp] theorem State.removeOrderOf_arbiter (n : MemberNo) : (s.removeOrderOf n).arbiter = s.arbiter :=
  (s.removeOrderOf_keeps n).2.1
@[simp] theorem State.removeOrderOf_pending (n : MemberNo) : (s.removeOrderOf n).pending = s.pending :=
  (s.removeOrderOf_keeps n).2.2
@[simp] theorem State.line_removeOrderOf (n : MemberNo) (j : LineNo) : (s.removeOrderOf n).line j = s.line j := by
  simp only [State.line, State.removeOrderOf_siu]
@[simp] theorem State.segment_removeOrderOf (n : MemberNo) (j : SegNo) : (s.removeOrderOf n).segment j = s.segment j := by
  simp only [State.segment, State.removeOrderOf_smu]
@[simp] theorem State.defn_removeOrderOf (n : MemberNo) (j : SegNo) : (s.removeOrderOf n).defn j = s.defn j := by
  simp only [State.defn, State.segment, State.removeOrderOf_smu]
@[simp] theorem State.run_removeOrderOf (n : MemberNo) (j : SegNo) : (s.removeOrderOf n).run j = s.run j := by
  simp only [State.run, State.segment, State.removeOrderOf_smu]
@[simp] theorem State.track_removeOrderOf (n : MemberNo) (j : SegNo) : (s.removeOrderOf n).track j = s.track j := by
  simp only [State.track, State.removeOrderOf_itu]
@[simp] theorem State.member_removeOrderOf (n : MemberNo) (j : MemberNo) : (s.removeOrderOf n).member j = s.member j := by
  simp only [State.member, State.removeOrderOf_wau]

theorem State.walkCreate_keeps (n : MemberNo) (m : Member) (r : Reason) (due : Nat) :
    KeepsAllBut [.spl] s (s.walkCreate n m r due) := by
  unfold State.walkCreate
  (repeat' split) <;> simp [keepsAllBut_iff]

@[simp] theorem State.walkCreate_siu (n : MemberNo) (m : Member) (r : Reason) (due : Nat) : (s.walkCreate n m r due).siu = s.siu :=
  (s.walkCreate_keeps n m r due).1 .siu (by decide)
@[simp] theorem State.walkCreate_smu (n : MemberNo) (m : Member) (r : Reason) (due : Nat) : (s.walkCreate n m r due).smu = s.smu :=
  (s.walkCreate_keeps n m r due).1 .smu (by decide)
@[simp] theorem State.walkCreate_itu (n : MemberNo) (m : Member) (r : Reason) (due : Nat) : (s.walkCreate n m r due).itu = s.itu :=
  (s.walkCreate_keeps n m r due).1 .itu (by decide)
@[simp] theorem State.walkCreate_wau (n : MemberNo) (m : Member) (r : Reason) (due : Nat) : (s.walkCreate n m r due).wau = s.wau :=
  (s.walkCreate_keeps n m r due).1 .wau (by decide)
@[simp] theorem State.walkCreate_etm (n : MemberNo) (m : Member) (r : Reason) (due : Nat) : (s.walkCreate n m r due).etm = s.etm :=
  (s.walkCreate_keeps n m r due).1 .etm (by decide)
@[simp] theorem State.walkCreate_nq (n : MemberNo) (m : Member) (r : Reason) (due : Nat) : (s.walkCreate n m r due).nq = s.nq :=
  (s.walkCreate_keeps n m r due).1 .nq (by decide)
@[simp] theorem State.walkCreate_lnk (n : MemberNo) (m : Member) (r : Reason) (due : Nat) : (s.walkCreate n m r due).lnk = s.lnk :=
  (s.walkCreate_keeps n m r due).1 .lnk (by decide)
@[simp] theorem State.walkCreate_rqd (n : MemberNo) (m : Member) (r : Reason) (due : Nat) : (s.walkCreate n m r due).rqd = s.rqd :=
  (s.walkCreate_keeps n m r due).1 .rqd (by decide)
@[simp] theorem State.walkCreate_arbiter (n : MemberNo) (m : Member) (r : Reason) (due : Nat) : (s.walkCreate n m r due).arbiter = s.arbiter :=
  (s.walkCreate_keeps n m r due).2.1
@[simp] theorem State.walkCreate_pending (n : MemberNo) (m : Member) (r : Reason) (due : Nat) : (s.walkCreate n m r due).pending = s.pending :=
  (s.walkCreate_keeps n m r due).2.2
@[simp] theorem State.line_walkCreate (n : MemberNo) (m : Member) (r : Reason) (due : Nat) (j : LineNo) : (s.walkCreate n m r due).line j = s.line j := by
  simp only [State.line, State.walkCreate_siu]
@[simp] theorem State.segment_walkCreate (n : MemberNo) (m : Member) (r : Reason) (due : Nat) (j : SegNo) : (s.walkCreate n m r due).segment j = s.segment j := by
  simp only [State.segment, State.walkCreate_smu]
@[simp] theorem State.defn_walkCreate (n : MemberNo) (m : Member) (r : Reason) (due : Nat) (j : SegNo) : (s.walkCreate n m r due).defn j = s.defn j := by
  simp only [State.defn, State.segment, State.walkCreate_smu]
@[simp] theorem State.run_walkCreate (n : MemberNo) (m : Member) (r : Reason) (due : Nat) (j : SegNo) : (s.walkCreate n m r due).run j = s.run j := by
  simp only [State.run, State.segment, State.walkCreate_smu]
@[simp] theorem State.track_walkCreate (n : MemberNo) (m : Member) (r : Reason) (due : Nat) (j : SegNo) : (s.walkCreate n m r due).track j = s.track j := by
  simp only [State.track, State.walkCreate_itu]
@[simp] theorem State.member_walkCreate (n : MemberNo) (m : Member) (r : Reason) (due : Nat) (j : MemberNo) : (s.walkCreate n m r due).member j = s.member j := by
  simp only [State.member, State.walkCreate_wau]

theorem State.withdraw_keeps (k : SlotNo) (o : Order) :
    KeepsAllBut [.spl, .nq] s (s.withdraw k o) := by
  unfold State.withdraw; simp [keepsAllBut_iff]

@[simp] theorem State.withdraw_siu (k : SlotNo) (o : Order) : (s.withdraw k o).siu = s.siu :=
  (s.withdraw_keeps k o).1 .siu (by decide)
@[simp] theorem State.withdraw_smu (k : SlotNo) (o : Order) : (s.withdraw k o).smu = s.smu :=
  (s.withdraw_keeps k o).1 .smu (by decide)
@[simp] theorem State.withdraw_itu (k : SlotNo) (o : Order) : (s.withdraw k o).itu = s.itu :=
  (s.withdraw_keeps k o).1 .itu (by decide)
@[simp] theorem State.withdraw_wau (k : SlotNo) (o : Order) : (s.withdraw k o).wau = s.wau :=
  (s.withdraw_keeps k o).1 .wau (by decide)
@[simp] theorem State.withdraw_etm (k : SlotNo) (o : Order) : (s.withdraw k o).etm = s.etm :=
  (s.withdraw_keeps k o).1 .etm (by decide)
@[simp] theorem State.withdraw_lnk (k : SlotNo) (o : Order) : (s.withdraw k o).lnk = s.lnk :=
  (s.withdraw_keeps k o).1 .lnk (by decide)
@[simp] theorem State.withdraw_rqd (k : SlotNo) (o : Order) : (s.withdraw k o).rqd = s.rqd :=
  (s.withdraw_keeps k o).1 .rqd (by decide)
@[simp] theorem State.withdraw_arbiter (k : SlotNo) (o : Order) : (s.withdraw k o).arbiter = s.arbiter :=
  (s.withdraw_keeps k o).2.1
@[simp] theorem State.withdraw_pending (k : SlotNo) (o : Order) : (s.withdraw k o).pending = s.pending :=
  (s.withdraw_keeps k o).2.2
@[simp] theorem State.line_withdraw (k : SlotNo) (o : Order) (j : LineNo) : (s.withdraw k o).line j = s.line j := by
  simp only [State.line, State.withdraw_siu]
@[simp] theorem State.segment_withdraw (k : SlotNo) (o : Order) (j : SegNo) : (s.withdraw k o).segment j = s.segment j := by
  simp only [State.segment, State.withdraw_smu]
@[simp] theorem State.defn_withdraw (k : SlotNo) (o : Order) (j : SegNo) : (s.withdraw k o).defn j = s.defn j := by
  simp only [State.defn, State.segment, State.withdraw_smu]
@[simp] theorem State.run_withdraw (k : SlotNo) (o : Order) (j : SegNo) : (s.withdraw k o).run j = s.run j := by
  simp only [State.run, State.segment, State.withdraw_smu]
@[simp] theorem State.track_withdraw (k : SlotNo) (o : Order) (j : SegNo) : (s.withdraw k o).track j = s.track j := by
  simp only [State.track, State.withdraw_itu]
@[simp] theorem State.member_withdraw (k : SlotNo) (o : Order) (j : MemberNo) : (s.withdraw k o).member j = s.member j := by
  simp only [State.member, State.withdraw_wau]

theorem State.walkMember_keeps (n : MemberNo) (m : Member) :
    KeepsAllBut [.spl, .nq] s (s.walkMember n m) := by
  unfold State.walkMember
  (repeat' split) <;> simp [keepsAllBut_iff]

@[simp] theorem State.walkMember_siu (n : MemberNo) (m : Member) : (s.walkMember n m).siu = s.siu :=
  (s.walkMember_keeps n m).1 .siu (by decide)
@[simp] theorem State.walkMember_smu (n : MemberNo) (m : Member) : (s.walkMember n m).smu = s.smu :=
  (s.walkMember_keeps n m).1 .smu (by decide)
@[simp] theorem State.walkMember_itu (n : MemberNo) (m : Member) : (s.walkMember n m).itu = s.itu :=
  (s.walkMember_keeps n m).1 .itu (by decide)
@[simp] theorem State.walkMember_wau (n : MemberNo) (m : Member) : (s.walkMember n m).wau = s.wau :=
  (s.walkMember_keeps n m).1 .wau (by decide)
@[simp] theorem State.walkMember_etm (n : MemberNo) (m : Member) : (s.walkMember n m).etm = s.etm :=
  (s.walkMember_keeps n m).1 .etm (by decide)
@[simp] theorem State.walkMember_lnk (n : MemberNo) (m : Member) : (s.walkMember n m).lnk = s.lnk :=
  (s.walkMember_keeps n m).1 .lnk (by decide)
@[simp] theorem State.walkMember_rqd (n : MemberNo) (m : Member) : (s.walkMember n m).rqd = s.rqd :=
  (s.walkMember_keeps n m).1 .rqd (by decide)
@[simp] theorem State.walkMember_arbiter (n : MemberNo) (m : Member) : (s.walkMember n m).arbiter = s.arbiter :=
  (s.walkMember_keeps n m).2.1
@[simp] theorem State.walkMember_pending (n : MemberNo) (m : Member) : (s.walkMember n m).pending = s.pending :=
  (s.walkMember_keeps n m).2.2
@[simp] theorem State.line_walkMember (n : MemberNo) (m : Member) (j : LineNo) : (s.walkMember n m).line j = s.line j := by
  simp only [State.line, State.walkMember_siu]
@[simp] theorem State.segment_walkMember (n : MemberNo) (m : Member) (j : SegNo) : (s.walkMember n m).segment j = s.segment j := by
  simp only [State.segment, State.walkMember_smu]
@[simp] theorem State.defn_walkMember (n : MemberNo) (m : Member) (j : SegNo) : (s.walkMember n m).defn j = s.defn j := by
  simp only [State.defn, State.segment, State.walkMember_smu]
@[simp] theorem State.run_walkMember (n : MemberNo) (m : Member) (j : SegNo) : (s.walkMember n m).run j = s.run j := by
  simp only [State.run, State.segment, State.walkMember_smu]
@[simp] theorem State.track_walkMember (n : MemberNo) (m : Member) (j : SegNo) : (s.walkMember n m).track j = s.track j := by
  simp only [State.track, State.walkMember_itu]
@[simp] theorem State.member_walkMember (n : MemberNo) (m : Member) (j : MemberNo) : (s.walkMember n m).member j = s.member j := by
  simp only [State.member, State.walkMember_wau]

theorem State.walkStep_keeps (next : Nat) :
    KeepsAllBut [.spl, .nq] s (s.walkStep next) := by
  unfold State.walkStep
  (repeat' split) <;> simp [keepsAllBut_iff]

@[simp] theorem State.walkStep_siu (next : Nat) : (s.walkStep next).siu = s.siu :=
  (s.walkStep_keeps next).1 .siu (by decide)
@[simp] theorem State.walkStep_smu (next : Nat) : (s.walkStep next).smu = s.smu :=
  (s.walkStep_keeps next).1 .smu (by decide)
@[simp] theorem State.walkStep_itu (next : Nat) : (s.walkStep next).itu = s.itu :=
  (s.walkStep_keeps next).1 .itu (by decide)
@[simp] theorem State.walkStep_wau (next : Nat) : (s.walkStep next).wau = s.wau :=
  (s.walkStep_keeps next).1 .wau (by decide)
@[simp] theorem State.walkStep_etm (next : Nat) : (s.walkStep next).etm = s.etm :=
  (s.walkStep_keeps next).1 .etm (by decide)
@[simp] theorem State.walkStep_lnk (next : Nat) : (s.walkStep next).lnk = s.lnk :=
  (s.walkStep_keeps next).1 .lnk (by decide)
@[simp] theorem State.walkStep_rqd (next : Nat) : (s.walkStep next).rqd = s.rqd :=
  (s.walkStep_keeps next).1 .rqd (by decide)
@[simp] theorem State.walkStep_arbiter (next : Nat) : (s.walkStep next).arbiter = s.arbiter :=
  (s.walkStep_keeps next).2.1
@[simp] theorem State.walkStep_pending (next : Nat) : (s.walkStep next).pending = s.pending :=
  (s.walkStep_keeps next).2.2
@[simp] theorem State.line_walkStep (next : Nat) (j : LineNo) : (s.walkStep next).line j = s.line j := by
  simp only [State.line, State.walkStep_siu]
@[simp] theorem State.segment_walkStep (next : Nat) (j : SegNo) : (s.walkStep next).segment j = s.segment j := by
  simp only [State.segment, State.walkStep_smu]
@[simp] theorem State.defn_walkStep (next : Nat) (j : SegNo) : (s.walkStep next).defn j = s.defn j := by
  simp only [State.defn, State.segment, State.walkStep_smu]
@[simp] theorem State.run_walkStep (next : Nat) (j : SegNo) : (s.walkStep next).run j = s.run j := by
  simp only [State.run, State.segment, State.walkStep_smu]
@[simp] theorem State.track_walkStep (next : Nat) (j : SegNo) : (s.walkStep next).track j = s.track j := by
  simp only [State.track, State.walkStep_itu]
@[simp] theorem State.member_walkStep (next : Nat) (j : MemberNo) : (s.walkStep next).member j = s.member j := by
  simp only [State.member, State.walkStep_wau]

theorem State.walkCommand_keeps :
    KeepsAllBut [.spl, .nq] s s.walkCommand := by
  unfold State.walkCommand
  (repeat' split) <;> simp [keepsAllBut_iff]

@[simp] theorem State.walkCommand_siu : s.walkCommand.siu = s.siu :=
  (s.walkCommand_keeps).1 .siu (by decide)
@[simp] theorem State.walkCommand_smu : s.walkCommand.smu = s.smu :=
  (s.walkCommand_keeps).1 .smu (by decide)
@[simp] theorem State.walkCommand_itu : s.walkCommand.itu = s.itu :=
  (s.walkCommand_keeps).1 .itu (by decide)
@[simp] theorem State.walkCommand_wau : s.walkCommand.wau = s.wau :=
  (s.walkCommand_keeps).1 .wau (by decide)
@[simp] theorem State.walkCommand_etm : s.walkCommand.etm = s.etm :=
  (s.walkCommand_keeps).1 .etm (by decide)
@[simp] theorem State.walkCommand_lnk : s.walkCommand.lnk = s.lnk :=
  (s.walkCommand_keeps).1 .lnk (by decide)
@[simp] theorem State.walkCommand_rqd : s.walkCommand.rqd = s.rqd :=
  (s.walkCommand_keeps).1 .rqd (by decide)
@[simp] theorem State.walkCommand_arbiter : s.walkCommand.arbiter = s.arbiter :=
  (s.walkCommand_keeps).2.1
@[simp] theorem State.walkCommand_pending : s.walkCommand.pending = s.pending :=
  (s.walkCommand_keeps).2.2
@[simp] theorem State.line_walkCommand (j : LineNo) : s.walkCommand.line j = s.line j := by
  simp only [State.line, State.walkCommand_siu]
@[simp] theorem State.segment_walkCommand (j : SegNo) : s.walkCommand.segment j = s.segment j := by
  simp only [State.segment, State.walkCommand_smu]
@[simp] theorem State.defn_walkCommand (j : SegNo) : s.walkCommand.defn j = s.defn j := by
  simp only [State.defn, State.segment, State.walkCommand_smu]
@[simp] theorem State.run_walkCommand (j : SegNo) : s.walkCommand.run j = s.run j := by
  simp only [State.run, State.segment, State.walkCommand_smu]
@[simp] theorem State.track_walkCommand (j : SegNo) : s.walkCommand.track j = s.track j := by
  simp only [State.track, State.walkCommand_itu]
@[simp] theorem State.member_walkCommand (j : MemberNo) : s.walkCommand.member j = s.member j := by
  simp only [State.member, State.walkCommand_wau]

theorem State.walkVisits_keeps (k : Nat) :
    KeepsAllBut [.spl, .nq] s (State.walkVisits k s) := by
  induction k generalizing s with
  | zero => exact KeepsAllBut.refl _ _
  | succ k ih => exact s.walkCommand_keeps.trans (ih _)

@[simp] theorem State.walkVisits_siu (k : Nat) : (State.walkVisits k s).siu = s.siu :=
  (s.walkVisits_keeps k).1 .siu (by decide)
@[simp] theorem State.walkVisits_smu (k : Nat) : (State.walkVisits k s).smu = s.smu :=
  (s.walkVisits_keeps k).1 .smu (by decide)
@[simp] theorem State.walkVisits_itu (k : Nat) : (State.walkVisits k s).itu = s.itu :=
  (s.walkVisits_keeps k).1 .itu (by decide)
@[simp] theorem State.walkVisits_wau (k : Nat) : (State.walkVisits k s).wau = s.wau :=
  (s.walkVisits_keeps k).1 .wau (by decide)
@[simp] theorem State.walkVisits_etm (k : Nat) : (State.walkVisits k s).etm = s.etm :=
  (s.walkVisits_keeps k).1 .etm (by decide)
@[simp] theorem State.walkVisits_lnk (k : Nat) : (State.walkVisits k s).lnk = s.lnk :=
  (s.walkVisits_keeps k).1 .lnk (by decide)
@[simp] theorem State.walkVisits_rqd (k : Nat) : (State.walkVisits k s).rqd = s.rqd :=
  (s.walkVisits_keeps k).1 .rqd (by decide)
@[simp] theorem State.walkVisits_arbiter (k : Nat) : (State.walkVisits k s).arbiter = s.arbiter :=
  (s.walkVisits_keeps k).2.1
@[simp] theorem State.walkVisits_pending (k : Nat) : (State.walkVisits k s).pending = s.pending :=
  (s.walkVisits_keeps k).2.2
@[simp] theorem State.line_walkVisits (k : Nat) (j : LineNo) : (State.walkVisits k s).line j = s.line j := by
  simp only [State.line, State.walkVisits_siu]
@[simp] theorem State.segment_walkVisits (k : Nat) (j : SegNo) : (State.walkVisits k s).segment j = s.segment j := by
  simp only [State.segment, State.walkVisits_smu]
@[simp] theorem State.defn_walkVisits (k : Nat) (j : SegNo) : (State.walkVisits k s).defn j = s.defn j := by
  simp only [State.defn, State.segment, State.walkVisits_smu]
@[simp] theorem State.run_walkVisits (k : Nat) (j : SegNo) : (State.walkVisits k s).run j = s.run j := by
  simp only [State.run, State.segment, State.walkVisits_smu]
@[simp] theorem State.track_walkVisits (k : Nat) (j : SegNo) : (State.walkVisits k s).track j = s.track j := by
  simp only [State.track, State.walkVisits_itu]
@[simp] theorem State.member_walkVisits (k : Nat) (j : MemberNo) : (State.walkVisits k s).member j = s.member j := by
  simp only [State.member, State.walkVisits_wau]

theorem State.rebuildUsed_keeps :
    KeepsAllBut [.spl] s s.rebuildUsed := by
  unfold State.rebuildUsed; simp [keepsAllBut_iff]

@[simp] theorem State.rebuildUsed_siu : s.rebuildUsed.siu = s.siu :=
  (s.rebuildUsed_keeps).1 .siu (by decide)
@[simp] theorem State.rebuildUsed_smu : s.rebuildUsed.smu = s.smu :=
  (s.rebuildUsed_keeps).1 .smu (by decide)
@[simp] theorem State.rebuildUsed_itu : s.rebuildUsed.itu = s.itu :=
  (s.rebuildUsed_keeps).1 .itu (by decide)
@[simp] theorem State.rebuildUsed_wau : s.rebuildUsed.wau = s.wau :=
  (s.rebuildUsed_keeps).1 .wau (by decide)
@[simp] theorem State.rebuildUsed_etm : s.rebuildUsed.etm = s.etm :=
  (s.rebuildUsed_keeps).1 .etm (by decide)
@[simp] theorem State.rebuildUsed_nq : s.rebuildUsed.nq = s.nq :=
  (s.rebuildUsed_keeps).1 .nq (by decide)
@[simp] theorem State.rebuildUsed_lnk : s.rebuildUsed.lnk = s.lnk :=
  (s.rebuildUsed_keeps).1 .lnk (by decide)
@[simp] theorem State.rebuildUsed_rqd : s.rebuildUsed.rqd = s.rqd :=
  (s.rebuildUsed_keeps).1 .rqd (by decide)
@[simp] theorem State.rebuildUsed_arbiter : s.rebuildUsed.arbiter = s.arbiter :=
  (s.rebuildUsed_keeps).2.1
@[simp] theorem State.rebuildUsed_pending : s.rebuildUsed.pending = s.pending :=
  (s.rebuildUsed_keeps).2.2
@[simp] theorem State.line_rebuildUsed (j : LineNo) : s.rebuildUsed.line j = s.line j := by
  simp only [State.line, State.rebuildUsed_siu]
@[simp] theorem State.segment_rebuildUsed (j : SegNo) : s.rebuildUsed.segment j = s.segment j := by
  simp only [State.segment, State.rebuildUsed_smu]
@[simp] theorem State.defn_rebuildUsed (j : SegNo) : s.rebuildUsed.defn j = s.defn j := by
  simp only [State.defn, State.segment, State.rebuildUsed_smu]
@[simp] theorem State.run_rebuildUsed (j : SegNo) : s.rebuildUsed.run j = s.run j := by
  simp only [State.run, State.segment, State.rebuildUsed_smu]
@[simp] theorem State.track_rebuildUsed (j : SegNo) : s.rebuildUsed.track j = s.track j := by
  simp only [State.track, State.rebuildUsed_itu]
@[simp] theorem State.member_rebuildUsed (j : MemberNo) : s.rebuildUsed.member j = s.member j := by
  simp only [State.member, State.rebuildUsed_wau]

theorem State.copyStep_keeps (next : Nat) :
    KeepsAllBut [.spl] s (s.copyStep next) := by
  unfold State.copyStep
  (repeat' split) <;> simp [keepsAllBut_iff]

@[simp] theorem State.copyStep_siu (next : Nat) : (s.copyStep next).siu = s.siu :=
  (s.copyStep_keeps next).1 .siu (by decide)
@[simp] theorem State.copyStep_smu (next : Nat) : (s.copyStep next).smu = s.smu :=
  (s.copyStep_keeps next).1 .smu (by decide)
@[simp] theorem State.copyStep_itu (next : Nat) : (s.copyStep next).itu = s.itu :=
  (s.copyStep_keeps next).1 .itu (by decide)
@[simp] theorem State.copyStep_wau (next : Nat) : (s.copyStep next).wau = s.wau :=
  (s.copyStep_keeps next).1 .wau (by decide)
@[simp] theorem State.copyStep_etm (next : Nat) : (s.copyStep next).etm = s.etm :=
  (s.copyStep_keeps next).1 .etm (by decide)
@[simp] theorem State.copyStep_nq (next : Nat) : (s.copyStep next).nq = s.nq :=
  (s.copyStep_keeps next).1 .nq (by decide)
@[simp] theorem State.copyStep_lnk (next : Nat) : (s.copyStep next).lnk = s.lnk :=
  (s.copyStep_keeps next).1 .lnk (by decide)
@[simp] theorem State.copyStep_rqd (next : Nat) : (s.copyStep next).rqd = s.rqd :=
  (s.copyStep_keeps next).1 .rqd (by decide)
@[simp] theorem State.copyStep_arbiter (next : Nat) : (s.copyStep next).arbiter = s.arbiter :=
  (s.copyStep_keeps next).2.1
@[simp] theorem State.copyStep_pending (next : Nat) : (s.copyStep next).pending = s.pending :=
  (s.copyStep_keeps next).2.2
@[simp] theorem State.line_copyStep (next : Nat) (j : LineNo) : (s.copyStep next).line j = s.line j := by
  simp only [State.line, State.copyStep_siu]
@[simp] theorem State.segment_copyStep (next : Nat) (j : SegNo) : (s.copyStep next).segment j = s.segment j := by
  simp only [State.segment, State.copyStep_smu]
@[simp] theorem State.defn_copyStep (next : Nat) (j : SegNo) : (s.copyStep next).defn j = s.defn j := by
  simp only [State.defn, State.segment, State.copyStep_smu]
@[simp] theorem State.run_copyStep (next : Nat) (j : SegNo) : (s.copyStep next).run j = s.run j := by
  simp only [State.run, State.segment, State.copyStep_smu]
@[simp] theorem State.track_copyStep (next : Nat) (j : SegNo) : (s.copyStep next).track j = s.track j := by
  simp only [State.track, State.copyStep_itu]
@[simp] theorem State.member_copyStep (next : Nat) (j : MemberNo) : (s.copyStep next).member j = s.member j := by
  simp only [State.member, State.copyStep_wau]

theorem State.takeBackStep_keeps (next : Nat) :
    KeepsAllBut [.spl] s (s.takeBackStep next) := by
  unfold State.takeBackStep
  (repeat' split) <;> simp [keepsAllBut_iff]

@[simp] theorem State.takeBackStep_siu (next : Nat) : (s.takeBackStep next).siu = s.siu :=
  (s.takeBackStep_keeps next).1 .siu (by decide)
@[simp] theorem State.takeBackStep_smu (next : Nat) : (s.takeBackStep next).smu = s.smu :=
  (s.takeBackStep_keeps next).1 .smu (by decide)
@[simp] theorem State.takeBackStep_itu (next : Nat) : (s.takeBackStep next).itu = s.itu :=
  (s.takeBackStep_keeps next).1 .itu (by decide)
@[simp] theorem State.takeBackStep_wau (next : Nat) : (s.takeBackStep next).wau = s.wau :=
  (s.takeBackStep_keeps next).1 .wau (by decide)
@[simp] theorem State.takeBackStep_etm (next : Nat) : (s.takeBackStep next).etm = s.etm :=
  (s.takeBackStep_keeps next).1 .etm (by decide)
@[simp] theorem State.takeBackStep_nq (next : Nat) : (s.takeBackStep next).nq = s.nq :=
  (s.takeBackStep_keeps next).1 .nq (by decide)
@[simp] theorem State.takeBackStep_lnk (next : Nat) : (s.takeBackStep next).lnk = s.lnk :=
  (s.takeBackStep_keeps next).1 .lnk (by decide)
@[simp] theorem State.takeBackStep_rqd (next : Nat) : (s.takeBackStep next).rqd = s.rqd :=
  (s.takeBackStep_keeps next).1 .rqd (by decide)
@[simp] theorem State.takeBackStep_arbiter (next : Nat) : (s.takeBackStep next).arbiter = s.arbiter :=
  (s.takeBackStep_keeps next).2.1
@[simp] theorem State.takeBackStep_pending (next : Nat) : (s.takeBackStep next).pending = s.pending :=
  (s.takeBackStep_keeps next).2.2
@[simp] theorem State.line_takeBackStep (next : Nat) (j : LineNo) : (s.takeBackStep next).line j = s.line j := by
  simp only [State.line, State.takeBackStep_siu]
@[simp] theorem State.segment_takeBackStep (next : Nat) (j : SegNo) : (s.takeBackStep next).segment j = s.segment j := by
  simp only [State.segment, State.takeBackStep_smu]
@[simp] theorem State.defn_takeBackStep (next : Nat) (j : SegNo) : (s.takeBackStep next).defn j = s.defn j := by
  simp only [State.defn, State.segment, State.takeBackStep_smu]
@[simp] theorem State.run_takeBackStep (next : Nat) (j : SegNo) : (s.takeBackStep next).run j = s.run j := by
  simp only [State.run, State.segment, State.takeBackStep_smu]
@[simp] theorem State.track_takeBackStep (next : Nat) (j : SegNo) : (s.takeBackStep next).track j = s.track j := by
  simp only [State.track, State.takeBackStep_itu]
@[simp] theorem State.member_takeBackStep (next : Nat) (j : MemberNo) : (s.takeBackStep next).member j = s.member j := by
  simp only [State.member, State.takeBackStep_wau]

theorem State.placeOrder_keeps (k : SlotNo) (o : Order) (w : MaintWindow) (late : Bool) :
    KeepsAllBut [.spl] s (s.placeOrder k o w late) := by
  unfold State.placeOrder; simp [keepsAllBut_iff]

@[simp] theorem State.placeOrder_siu (k : SlotNo) (o : Order) (w : MaintWindow) (late : Bool) : (s.placeOrder k o w late).siu = s.siu :=
  (s.placeOrder_keeps k o w late).1 .siu (by decide)
@[simp] theorem State.placeOrder_smu (k : SlotNo) (o : Order) (w : MaintWindow) (late : Bool) : (s.placeOrder k o w late).smu = s.smu :=
  (s.placeOrder_keeps k o w late).1 .smu (by decide)
@[simp] theorem State.placeOrder_itu (k : SlotNo) (o : Order) (w : MaintWindow) (late : Bool) : (s.placeOrder k o w late).itu = s.itu :=
  (s.placeOrder_keeps k o w late).1 .itu (by decide)
@[simp] theorem State.placeOrder_wau (k : SlotNo) (o : Order) (w : MaintWindow) (late : Bool) : (s.placeOrder k o w late).wau = s.wau :=
  (s.placeOrder_keeps k o w late).1 .wau (by decide)
@[simp] theorem State.placeOrder_etm (k : SlotNo) (o : Order) (w : MaintWindow) (late : Bool) : (s.placeOrder k o w late).etm = s.etm :=
  (s.placeOrder_keeps k o w late).1 .etm (by decide)
@[simp] theorem State.placeOrder_nq (k : SlotNo) (o : Order) (w : MaintWindow) (late : Bool) : (s.placeOrder k o w late).nq = s.nq :=
  (s.placeOrder_keeps k o w late).1 .nq (by decide)
@[simp] theorem State.placeOrder_lnk (k : SlotNo) (o : Order) (w : MaintWindow) (late : Bool) : (s.placeOrder k o w late).lnk = s.lnk :=
  (s.placeOrder_keeps k o w late).1 .lnk (by decide)
@[simp] theorem State.placeOrder_rqd (k : SlotNo) (o : Order) (w : MaintWindow) (late : Bool) : (s.placeOrder k o w late).rqd = s.rqd :=
  (s.placeOrder_keeps k o w late).1 .rqd (by decide)
@[simp] theorem State.placeOrder_arbiter (k : SlotNo) (o : Order) (w : MaintWindow) (late : Bool) : (s.placeOrder k o w late).arbiter = s.arbiter :=
  (s.placeOrder_keeps k o w late).2.1
@[simp] theorem State.placeOrder_pending (k : SlotNo) (o : Order) (w : MaintWindow) (late : Bool) : (s.placeOrder k o w late).pending = s.pending :=
  (s.placeOrder_keeps k o w late).2.2
@[simp] theorem State.line_placeOrder (k : SlotNo) (o : Order) (w : MaintWindow) (late : Bool) (j : LineNo) : (s.placeOrder k o w late).line j = s.line j := by
  simp only [State.line, State.placeOrder_siu]
@[simp] theorem State.segment_placeOrder (k : SlotNo) (o : Order) (w : MaintWindow) (late : Bool) (j : SegNo) : (s.placeOrder k o w late).segment j = s.segment j := by
  simp only [State.segment, State.placeOrder_smu]
@[simp] theorem State.defn_placeOrder (k : SlotNo) (o : Order) (w : MaintWindow) (late : Bool) (j : SegNo) : (s.placeOrder k o w late).defn j = s.defn j := by
  simp only [State.defn, State.segment, State.placeOrder_smu]
@[simp] theorem State.run_placeOrder (k : SlotNo) (o : Order) (w : MaintWindow) (late : Bool) (j : SegNo) : (s.placeOrder k o w late).run j = s.run j := by
  simp only [State.run, State.segment, State.placeOrder_smu]
@[simp] theorem State.track_placeOrder (k : SlotNo) (o : Order) (w : MaintWindow) (late : Bool) (j : SegNo) : (s.placeOrder k o w late).track j = s.track j := by
  simp only [State.track, State.placeOrder_itu]
@[simp] theorem State.member_placeOrder (k : SlotNo) (o : Order) (w : MaintWindow) (late : Bool) (j : MemberNo) : (s.placeOrder k o w late).member j = s.member j := by
  simp only [State.member, State.placeOrder_wau]

theorem State.leaveUnplaced_keeps (o : Order) :
    KeepsAllBut [.spl, .nq] s (s.leaveUnplaced o) := by
  unfold State.leaveUnplaced
  (repeat' split) <;> simp [keepsAllBut_iff]

@[simp] theorem State.leaveUnplaced_siu (o : Order) : (s.leaveUnplaced o).siu = s.siu :=
  (s.leaveUnplaced_keeps o).1 .siu (by decide)
@[simp] theorem State.leaveUnplaced_smu (o : Order) : (s.leaveUnplaced o).smu = s.smu :=
  (s.leaveUnplaced_keeps o).1 .smu (by decide)
@[simp] theorem State.leaveUnplaced_itu (o : Order) : (s.leaveUnplaced o).itu = s.itu :=
  (s.leaveUnplaced_keeps o).1 .itu (by decide)
@[simp] theorem State.leaveUnplaced_wau (o : Order) : (s.leaveUnplaced o).wau = s.wau :=
  (s.leaveUnplaced_keeps o).1 .wau (by decide)
@[simp] theorem State.leaveUnplaced_etm (o : Order) : (s.leaveUnplaced o).etm = s.etm :=
  (s.leaveUnplaced_keeps o).1 .etm (by decide)
@[simp] theorem State.leaveUnplaced_lnk (o : Order) : (s.leaveUnplaced o).lnk = s.lnk :=
  (s.leaveUnplaced_keeps o).1 .lnk (by decide)
@[simp] theorem State.leaveUnplaced_rqd (o : Order) : (s.leaveUnplaced o).rqd = s.rqd :=
  (s.leaveUnplaced_keeps o).1 .rqd (by decide)
@[simp] theorem State.leaveUnplaced_arbiter (o : Order) : (s.leaveUnplaced o).arbiter = s.arbiter :=
  (s.leaveUnplaced_keeps o).2.1
@[simp] theorem State.leaveUnplaced_pending (o : Order) : (s.leaveUnplaced o).pending = s.pending :=
  (s.leaveUnplaced_keeps o).2.2
@[simp] theorem State.line_leaveUnplaced (o : Order) (j : LineNo) : (s.leaveUnplaced o).line j = s.line j := by
  simp only [State.line, State.leaveUnplaced_siu]
@[simp] theorem State.segment_leaveUnplaced (o : Order) (j : SegNo) : (s.leaveUnplaced o).segment j = s.segment j := by
  simp only [State.segment, State.leaveUnplaced_smu]
@[simp] theorem State.defn_leaveUnplaced (o : Order) (j : SegNo) : (s.leaveUnplaced o).defn j = s.defn j := by
  simp only [State.defn, State.segment, State.leaveUnplaced_smu]
@[simp] theorem State.run_leaveUnplaced (o : Order) (j : SegNo) : (s.leaveUnplaced o).run j = s.run j := by
  simp only [State.run, State.segment, State.leaveUnplaced_smu]
@[simp] theorem State.track_leaveUnplaced (o : Order) (j : SegNo) : (s.leaveUnplaced o).track j = s.track j := by
  simp only [State.track, State.leaveUnplaced_itu]
@[simp] theorem State.member_leaveUnplaced (o : Order) (j : MemberNo) : (s.leaveUnplaced o).member j = s.member j := by
  simp only [State.member, State.leaveUnplaced_wau]

theorem State.placeMember_keeps (n : MemberNo) :
    KeepsAllBut [.spl, .nq] s (s.placeMember n) := by
  unfold State.placeMember
  (repeat' split) <;> simp [keepsAllBut_iff]

@[simp] theorem State.placeMember_siu (n : MemberNo) : (s.placeMember n).siu = s.siu :=
  (s.placeMember_keeps n).1 .siu (by decide)
@[simp] theorem State.placeMember_smu (n : MemberNo) : (s.placeMember n).smu = s.smu :=
  (s.placeMember_keeps n).1 .smu (by decide)
@[simp] theorem State.placeMember_itu (n : MemberNo) : (s.placeMember n).itu = s.itu :=
  (s.placeMember_keeps n).1 .itu (by decide)
@[simp] theorem State.placeMember_wau (n : MemberNo) : (s.placeMember n).wau = s.wau :=
  (s.placeMember_keeps n).1 .wau (by decide)
@[simp] theorem State.placeMember_etm (n : MemberNo) : (s.placeMember n).etm = s.etm :=
  (s.placeMember_keeps n).1 .etm (by decide)
@[simp] theorem State.placeMember_lnk (n : MemberNo) : (s.placeMember n).lnk = s.lnk :=
  (s.placeMember_keeps n).1 .lnk (by decide)
@[simp] theorem State.placeMember_rqd (n : MemberNo) : (s.placeMember n).rqd = s.rqd :=
  (s.placeMember_keeps n).1 .rqd (by decide)
@[simp] theorem State.placeMember_arbiter (n : MemberNo) : (s.placeMember n).arbiter = s.arbiter :=
  (s.placeMember_keeps n).2.1
@[simp] theorem State.placeMember_pending (n : MemberNo) : (s.placeMember n).pending = s.pending :=
  (s.placeMember_keeps n).2.2
@[simp] theorem State.line_placeMember (n : MemberNo) (j : LineNo) : (s.placeMember n).line j = s.line j := by
  simp only [State.line, State.placeMember_siu]
@[simp] theorem State.segment_placeMember (n : MemberNo) (j : SegNo) : (s.placeMember n).segment j = s.segment j := by
  simp only [State.segment, State.placeMember_smu]
@[simp] theorem State.defn_placeMember (n : MemberNo) (j : SegNo) : (s.placeMember n).defn j = s.defn j := by
  simp only [State.defn, State.segment, State.placeMember_smu]
@[simp] theorem State.run_placeMember (n : MemberNo) (j : SegNo) : (s.placeMember n).run j = s.run j := by
  simp only [State.run, State.segment, State.placeMember_smu]
@[simp] theorem State.track_placeMember (n : MemberNo) (j : SegNo) : (s.placeMember n).track j = s.track j := by
  simp only [State.track, State.placeMember_itu]
@[simp] theorem State.member_placeMember (n : MemberNo) (j : MemberNo) : (s.placeMember n).member j = s.member j := by
  simp only [State.member, State.placeMember_wau]

theorem State.gangOrder_keeps (k : SlotNo) (o : Order) (w : MaintWindow) :
    KeepsAllBut [.spl] s (s.gangOrder k o w) := by
  unfold State.gangOrder; simp [keepsAllBut_iff]

@[simp] theorem State.gangOrder_siu (k : SlotNo) (o : Order) (w : MaintWindow) : (s.gangOrder k o w).siu = s.siu :=
  (s.gangOrder_keeps k o w).1 .siu (by decide)
@[simp] theorem State.gangOrder_smu (k : SlotNo) (o : Order) (w : MaintWindow) : (s.gangOrder k o w).smu = s.smu :=
  (s.gangOrder_keeps k o w).1 .smu (by decide)
@[simp] theorem State.gangOrder_itu (k : SlotNo) (o : Order) (w : MaintWindow) : (s.gangOrder k o w).itu = s.itu :=
  (s.gangOrder_keeps k o w).1 .itu (by decide)
@[simp] theorem State.gangOrder_wau (k : SlotNo) (o : Order) (w : MaintWindow) : (s.gangOrder k o w).wau = s.wau :=
  (s.gangOrder_keeps k o w).1 .wau (by decide)
@[simp] theorem State.gangOrder_etm (k : SlotNo) (o : Order) (w : MaintWindow) : (s.gangOrder k o w).etm = s.etm :=
  (s.gangOrder_keeps k o w).1 .etm (by decide)
@[simp] theorem State.gangOrder_nq (k : SlotNo) (o : Order) (w : MaintWindow) : (s.gangOrder k o w).nq = s.nq :=
  (s.gangOrder_keeps k o w).1 .nq (by decide)
@[simp] theorem State.gangOrder_lnk (k : SlotNo) (o : Order) (w : MaintWindow) : (s.gangOrder k o w).lnk = s.lnk :=
  (s.gangOrder_keeps k o w).1 .lnk (by decide)
@[simp] theorem State.gangOrder_rqd (k : SlotNo) (o : Order) (w : MaintWindow) : (s.gangOrder k o w).rqd = s.rqd :=
  (s.gangOrder_keeps k o w).1 .rqd (by decide)
@[simp] theorem State.gangOrder_arbiter (k : SlotNo) (o : Order) (w : MaintWindow) : (s.gangOrder k o w).arbiter = s.arbiter :=
  (s.gangOrder_keeps k o w).2.1
@[simp] theorem State.gangOrder_pending (k : SlotNo) (o : Order) (w : MaintWindow) : (s.gangOrder k o w).pending = s.pending :=
  (s.gangOrder_keeps k o w).2.2
@[simp] theorem State.line_gangOrder (k : SlotNo) (o : Order) (w : MaintWindow) (j : LineNo) : (s.gangOrder k o w).line j = s.line j := by
  simp only [State.line, State.gangOrder_siu]
@[simp] theorem State.segment_gangOrder (k : SlotNo) (o : Order) (w : MaintWindow) (j : SegNo) : (s.gangOrder k o w).segment j = s.segment j := by
  simp only [State.segment, State.gangOrder_smu]
@[simp] theorem State.defn_gangOrder (k : SlotNo) (o : Order) (w : MaintWindow) (j : SegNo) : (s.gangOrder k o w).defn j = s.defn j := by
  simp only [State.defn, State.segment, State.gangOrder_smu]
@[simp] theorem State.run_gangOrder (k : SlotNo) (o : Order) (w : MaintWindow) (j : SegNo) : (s.gangOrder k o w).run j = s.run j := by
  simp only [State.run, State.segment, State.gangOrder_smu]
@[simp] theorem State.track_gangOrder (k : SlotNo) (o : Order) (w : MaintWindow) (j : SegNo) : (s.gangOrder k o w).track j = s.track j := by
  simp only [State.track, State.gangOrder_itu]
@[simp] theorem State.member_gangOrder (k : SlotNo) (o : Order) (w : MaintWindow) (j : MemberNo) : (s.gangOrder k o w).member j = s.member j := by
  simp only [State.member, State.gangOrder_wau]

theorem State.gangMember_keeps (tag : Nat) (n : MemberNo) :
    KeepsAllBut [.spl] s (State.gangMember tag s n) := by
  unfold State.gangMember; (repeat' split) <;> simp [keepsAllBut_iff]

@[simp] theorem State.gangMember_siu (tag : Nat) (n : MemberNo) : (State.gangMember tag s n).siu = s.siu :=
  (s.gangMember_keeps tag n).1 .siu (by decide)
@[simp] theorem State.gangMember_smu (tag : Nat) (n : MemberNo) : (State.gangMember tag s n).smu = s.smu :=
  (s.gangMember_keeps tag n).1 .smu (by decide)
@[simp] theorem State.gangMember_itu (tag : Nat) (n : MemberNo) : (State.gangMember tag s n).itu = s.itu :=
  (s.gangMember_keeps tag n).1 .itu (by decide)
@[simp] theorem State.gangMember_wau (tag : Nat) (n : MemberNo) : (State.gangMember tag s n).wau = s.wau :=
  (s.gangMember_keeps tag n).1 .wau (by decide)
@[simp] theorem State.gangMember_etm (tag : Nat) (n : MemberNo) : (State.gangMember tag s n).etm = s.etm :=
  (s.gangMember_keeps tag n).1 .etm (by decide)
@[simp] theorem State.gangMember_nq (tag : Nat) (n : MemberNo) : (State.gangMember tag s n).nq = s.nq :=
  (s.gangMember_keeps tag n).1 .nq (by decide)
@[simp] theorem State.gangMember_lnk (tag : Nat) (n : MemberNo) : (State.gangMember tag s n).lnk = s.lnk :=
  (s.gangMember_keeps tag n).1 .lnk (by decide)
@[simp] theorem State.gangMember_rqd (tag : Nat) (n : MemberNo) : (State.gangMember tag s n).rqd = s.rqd :=
  (s.gangMember_keeps tag n).1 .rqd (by decide)
@[simp] theorem State.gangMember_arbiter (tag : Nat) (n : MemberNo) : (State.gangMember tag s n).arbiter = s.arbiter :=
  (s.gangMember_keeps tag n).2.1
@[simp] theorem State.gangMember_pending (tag : Nat) (n : MemberNo) : (State.gangMember tag s n).pending = s.pending :=
  (s.gangMember_keeps tag n).2.2
@[simp] theorem State.line_gangMember (tag : Nat) (n : MemberNo) (j : LineNo) : (State.gangMember tag s n).line j = s.line j := by
  simp only [State.line, State.gangMember_siu]
@[simp] theorem State.segment_gangMember (tag : Nat) (n : MemberNo) (j : SegNo) : (State.gangMember tag s n).segment j = s.segment j := by
  simp only [State.segment, State.gangMember_smu]
@[simp] theorem State.defn_gangMember (tag : Nat) (n : MemberNo) (j : SegNo) : (State.gangMember tag s n).defn j = s.defn j := by
  simp only [State.defn, State.segment, State.gangMember_smu]
@[simp] theorem State.run_gangMember (tag : Nat) (n : MemberNo) (j : SegNo) : (State.gangMember tag s n).run j = s.run j := by
  simp only [State.run, State.segment, State.gangMember_smu]
@[simp] theorem State.track_gangMember (tag : Nat) (n : MemberNo) (j : SegNo) : (State.gangMember tag s n).track j = s.track j := by
  simp only [State.track, State.gangMember_itu]
@[simp] theorem State.member_gangMember (tag : Nat) (n : MemberNo) (j : MemberNo) : (State.gangMember tag s n).member j = s.member j := by
  simp only [State.member, State.gangMember_wau]

theorem State.gangStep_keeps (i : Nat) :
    KeepsAllBut [.spl] s (s.gangStep i) := by
  unfold State.gangStep
  (repeat' split) <;> simp [keepsAllBut_iff]

@[simp] theorem State.gangStep_siu (i : Nat) : (s.gangStep i).siu = s.siu :=
  (s.gangStep_keeps i).1 .siu (by decide)
@[simp] theorem State.gangStep_smu (i : Nat) : (s.gangStep i).smu = s.smu :=
  (s.gangStep_keeps i).1 .smu (by decide)
@[simp] theorem State.gangStep_itu (i : Nat) : (s.gangStep i).itu = s.itu :=
  (s.gangStep_keeps i).1 .itu (by decide)
@[simp] theorem State.gangStep_wau (i : Nat) : (s.gangStep i).wau = s.wau :=
  (s.gangStep_keeps i).1 .wau (by decide)
@[simp] theorem State.gangStep_etm (i : Nat) : (s.gangStep i).etm = s.etm :=
  (s.gangStep_keeps i).1 .etm (by decide)
@[simp] theorem State.gangStep_nq (i : Nat) : (s.gangStep i).nq = s.nq :=
  (s.gangStep_keeps i).1 .nq (by decide)
@[simp] theorem State.gangStep_lnk (i : Nat) : (s.gangStep i).lnk = s.lnk :=
  (s.gangStep_keeps i).1 .lnk (by decide)
@[simp] theorem State.gangStep_rqd (i : Nat) : (s.gangStep i).rqd = s.rqd :=
  (s.gangStep_keeps i).1 .rqd (by decide)
@[simp] theorem State.gangStep_arbiter (i : Nat) : (s.gangStep i).arbiter = s.arbiter :=
  (s.gangStep_keeps i).2.1
@[simp] theorem State.gangStep_pending (i : Nat) : (s.gangStep i).pending = s.pending :=
  (s.gangStep_keeps i).2.2
@[simp] theorem State.line_gangStep (i : Nat) (j : LineNo) : (s.gangStep i).line j = s.line j := by
  simp only [State.line, State.gangStep_siu]
@[simp] theorem State.segment_gangStep (i : Nat) (j : SegNo) : (s.gangStep i).segment j = s.segment j := by
  simp only [State.segment, State.gangStep_smu]
@[simp] theorem State.defn_gangStep (i : Nat) (j : SegNo) : (s.gangStep i).defn j = s.defn j := by
  simp only [State.defn, State.segment, State.gangStep_smu]
@[simp] theorem State.run_gangStep (i : Nat) (j : SegNo) : (s.gangStep i).run j = s.run j := by
  simp only [State.run, State.segment, State.gangStep_smu]
@[simp] theorem State.track_gangStep (i : Nat) (j : SegNo) : (s.gangStep i).track j = s.track j := by
  simp only [State.track, State.gangStep_itu]
@[simp] theorem State.member_gangStep (i : Nat) (j : MemberNo) : (s.gangStep i).member j = s.member j := by
  simp only [State.member, State.gangStep_wau]

theorem State.gangRollerStep_keeps (place : Nat) (g : SegNo) (tag next : Nat) :
    KeepsAllBut [.spl] s (s.gangRollerStep place g tag next) := by
  unfold State.gangRollerStep
  (repeat' split) <;> simp [keepsAllBut_iff]

@[simp] theorem State.gangRollerStep_siu (place : Nat) (g : SegNo) (tag next : Nat) : (s.gangRollerStep place g tag next).siu = s.siu :=
  (s.gangRollerStep_keeps place g tag next).1 .siu (by decide)
@[simp] theorem State.gangRollerStep_smu (place : Nat) (g : SegNo) (tag next : Nat) : (s.gangRollerStep place g tag next).smu = s.smu :=
  (s.gangRollerStep_keeps place g tag next).1 .smu (by decide)
@[simp] theorem State.gangRollerStep_itu (place : Nat) (g : SegNo) (tag next : Nat) : (s.gangRollerStep place g tag next).itu = s.itu :=
  (s.gangRollerStep_keeps place g tag next).1 .itu (by decide)
@[simp] theorem State.gangRollerStep_wau (place : Nat) (g : SegNo) (tag next : Nat) : (s.gangRollerStep place g tag next).wau = s.wau :=
  (s.gangRollerStep_keeps place g tag next).1 .wau (by decide)
@[simp] theorem State.gangRollerStep_etm (place : Nat) (g : SegNo) (tag next : Nat) : (s.gangRollerStep place g tag next).etm = s.etm :=
  (s.gangRollerStep_keeps place g tag next).1 .etm (by decide)
@[simp] theorem State.gangRollerStep_nq (place : Nat) (g : SegNo) (tag next : Nat) : (s.gangRollerStep place g tag next).nq = s.nq :=
  (s.gangRollerStep_keeps place g tag next).1 .nq (by decide)
@[simp] theorem State.gangRollerStep_lnk (place : Nat) (g : SegNo) (tag next : Nat) : (s.gangRollerStep place g tag next).lnk = s.lnk :=
  (s.gangRollerStep_keeps place g tag next).1 .lnk (by decide)
@[simp] theorem State.gangRollerStep_rqd (place : Nat) (g : SegNo) (tag next : Nat) : (s.gangRollerStep place g tag next).rqd = s.rqd :=
  (s.gangRollerStep_keeps place g tag next).1 .rqd (by decide)
@[simp] theorem State.gangRollerStep_arbiter (place : Nat) (g : SegNo) (tag next : Nat) : (s.gangRollerStep place g tag next).arbiter = s.arbiter :=
  (s.gangRollerStep_keeps place g tag next).2.1
@[simp] theorem State.gangRollerStep_pending (place : Nat) (g : SegNo) (tag next : Nat) : (s.gangRollerStep place g tag next).pending = s.pending :=
  (s.gangRollerStep_keeps place g tag next).2.2
@[simp] theorem State.line_gangRollerStep (place : Nat) (g : SegNo) (tag next : Nat) (j : LineNo) : (s.gangRollerStep place g tag next).line j = s.line j := by
  simp only [State.line, State.gangRollerStep_siu]
@[simp] theorem State.segment_gangRollerStep (place : Nat) (g : SegNo) (tag next : Nat) (j : SegNo) : (s.gangRollerStep place g tag next).segment j = s.segment j := by
  simp only [State.segment, State.gangRollerStep_smu]
@[simp] theorem State.defn_gangRollerStep (place : Nat) (g : SegNo) (tag next : Nat) (j : SegNo) : (s.gangRollerStep place g tag next).defn j = s.defn j := by
  simp only [State.defn, State.segment, State.gangRollerStep_smu]
@[simp] theorem State.run_gangRollerStep (place : Nat) (g : SegNo) (tag next : Nat) (j : SegNo) : (s.gangRollerStep place g tag next).run j = s.run j := by
  simp only [State.run, State.segment, State.gangRollerStep_smu]
@[simp] theorem State.track_gangRollerStep (place : Nat) (g : SegNo) (tag next : Nat) (j : SegNo) : (s.gangRollerStep place g tag next).track j = s.track j := by
  simp only [State.track, State.gangRollerStep_itu]
@[simp] theorem State.member_gangRollerStep (place : Nat) (g : SegNo) (tag next : Nat) (j : MemberNo) : (s.gangRollerStep place g tag next).member j = s.member j := by
  simp only [State.member, State.gangRollerStep_wau]

theorem State.clearPlan_keeps :
    KeepsAllBut [.spl] s s.clearPlan := by
  unfold State.clearPlan; simp [keepsAllBut_iff]

@[simp] theorem State.clearPlan_siu : s.clearPlan.siu = s.siu :=
  (s.clearPlan_keeps).1 .siu (by decide)
@[simp] theorem State.clearPlan_smu : s.clearPlan.smu = s.smu :=
  (s.clearPlan_keeps).1 .smu (by decide)
@[simp] theorem State.clearPlan_itu : s.clearPlan.itu = s.itu :=
  (s.clearPlan_keeps).1 .itu (by decide)
@[simp] theorem State.clearPlan_wau : s.clearPlan.wau = s.wau :=
  (s.clearPlan_keeps).1 .wau (by decide)
@[simp] theorem State.clearPlan_etm : s.clearPlan.etm = s.etm :=
  (s.clearPlan_keeps).1 .etm (by decide)
@[simp] theorem State.clearPlan_nq : s.clearPlan.nq = s.nq :=
  (s.clearPlan_keeps).1 .nq (by decide)
@[simp] theorem State.clearPlan_lnk : s.clearPlan.lnk = s.lnk :=
  (s.clearPlan_keeps).1 .lnk (by decide)
@[simp] theorem State.clearPlan_rqd : s.clearPlan.rqd = s.rqd :=
  (s.clearPlan_keeps).1 .rqd (by decide)
@[simp] theorem State.clearPlan_arbiter : s.clearPlan.arbiter = s.arbiter :=
  (s.clearPlan_keeps).2.1
@[simp] theorem State.clearPlan_pending : s.clearPlan.pending = s.pending :=
  (s.clearPlan_keeps).2.2
@[simp] theorem State.line_clearPlan (j : LineNo) : s.clearPlan.line j = s.line j := by
  simp only [State.line, State.clearPlan_siu]
@[simp] theorem State.segment_clearPlan (j : SegNo) : s.clearPlan.segment j = s.segment j := by
  simp only [State.segment, State.clearPlan_smu]
@[simp] theorem State.defn_clearPlan (j : SegNo) : s.clearPlan.defn j = s.defn j := by
  simp only [State.defn, State.segment, State.clearPlan_smu]
@[simp] theorem State.run_clearPlan (j : SegNo) : s.clearPlan.run j = s.run j := by
  simp only [State.run, State.segment, State.clearPlan_smu]
@[simp] theorem State.track_clearPlan (j : SegNo) : s.clearPlan.track j = s.track j := by
  simp only [State.track, State.clearPlan_itu]
@[simp] theorem State.member_clearPlan (j : MemberNo) : s.clearPlan.member j = s.member j := by
  simp only [State.member, State.clearPlan_wau]

theorem State.abandonRun_keeps :
    KeepsAllBut [.spl, .nq] s s.abandonRun := by
  unfold State.abandonRun; dsimp only
  (repeat' split) <;> simp [keepsAllBut_iff]

@[simp] theorem State.abandonRun_siu : s.abandonRun.siu = s.siu :=
  (s.abandonRun_keeps).1 .siu (by decide)
@[simp] theorem State.abandonRun_smu : s.abandonRun.smu = s.smu :=
  (s.abandonRun_keeps).1 .smu (by decide)
@[simp] theorem State.abandonRun_itu : s.abandonRun.itu = s.itu :=
  (s.abandonRun_keeps).1 .itu (by decide)
@[simp] theorem State.abandonRun_wau : s.abandonRun.wau = s.wau :=
  (s.abandonRun_keeps).1 .wau (by decide)
@[simp] theorem State.abandonRun_etm : s.abandonRun.etm = s.etm :=
  (s.abandonRun_keeps).1 .etm (by decide)
@[simp] theorem State.abandonRun_lnk : s.abandonRun.lnk = s.lnk :=
  (s.abandonRun_keeps).1 .lnk (by decide)
@[simp] theorem State.abandonRun_rqd : s.abandonRun.rqd = s.rqd :=
  (s.abandonRun_keeps).1 .rqd (by decide)
@[simp] theorem State.abandonRun_arbiter : s.abandonRun.arbiter = s.arbiter :=
  (s.abandonRun_keeps).2.1
@[simp] theorem State.abandonRun_pending : s.abandonRun.pending = s.pending :=
  (s.abandonRun_keeps).2.2
@[simp] theorem State.line_abandonRun (j : LineNo) : s.abandonRun.line j = s.line j := by
  simp only [State.line, State.abandonRun_siu]
@[simp] theorem State.segment_abandonRun (j : SegNo) : s.abandonRun.segment j = s.segment j := by
  simp only [State.segment, State.abandonRun_smu]
@[simp] theorem State.defn_abandonRun (j : SegNo) : s.abandonRun.defn j = s.defn j := by
  simp only [State.defn, State.segment, State.abandonRun_smu]
@[simp] theorem State.run_abandonRun (j : SegNo) : s.abandonRun.run j = s.run j := by
  simp only [State.run, State.segment, State.abandonRun_smu]
@[simp] theorem State.track_abandonRun (j : SegNo) : s.abandonRun.track j = s.track j := by
  simp only [State.track, State.abandonRun_itu]
@[simp] theorem State.member_abandonRun (j : MemberNo) : s.abandonRun.member j = s.member j := by
  simp only [State.member, State.abandonRun_wau]

theorem State.tendWindows_keeps :
    KeepsAllBut [.spl, .nq] s s.tendWindows := by
  unfold State.tendWindows; simp [keepsAllBut_iff]

@[simp] theorem State.tendWindows_siu : s.tendWindows.siu = s.siu :=
  (s.tendWindows_keeps).1 .siu (by decide)
@[simp] theorem State.tendWindows_smu : s.tendWindows.smu = s.smu :=
  (s.tendWindows_keeps).1 .smu (by decide)
@[simp] theorem State.tendWindows_itu : s.tendWindows.itu = s.itu :=
  (s.tendWindows_keeps).1 .itu (by decide)
@[simp] theorem State.tendWindows_wau : s.tendWindows.wau = s.wau :=
  (s.tendWindows_keeps).1 .wau (by decide)
@[simp] theorem State.tendWindows_etm : s.tendWindows.etm = s.etm :=
  (s.tendWindows_keeps).1 .etm (by decide)
@[simp] theorem State.tendWindows_lnk : s.tendWindows.lnk = s.lnk :=
  (s.tendWindows_keeps).1 .lnk (by decide)
@[simp] theorem State.tendWindows_rqd : s.tendWindows.rqd = s.rqd :=
  (s.tendWindows_keeps).1 .rqd (by decide)
@[simp] theorem State.tendWindows_arbiter : s.tendWindows.arbiter = s.arbiter :=
  (s.tendWindows_keeps).2.1
@[simp] theorem State.tendWindows_pending : s.tendWindows.pending = s.pending :=
  (s.tendWindows_keeps).2.2
@[simp] theorem State.line_tendWindows (j : LineNo) : s.tendWindows.line j = s.line j := by
  simp only [State.line, State.tendWindows_siu]
@[simp] theorem State.segment_tendWindows (j : SegNo) : s.tendWindows.segment j = s.segment j := by
  simp only [State.segment, State.tendWindows_smu]
@[simp] theorem State.defn_tendWindows (j : SegNo) : s.tendWindows.defn j = s.defn j := by
  simp only [State.defn, State.segment, State.tendWindows_smu]
@[simp] theorem State.run_tendWindows (j : SegNo) : s.tendWindows.run j = s.run j := by
  simp only [State.run, State.segment, State.tendWindows_smu]
@[simp] theorem State.track_tendWindows (j : SegNo) : s.tendWindows.track j = s.track j := by
  simp only [State.track, State.tendWindows_itu]
@[simp] theorem State.member_tendWindows (j : MemberNo) : s.tendWindows.member j = s.member j := by
  simp only [State.member, State.tendWindows_wau]

end Sys2Proof.Machine
end

