-- ==== Sys2Proof/Laws/Boundary.lean ====
section
/-! SUPPORT. The frames of the operations of the boundary and the WAU's and RQD's operations (04, 05, 11): for each, the blocks it may change, and simp lemmas that read every
other block, and the tables of those blocks, past it. -/

namespace Sys2Proof.Machine

variable (s : State)

theorem State.applySettings_keeps :
    KeepsAllBut [.etm, .rqd] s s.applySettings := by
  unfold State.applySettings
  (repeat' split) <;> simp [keepsAllBut_iff]

@[simp] theorem State.applySettings_siu : s.applySettings.siu = s.siu :=
  (s.applySettings_keeps).1 .siu (by decide)
@[simp] theorem State.applySettings_smu : s.applySettings.smu = s.smu :=
  (s.applySettings_keeps).1 .smu (by decide)
@[simp] theorem State.applySettings_itu : s.applySettings.itu = s.itu :=
  (s.applySettings_keeps).1 .itu (by decide)
@[simp] theorem State.applySettings_wau : s.applySettings.wau = s.wau :=
  (s.applySettings_keeps).1 .wau (by decide)
@[simp] theorem State.applySettings_spl : s.applySettings.spl = s.spl :=
  (s.applySettings_keeps).1 .spl (by decide)
@[simp] theorem State.applySettings_nq : s.applySettings.nq = s.nq :=
  (s.applySettings_keeps).1 .nq (by decide)
@[simp] theorem State.applySettings_lnk : s.applySettings.lnk = s.lnk :=
  (s.applySettings_keeps).1 .lnk (by decide)
@[simp] theorem State.applySettings_arbiter : s.applySettings.arbiter = s.arbiter :=
  (s.applySettings_keeps).2.1
@[simp] theorem State.applySettings_pending : s.applySettings.pending = s.pending :=
  (s.applySettings_keeps).2.2
@[simp] theorem State.line_applySettings (j : LineNo) : s.applySettings.line j = s.line j := by
  simp only [State.line, State.applySettings_siu]
@[simp] theorem State.segment_applySettings (j : SegNo) : s.applySettings.segment j = s.segment j := by
  simp only [State.segment, State.applySettings_smu]
@[simp] theorem State.defn_applySettings (j : SegNo) : s.applySettings.defn j = s.defn j := by
  simp only [State.defn, State.segment, State.applySettings_smu]
@[simp] theorem State.run_applySettings (j : SegNo) : s.applySettings.run j = s.run j := by
  simp only [State.run, State.segment, State.applySettings_smu]
@[simp] theorem State.track_applySettings (j : SegNo) : s.applySettings.track j = s.track j := by
  simp only [State.track, State.applySettings_itu]
@[simp] theorem State.member_applySettings (j : MemberNo) : s.applySettings.member j = s.member j := by
  simp only [State.member, State.applySettings_wau]
@[simp] theorem State.slot_applySettings (j : SlotNo) : s.applySettings.slot j = s.slot j := by
  simp only [State.slot, State.applySettings_spl]

theorem State.enterSetup_keeps (tick : Tick) :
    KeepsAllBut [.smu, .itu, .wau, .nq, .rqd] s (s.enterSetup tick) := by
  have h := fun (s : State) (l : List SegNo) => keepsAllBut_foldl (fun s x => s.setupSegment_keeps tick x) l s
  simp only [keepsAllBut_iff, List.mem_cons, List.not_mem_nil, reduceCtorEq, false_or, true_or, or_true, or_false,
    true_and] at h
  unfold State.enterSetup
  simp [keepsAllBut_iff, h]

@[simp] theorem State.enterSetup_siu (tick : Tick) : (s.enterSetup tick).siu = s.siu :=
  (s.enterSetup_keeps tick).1 .siu (by decide)
@[simp] theorem State.enterSetup_etm (tick : Tick) : (s.enterSetup tick).etm = s.etm :=
  (s.enterSetup_keeps tick).1 .etm (by decide)
@[simp] theorem State.enterSetup_spl (tick : Tick) : (s.enterSetup tick).spl = s.spl :=
  (s.enterSetup_keeps tick).1 .spl (by decide)
@[simp] theorem State.enterSetup_lnk (tick : Tick) : (s.enterSetup tick).lnk = s.lnk :=
  (s.enterSetup_keeps tick).1 .lnk (by decide)
@[simp] theorem State.enterSetup_arbiter (tick : Tick) : (s.enterSetup tick).arbiter = s.arbiter :=
  (s.enterSetup_keeps tick).2.1
@[simp] theorem State.enterSetup_pending (tick : Tick) : (s.enterSetup tick).pending = s.pending :=
  (s.enterSetup_keeps tick).2.2
@[simp] theorem State.line_enterSetup (tick : Tick) (j : LineNo) : (s.enterSetup tick).line j = s.line j := by
  simp only [State.line, State.enterSetup_siu]
@[simp] theorem State.slot_enterSetup (tick : Tick) (j : SlotNo) : (s.enterSetup tick).slot j = s.slot j := by
  simp only [State.slot, State.enterSetup_spl]

theorem State.moveCounts_keeps :
    KeepsAllBut [.smu] s s.moveCounts := by
  unfold State.moveCounts; simp [keepsAllBut_iff]

@[simp] theorem State.moveCounts_siu : s.moveCounts.siu = s.siu :=
  (s.moveCounts_keeps).1 .siu (by decide)
@[simp] theorem State.moveCounts_itu : s.moveCounts.itu = s.itu :=
  (s.moveCounts_keeps).1 .itu (by decide)
@[simp] theorem State.moveCounts_wau : s.moveCounts.wau = s.wau :=
  (s.moveCounts_keeps).1 .wau (by decide)
@[simp] theorem State.moveCounts_etm : s.moveCounts.etm = s.etm :=
  (s.moveCounts_keeps).1 .etm (by decide)
@[simp] theorem State.moveCounts_spl : s.moveCounts.spl = s.spl :=
  (s.moveCounts_keeps).1 .spl (by decide)
@[simp] theorem State.moveCounts_nq : s.moveCounts.nq = s.nq :=
  (s.moveCounts_keeps).1 .nq (by decide)
@[simp] theorem State.moveCounts_lnk : s.moveCounts.lnk = s.lnk :=
  (s.moveCounts_keeps).1 .lnk (by decide)
@[simp] theorem State.moveCounts_rqd : s.moveCounts.rqd = s.rqd :=
  (s.moveCounts_keeps).1 .rqd (by decide)
@[simp] theorem State.moveCounts_arbiter : s.moveCounts.arbiter = s.arbiter :=
  (s.moveCounts_keeps).2.1
@[simp] theorem State.moveCounts_pending : s.moveCounts.pending = s.pending :=
  (s.moveCounts_keeps).2.2
@[simp] theorem State.line_moveCounts (j : LineNo) : s.moveCounts.line j = s.line j := by
  simp only [State.line, State.moveCounts_siu]
@[simp] theorem State.track_moveCounts (j : SegNo) : s.moveCounts.track j = s.track j := by
  simp only [State.track, State.moveCounts_itu]
@[simp] theorem State.member_moveCounts (j : MemberNo) : s.moveCounts.member j = s.member j := by
  simp only [State.member, State.moveCounts_wau]
@[simp] theorem State.slot_moveCounts (j : SlotNo) : s.moveCounts.slot j = s.slot j := by
  simp only [State.slot, State.moveCounts_spl]

theorem State.beginPass_keeps (a k : Nat) :
    KeepsAllBut [.wau] s (s.beginPass a k) := by
  unfold State.beginPass; simp [keepsAllBut_iff]

@[simp] theorem State.beginPass_siu (a k : Nat) : (s.beginPass a k).siu = s.siu :=
  (s.beginPass_keeps a k).1 .siu (by decide)
@[simp] theorem State.beginPass_smu (a k : Nat) : (s.beginPass a k).smu = s.smu :=
  (s.beginPass_keeps a k).1 .smu (by decide)
@[simp] theorem State.beginPass_itu (a k : Nat) : (s.beginPass a k).itu = s.itu :=
  (s.beginPass_keeps a k).1 .itu (by decide)
@[simp] theorem State.beginPass_etm (a k : Nat) : (s.beginPass a k).etm = s.etm :=
  (s.beginPass_keeps a k).1 .etm (by decide)
@[simp] theorem State.beginPass_spl (a k : Nat) : (s.beginPass a k).spl = s.spl :=
  (s.beginPass_keeps a k).1 .spl (by decide)
@[simp] theorem State.beginPass_nq (a k : Nat) : (s.beginPass a k).nq = s.nq :=
  (s.beginPass_keeps a k).1 .nq (by decide)
@[simp] theorem State.beginPass_lnk (a k : Nat) : (s.beginPass a k).lnk = s.lnk :=
  (s.beginPass_keeps a k).1 .lnk (by decide)
@[simp] theorem State.beginPass_rqd (a k : Nat) : (s.beginPass a k).rqd = s.rqd :=
  (s.beginPass_keeps a k).1 .rqd (by decide)
@[simp] theorem State.beginPass_arbiter (a k : Nat) : (s.beginPass a k).arbiter = s.arbiter :=
  (s.beginPass_keeps a k).2.1
@[simp] theorem State.beginPass_pending (a k : Nat) : (s.beginPass a k).pending = s.pending :=
  (s.beginPass_keeps a k).2.2
@[simp] theorem State.line_beginPass (a k : Nat) (j : LineNo) : (s.beginPass a k).line j = s.line j := by
  simp only [State.line, State.beginPass_siu]
@[simp] theorem State.segment_beginPass (a k : Nat) (j : SegNo) : (s.beginPass a k).segment j = s.segment j := by
  simp only [State.segment, State.beginPass_smu]
@[simp] theorem State.defn_beginPass (a k : Nat) (j : SegNo) : (s.beginPass a k).defn j = s.defn j := by
  simp only [State.defn, State.segment, State.beginPass_smu]
@[simp] theorem State.run_beginPass (a k : Nat) (j : SegNo) : (s.beginPass a k).run j = s.run j := by
  simp only [State.run, State.segment, State.beginPass_smu]
@[simp] theorem State.track_beginPass (a k : Nat) (j : SegNo) : (s.beginPass a k).track j = s.track j := by
  simp only [State.track, State.beginPass_itu]
@[simp] theorem State.slot_beginPass (a k : Nat) (j : SlotNo) : (s.beginPass a k).slot j = s.slot j := by
  simp only [State.slot, State.beginPass_spl]

theorem State.settle_keeps :
    KeepsAllBut [.smu, .wau, .etm] s s.settle := by
  unfold State.settle
  (repeat' split) <;> simp [keepsAllBut_iff]

@[simp] theorem State.settle_siu : s.settle.siu = s.siu :=
  (s.settle_keeps).1 .siu (by decide)
@[simp] theorem State.settle_itu : s.settle.itu = s.itu :=
  (s.settle_keeps).1 .itu (by decide)
@[simp] theorem State.settle_spl : s.settle.spl = s.spl :=
  (s.settle_keeps).1 .spl (by decide)
@[simp] theorem State.settle_nq : s.settle.nq = s.nq :=
  (s.settle_keeps).1 .nq (by decide)
@[simp] theorem State.settle_lnk : s.settle.lnk = s.lnk :=
  (s.settle_keeps).1 .lnk (by decide)
@[simp] theorem State.settle_rqd : s.settle.rqd = s.rqd :=
  (s.settle_keeps).1 .rqd (by decide)
@[simp] theorem State.settle_arbiter : s.settle.arbiter = s.arbiter :=
  (s.settle_keeps).2.1
@[simp] theorem State.settle_pending : s.settle.pending = s.pending :=
  (s.settle_keeps).2.2
@[simp] theorem State.line_settle (j : LineNo) : s.settle.line j = s.line j := by
  simp only [State.line, State.settle_siu]
@[simp] theorem State.track_settle (j : SegNo) : s.settle.track j = s.track j := by
  simp only [State.track, State.settle_itu]
@[simp] theorem State.slot_settle (j : SlotNo) : s.settle.slot j = s.slot j := by
  simp only [State.slot, State.settle_spl]

theorem State.takeShares_keeps (a k : Nat) :
    KeepsAllBut [.smu, .wau, .etm] s (s.takeShares a k) := by
  unfold State.takeShares
  (repeat' split) <;> simp [keepsAllBut_iff]

@[simp] theorem State.takeShares_siu (a k : Nat) : (s.takeShares a k).siu = s.siu :=
  (s.takeShares_keeps a k).1 .siu (by decide)
@[simp] theorem State.takeShares_itu (a k : Nat) : (s.takeShares a k).itu = s.itu :=
  (s.takeShares_keeps a k).1 .itu (by decide)
@[simp] theorem State.takeShares_spl (a k : Nat) : (s.takeShares a k).spl = s.spl :=
  (s.takeShares_keeps a k).1 .spl (by decide)
@[simp] theorem State.takeShares_nq (a k : Nat) : (s.takeShares a k).nq = s.nq :=
  (s.takeShares_keeps a k).1 .nq (by decide)
@[simp] theorem State.takeShares_lnk (a k : Nat) : (s.takeShares a k).lnk = s.lnk :=
  (s.takeShares_keeps a k).1 .lnk (by decide)
@[simp] theorem State.takeShares_rqd (a k : Nat) : (s.takeShares a k).rqd = s.rqd :=
  (s.takeShares_keeps a k).1 .rqd (by decide)
@[simp] theorem State.takeShares_arbiter (a k : Nat) : (s.takeShares a k).arbiter = s.arbiter :=
  (s.takeShares_keeps a k).2.1
@[simp] theorem State.takeShares_pending (a k : Nat) : (s.takeShares a k).pending = s.pending :=
  (s.takeShares_keeps a k).2.2
@[simp] theorem State.line_takeShares (a k : Nat) (j : LineNo) : (s.takeShares a k).line j = s.line j := by
  simp only [State.line, State.takeShares_siu]
@[simp] theorem State.track_takeShares (a k : Nat) (j : SegNo) : (s.takeShares a k).track j = s.track j := by
  simp only [State.track, State.takeShares_itu]
@[simp] theorem State.slot_takeShares (a k : Nat) (j : SlotNo) : (s.takeShares a k).slot j = s.slot j := by
  simp only [State.slot, State.takeShares_spl]

theorem State.closeAccounts_keeps (a k : Nat) :
    KeepsAllBut [.smu, .itu, .wau, .etm, .nq, .rqd] s (s.closeAccounts a k) := by
  unfold State.closeAccounts; dsimp only
  (repeat' split) <;> simp [keepsAllBut_iff]

@[simp] theorem State.closeAccounts_siu (a k : Nat) : (s.closeAccounts a k).siu = s.siu :=
  (s.closeAccounts_keeps a k).1 .siu (by decide)
@[simp] theorem State.closeAccounts_spl (a k : Nat) : (s.closeAccounts a k).spl = s.spl :=
  (s.closeAccounts_keeps a k).1 .spl (by decide)
@[simp] theorem State.closeAccounts_lnk (a k : Nat) : (s.closeAccounts a k).lnk = s.lnk :=
  (s.closeAccounts_keeps a k).1 .lnk (by decide)
@[simp] theorem State.closeAccounts_arbiter (a k : Nat) : (s.closeAccounts a k).arbiter = s.arbiter :=
  (s.closeAccounts_keeps a k).2.1
@[simp] theorem State.closeAccounts_pending (a k : Nat) : (s.closeAccounts a k).pending = s.pending :=
  (s.closeAccounts_keeps a k).2.2
@[simp] theorem State.line_closeAccounts (a k : Nat) (j : LineNo) : (s.closeAccounts a k).line j = s.line j := by
  simp only [State.line, State.closeAccounts_siu]
@[simp] theorem State.slot_closeAccounts (a k : Nat) (j : SlotNo) : (s.closeAccounts a k).slot j = s.slot j := by
  simp only [State.slot, State.closeAccounts_spl]

theorem State.boundaryPart_keeps (a k : Nat) (missed : Bool) (p : BoundaryPart) :
    KeepsAllBut [.smu, .itu, .wau, .etm, .spl, .nq, .rqd] s (State.boundaryPart a k missed s p) := by
  unfold State.boundaryPart; (repeat' split) <;> simp [keepsAllBut_iff]

@[simp] theorem State.boundaryPart_siu (a k : Nat) (missed : Bool) (p : BoundaryPart) : (State.boundaryPart a k missed s p).siu = s.siu :=
  (s.boundaryPart_keeps a k missed p).1 .siu (by decide)
@[simp] theorem State.boundaryPart_lnk (a k : Nat) (missed : Bool) (p : BoundaryPart) : (State.boundaryPart a k missed s p).lnk = s.lnk :=
  (s.boundaryPart_keeps a k missed p).1 .lnk (by decide)
@[simp] theorem State.boundaryPart_arbiter (a k : Nat) (missed : Bool) (p : BoundaryPart) : (State.boundaryPart a k missed s p).arbiter = s.arbiter :=
  (s.boundaryPart_keeps a k missed p).2.1
@[simp] theorem State.boundaryPart_pending (a k : Nat) (missed : Bool) (p : BoundaryPart) : (State.boundaryPart a k missed s p).pending = s.pending :=
  (s.boundaryPart_keeps a k missed p).2.2
@[simp] theorem State.line_boundaryPart (a k : Nat) (missed : Bool) (p : BoundaryPart) (j : LineNo) : (State.boundaryPart a k missed s p).line j = s.line j := by
  simp only [State.line, State.boundaryPart_siu]

theorem State.takeBoundary_keeps (n : Nat) (tick : Tick) (missed : Bool) :
    KeepsAllBut [.smu, .itu, .wau, .etm, .spl, .nq, .rqd] s (s.takeBoundary n tick missed) := by
  have h := fun (a k : Nat) (s : State) (l : List BoundaryPart) =>
    keepsAllBut_foldl (fun s x => s.boundaryPart_keeps a k missed x) l s
  simp only [keepsAllBut_iff, List.mem_cons, List.not_mem_nil, reduceCtorEq, false_or, true_or, or_true, or_false,
    true_and] at h
  unfold State.takeBoundary
  simp [keepsAllBut_iff, h]

@[simp] theorem State.takeBoundary_siu (n : Nat) (tick : Tick) (missed : Bool) : (s.takeBoundary n tick missed).siu = s.siu :=
  (s.takeBoundary_keeps n tick missed).1 .siu (by decide)
@[simp] theorem State.takeBoundary_lnk (n : Nat) (tick : Tick) (missed : Bool) : (s.takeBoundary n tick missed).lnk = s.lnk :=
  (s.takeBoundary_keeps n tick missed).1 .lnk (by decide)
@[simp] theorem State.takeBoundary_arbiter (n : Nat) (tick : Tick) (missed : Bool) : (s.takeBoundary n tick missed).arbiter = s.arbiter :=
  (s.takeBoundary_keeps n tick missed).2.1
@[simp] theorem State.takeBoundary_pending (n : Nat) (tick : Tick) (missed : Bool) : (s.takeBoundary n tick missed).pending = s.pending :=
  (s.takeBoundary_keeps n tick missed).2.2
@[simp] theorem State.line_takeBoundary (n : Nat) (tick : Tick) (missed : Bool) (j : LineNo) : (s.takeBoundary n tick missed).line j = s.line j := by
  simp only [State.line, State.takeBoundary_siu]

theorem State.replaceSettings_keeps (e : EpochSettings) :
    KeepsAllBut [.smu, .itu, .wau, .etm, .spl, .nq, .rqd] s (s.replaceSettings e) := by
  unfold State.replaceSettings; dsimp only
  (repeat' split) <;> simp [keepsAllBut_iff]

@[simp] theorem State.replaceSettings_siu (e : EpochSettings) : (s.replaceSettings e).siu = s.siu :=
  (s.replaceSettings_keeps e).1 .siu (by decide)
@[simp] theorem State.replaceSettings_lnk (e : EpochSettings) : (s.replaceSettings e).lnk = s.lnk :=
  (s.replaceSettings_keeps e).1 .lnk (by decide)
@[simp] theorem State.replaceSettings_arbiter (e : EpochSettings) : (s.replaceSettings e).arbiter = s.arbiter :=
  (s.replaceSettings_keeps e).2.1
@[simp] theorem State.replaceSettings_pending (e : EpochSettings) : (s.replaceSettings e).pending = s.pending :=
  (s.replaceSettings_keeps e).2.2
@[simp] theorem State.line_replaceSettings (e : EpochSettings) (j : LineNo) : (s.replaceSettings e).line j = s.line j := by
  simp only [State.line, State.replaceSettings_siu]

theorem State.takeMark_keeps (n : Nat) :
    KeepsAllBut [.smu, .itu, .wau, .etm, .spl, .nq, .rqd] s (s.takeMark n).1 := by
  unfold State.takeMark; (repeat' split) <;> simp [keepsAllBut_iff]

@[simp] theorem State.takeMark_siu (n : Nat) : (s.takeMark n).1.siu = s.siu :=
  (s.takeMark_keeps n).1 .siu (by decide)
@[simp] theorem State.takeMark_lnk (n : Nat) : (s.takeMark n).1.lnk = s.lnk :=
  (s.takeMark_keeps n).1 .lnk (by decide)
@[simp] theorem State.takeMark_arbiter (n : Nat) : (s.takeMark n).1.arbiter = s.arbiter :=
  (s.takeMark_keeps n).2.1
@[simp] theorem State.takeMark_pending (n : Nat) : (s.takeMark n).1.pending = s.pending :=
  (s.takeMark_keeps n).2.2
@[simp] theorem State.line_takeMark (n : Nat) (j : LineNo) : (s.takeMark n).1.line j = s.line j := by
  simp only [State.line, State.takeMark_siu]

theorem State.visit_keeps (p : RatePass) (n : MemberNo) :
    KeepsAllBut [.wau] s (s.visit p n) := by
  unfold State.visit
  (repeat' split) <;> simp [keepsAllBut_iff]

@[simp] theorem State.visit_siu (p : RatePass) (n : MemberNo) : (s.visit p n).siu = s.siu :=
  (s.visit_keeps p n).1 .siu (by decide)
@[simp] theorem State.visit_smu (p : RatePass) (n : MemberNo) : (s.visit p n).smu = s.smu :=
  (s.visit_keeps p n).1 .smu (by decide)
@[simp] theorem State.visit_itu (p : RatePass) (n : MemberNo) : (s.visit p n).itu = s.itu :=
  (s.visit_keeps p n).1 .itu (by decide)
@[simp] theorem State.visit_etm (p : RatePass) (n : MemberNo) : (s.visit p n).etm = s.etm :=
  (s.visit_keeps p n).1 .etm (by decide)
@[simp] theorem State.visit_spl (p : RatePass) (n : MemberNo) : (s.visit p n).spl = s.spl :=
  (s.visit_keeps p n).1 .spl (by decide)
@[simp] theorem State.visit_nq (p : RatePass) (n : MemberNo) : (s.visit p n).nq = s.nq :=
  (s.visit_keeps p n).1 .nq (by decide)
@[simp] theorem State.visit_lnk (p : RatePass) (n : MemberNo) : (s.visit p n).lnk = s.lnk :=
  (s.visit_keeps p n).1 .lnk (by decide)
@[simp] theorem State.visit_rqd (p : RatePass) (n : MemberNo) : (s.visit p n).rqd = s.rqd :=
  (s.visit_keeps p n).1 .rqd (by decide)
@[simp] theorem State.visit_arbiter (p : RatePass) (n : MemberNo) : (s.visit p n).arbiter = s.arbiter :=
  (s.visit_keeps p n).2.1
@[simp] theorem State.visit_pending (p : RatePass) (n : MemberNo) : (s.visit p n).pending = s.pending :=
  (s.visit_keeps p n).2.2
@[simp] theorem State.line_visit (p : RatePass) (n : MemberNo) (j : LineNo) : (s.visit p n).line j = s.line j := by
  simp only [State.line, State.visit_siu]
@[simp] theorem State.segment_visit (p : RatePass) (n : MemberNo) (j : SegNo) : (s.visit p n).segment j = s.segment j := by
  simp only [State.segment, State.visit_smu]
@[simp] theorem State.defn_visit (p : RatePass) (n : MemberNo) (j : SegNo) : (s.visit p n).defn j = s.defn j := by
  simp only [State.defn, State.segment, State.visit_smu]
@[simp] theorem State.run_visit (p : RatePass) (n : MemberNo) (j : SegNo) : (s.visit p n).run j = s.run j := by
  simp only [State.run, State.segment, State.visit_smu]
@[simp] theorem State.track_visit (p : RatePass) (n : MemberNo) (j : SegNo) : (s.visit p n).track j = s.track j := by
  simp only [State.track, State.visit_itu]
@[simp] theorem State.slot_visit (p : RatePass) (n : MemberNo) (j : SlotNo) : (s.visit p n).slot j = s.slot j := by
  simp only [State.slot, State.visit_spl]

theorem State.writeEvaluated_keeps (n : MemberNo) (e : Member × List (NoticeKind × Nat)) :
    KeepsAllBut [.wau, .nq] s (s.writeEvaluated n e) := by
  unfold State.writeEvaluated; simp [keepsAllBut_iff]

@[simp] theorem State.writeEvaluated_siu (n : MemberNo) (e : Member × List (NoticeKind × Nat)) : (s.writeEvaluated n e).siu = s.siu :=
  (s.writeEvaluated_keeps n e).1 .siu (by decide)
@[simp] theorem State.writeEvaluated_smu (n : MemberNo) (e : Member × List (NoticeKind × Nat)) : (s.writeEvaluated n e).smu = s.smu :=
  (s.writeEvaluated_keeps n e).1 .smu (by decide)
@[simp] theorem State.writeEvaluated_itu (n : MemberNo) (e : Member × List (NoticeKind × Nat)) : (s.writeEvaluated n e).itu = s.itu :=
  (s.writeEvaluated_keeps n e).1 .itu (by decide)
@[simp] theorem State.writeEvaluated_etm (n : MemberNo) (e : Member × List (NoticeKind × Nat)) : (s.writeEvaluated n e).etm = s.etm :=
  (s.writeEvaluated_keeps n e).1 .etm (by decide)
@[simp] theorem State.writeEvaluated_spl (n : MemberNo) (e : Member × List (NoticeKind × Nat)) : (s.writeEvaluated n e).spl = s.spl :=
  (s.writeEvaluated_keeps n e).1 .spl (by decide)
@[simp] theorem State.writeEvaluated_lnk (n : MemberNo) (e : Member × List (NoticeKind × Nat)) : (s.writeEvaluated n e).lnk = s.lnk :=
  (s.writeEvaluated_keeps n e).1 .lnk (by decide)
@[simp] theorem State.writeEvaluated_rqd (n : MemberNo) (e : Member × List (NoticeKind × Nat)) : (s.writeEvaluated n e).rqd = s.rqd :=
  (s.writeEvaluated_keeps n e).1 .rqd (by decide)
@[simp] theorem State.writeEvaluated_arbiter (n : MemberNo) (e : Member × List (NoticeKind × Nat)) : (s.writeEvaluated n e).arbiter = s.arbiter :=
  (s.writeEvaluated_keeps n e).2.1
@[simp] theorem State.writeEvaluated_pending (n : MemberNo) (e : Member × List (NoticeKind × Nat)) : (s.writeEvaluated n e).pending = s.pending :=
  (s.writeEvaluated_keeps n e).2.2
@[simp] theorem State.line_writeEvaluated (n : MemberNo) (e : Member × List (NoticeKind × Nat)) (j : LineNo) : (s.writeEvaluated n e).line j = s.line j := by
  simp only [State.line, State.writeEvaluated_siu]
@[simp] theorem State.segment_writeEvaluated (n : MemberNo) (e : Member × List (NoticeKind × Nat)) (j : SegNo) : (s.writeEvaluated n e).segment j = s.segment j := by
  simp only [State.segment, State.writeEvaluated_smu]
@[simp] theorem State.defn_writeEvaluated (n : MemberNo) (e : Member × List (NoticeKind × Nat)) (j : SegNo) : (s.writeEvaluated n e).defn j = s.defn j := by
  simp only [State.defn, State.segment, State.writeEvaluated_smu]
@[simp] theorem State.run_writeEvaluated (n : MemberNo) (e : Member × List (NoticeKind × Nat)) (j : SegNo) : (s.writeEvaluated n e).run j = s.run j := by
  simp only [State.run, State.segment, State.writeEvaluated_smu]
@[simp] theorem State.track_writeEvaluated (n : MemberNo) (e : Member × List (NoticeKind × Nat)) (j : SegNo) : (s.writeEvaluated n e).track j = s.track j := by
  simp only [State.track, State.writeEvaluated_itu]
@[simp] theorem State.slot_writeEvaluated (n : MemberNo) (e : Member × List (NoticeKind × Nat)) (j : SlotNo) : (s.writeEvaluated n e).slot j = s.slot j := by
  simp only [State.slot, State.writeEvaluated_spl]

theorem State.changeToCounting_keeps :
    KeepsAllBut [.smu, .rqd] s s.changeToCounting := by
  have h := fun (s : State) (l : List SegNo) => keepsAllBut_foldl (fun s x => s.enterCounting_keeps x) l s
  simp only [keepsAllBut_iff, List.mem_cons, List.not_mem_nil, reduceCtorEq, false_or, true_or, or_false,
    true_and] at h
  unfold State.changeToCounting
  simp [keepsAllBut_iff, h]

@[simp] theorem State.changeToCounting_siu : s.changeToCounting.siu = s.siu :=
  (s.changeToCounting_keeps).1 .siu (by decide)
@[simp] theorem State.changeToCounting_itu : s.changeToCounting.itu = s.itu :=
  (s.changeToCounting_keeps).1 .itu (by decide)
@[simp] theorem State.changeToCounting_wau : s.changeToCounting.wau = s.wau :=
  (s.changeToCounting_keeps).1 .wau (by decide)
@[simp] theorem State.changeToCounting_etm : s.changeToCounting.etm = s.etm :=
  (s.changeToCounting_keeps).1 .etm (by decide)
@[simp] theorem State.changeToCounting_spl : s.changeToCounting.spl = s.spl :=
  (s.changeToCounting_keeps).1 .spl (by decide)
@[simp] theorem State.changeToCounting_nq : s.changeToCounting.nq = s.nq :=
  (s.changeToCounting_keeps).1 .nq (by decide)
@[simp] theorem State.changeToCounting_lnk : s.changeToCounting.lnk = s.lnk :=
  (s.changeToCounting_keeps).1 .lnk (by decide)
@[simp] theorem State.changeToCounting_arbiter : s.changeToCounting.arbiter = s.arbiter :=
  (s.changeToCounting_keeps).2.1
@[simp] theorem State.changeToCounting_pending : s.changeToCounting.pending = s.pending :=
  (s.changeToCounting_keeps).2.2
@[simp] theorem State.line_changeToCounting (j : LineNo) : s.changeToCounting.line j = s.line j := by
  simp only [State.line, State.changeToCounting_siu]
@[simp] theorem State.track_changeToCounting (j : SegNo) : s.changeToCounting.track j = s.track j := by
  simp only [State.track, State.changeToCounting_itu]
@[simp] theorem State.member_changeToCounting (j : MemberNo) : s.changeToCounting.member j = s.member j := by
  simp only [State.member, State.changeToCounting_wau]
@[simp] theorem State.slot_changeToCounting (j : SlotNo) : s.changeToCounting.slot j = s.slot j := by
  simp only [State.slot, State.changeToCounting_spl]

theorem State.restartTrack_keeps (g : SegNo) :
    KeepsAllBut [.itu] s (s.restartTrack g) := by
  unfold State.restartTrack; simp [keepsAllBut_iff]

@[simp] theorem State.restartTrack_siu (g : SegNo) : (s.restartTrack g).siu = s.siu :=
  (s.restartTrack_keeps g).1 .siu (by decide)
@[simp] theorem State.restartTrack_smu (g : SegNo) : (s.restartTrack g).smu = s.smu :=
  (s.restartTrack_keeps g).1 .smu (by decide)
@[simp] theorem State.restartTrack_wau (g : SegNo) : (s.restartTrack g).wau = s.wau :=
  (s.restartTrack_keeps g).1 .wau (by decide)
@[simp] theorem State.restartTrack_etm (g : SegNo) : (s.restartTrack g).etm = s.etm :=
  (s.restartTrack_keeps g).1 .etm (by decide)
@[simp] theorem State.restartTrack_spl (g : SegNo) : (s.restartTrack g).spl = s.spl :=
  (s.restartTrack_keeps g).1 .spl (by decide)
@[simp] theorem State.restartTrack_nq (g : SegNo) : (s.restartTrack g).nq = s.nq :=
  (s.restartTrack_keeps g).1 .nq (by decide)
@[simp] theorem State.restartTrack_lnk (g : SegNo) : (s.restartTrack g).lnk = s.lnk :=
  (s.restartTrack_keeps g).1 .lnk (by decide)
@[simp] theorem State.restartTrack_rqd (g : SegNo) : (s.restartTrack g).rqd = s.rqd :=
  (s.restartTrack_keeps g).1 .rqd (by decide)
@[simp] theorem State.restartTrack_arbiter (g : SegNo) : (s.restartTrack g).arbiter = s.arbiter :=
  (s.restartTrack_keeps g).2.1
@[simp] theorem State.restartTrack_pending (g : SegNo) : (s.restartTrack g).pending = s.pending :=
  (s.restartTrack_keeps g).2.2
@[simp] theorem State.line_restartTrack (g : SegNo) (j : LineNo) : (s.restartTrack g).line j = s.line j := by
  simp only [State.line, State.restartTrack_siu]
@[simp] theorem State.segment_restartTrack (g : SegNo) (j : SegNo) : (s.restartTrack g).segment j = s.segment j := by
  simp only [State.segment, State.restartTrack_smu]
@[simp] theorem State.defn_restartTrack (g : SegNo) (j : SegNo) : (s.restartTrack g).defn j = s.defn j := by
  simp only [State.defn, State.segment, State.restartTrack_smu]
@[simp] theorem State.run_restartTrack (g : SegNo) (j : SegNo) : (s.restartTrack g).run j = s.run j := by
  simp only [State.run, State.segment, State.restartTrack_smu]
@[simp] theorem State.member_restartTrack (g : SegNo) (j : MemberNo) : (s.restartTrack g).member j = s.member j := by
  simp only [State.member, State.restartTrack_wau]
@[simp] theorem State.slot_restartTrack (g : SegNo) (j : SlotNo) : (s.restartTrack g).slot j = s.slot j := by
  simp only [State.slot, State.restartTrack_spl]

theorem State.redefine_keeps (g : SegNo) (dn : Option SegDef) :
    KeepsAllBut [.itu, .smu] s (s.redefine g dn) := by
  unfold State.redefine; simp [keepsAllBut_iff]

@[simp] theorem State.redefine_siu (g : SegNo) (dn : Option SegDef) : (s.redefine g dn).siu = s.siu :=
  (s.redefine_keeps g dn).1 .siu (by decide)
@[simp] theorem State.redefine_wau (g : SegNo) (dn : Option SegDef) : (s.redefine g dn).wau = s.wau :=
  (s.redefine_keeps g dn).1 .wau (by decide)
@[simp] theorem State.redefine_etm (g : SegNo) (dn : Option SegDef) : (s.redefine g dn).etm = s.etm :=
  (s.redefine_keeps g dn).1 .etm (by decide)
@[simp] theorem State.redefine_spl (g : SegNo) (dn : Option SegDef) : (s.redefine g dn).spl = s.spl :=
  (s.redefine_keeps g dn).1 .spl (by decide)
@[simp] theorem State.redefine_nq (g : SegNo) (dn : Option SegDef) : (s.redefine g dn).nq = s.nq :=
  (s.redefine_keeps g dn).1 .nq (by decide)
@[simp] theorem State.redefine_lnk (g : SegNo) (dn : Option SegDef) : (s.redefine g dn).lnk = s.lnk :=
  (s.redefine_keeps g dn).1 .lnk (by decide)
@[simp] theorem State.redefine_rqd (g : SegNo) (dn : Option SegDef) : (s.redefine g dn).rqd = s.rqd :=
  (s.redefine_keeps g dn).1 .rqd (by decide)
@[simp] theorem State.redefine_arbiter (g : SegNo) (dn : Option SegDef) : (s.redefine g dn).arbiter = s.arbiter :=
  (s.redefine_keeps g dn).2.1
@[simp] theorem State.redefine_pending (g : SegNo) (dn : Option SegDef) : (s.redefine g dn).pending = s.pending :=
  (s.redefine_keeps g dn).2.2
@[simp] theorem State.line_redefine (g : SegNo) (dn : Option SegDef) (j : LineNo) : (s.redefine g dn).line j = s.line j := by
  simp only [State.line, State.redefine_siu]
@[simp] theorem State.member_redefine (g : SegNo) (dn : Option SegDef) (j : MemberNo) : (s.redefine g dn).member j = s.member j := by
  simp only [State.member, State.redefine_wau]
@[simp] theorem State.slot_redefine (g : SegNo) (dn : Option SegDef) (j : SlotNo) : (s.redefine g dn).slot j = s.slot j := by
  simp only [State.slot, State.redefine_spl]

theorem State.clearSegmentCounters_keeps (g : SegNo) :
    KeepsAllBut [.itu, .smu] s (s.clearSegmentCounters g) := by
  unfold State.clearSegmentCounters; simp [keepsAllBut_iff]

@[simp] theorem State.clearSegmentCounters_siu (g : SegNo) : (s.clearSegmentCounters g).siu = s.siu :=
  (s.clearSegmentCounters_keeps g).1 .siu (by decide)
@[simp] theorem State.clearSegmentCounters_wau (g : SegNo) : (s.clearSegmentCounters g).wau = s.wau :=
  (s.clearSegmentCounters_keeps g).1 .wau (by decide)
@[simp] theorem State.clearSegmentCounters_etm (g : SegNo) : (s.clearSegmentCounters g).etm = s.etm :=
  (s.clearSegmentCounters_keeps g).1 .etm (by decide)
@[simp] theorem State.clearSegmentCounters_spl (g : SegNo) : (s.clearSegmentCounters g).spl = s.spl :=
  (s.clearSegmentCounters_keeps g).1 .spl (by decide)
@[simp] theorem State.clearSegmentCounters_nq (g : SegNo) : (s.clearSegmentCounters g).nq = s.nq :=
  (s.clearSegmentCounters_keeps g).1 .nq (by decide)
@[simp] theorem State.clearSegmentCounters_lnk (g : SegNo) : (s.clearSegmentCounters g).lnk = s.lnk :=
  (s.clearSegmentCounters_keeps g).1 .lnk (by decide)
@[simp] theorem State.clearSegmentCounters_rqd (g : SegNo) : (s.clearSegmentCounters g).rqd = s.rqd :=
  (s.clearSegmentCounters_keeps g).1 .rqd (by decide)
@[simp] theorem State.clearSegmentCounters_arbiter (g : SegNo) : (s.clearSegmentCounters g).arbiter = s.arbiter :=
  (s.clearSegmentCounters_keeps g).2.1
@[simp] theorem State.clearSegmentCounters_pending (g : SegNo) : (s.clearSegmentCounters g).pending = s.pending :=
  (s.clearSegmentCounters_keeps g).2.2
@[simp] theorem State.line_clearSegmentCounters (g : SegNo) (j : LineNo) : (s.clearSegmentCounters g).line j = s.line j := by
  simp only [State.line, State.clearSegmentCounters_siu]
@[simp] theorem State.member_clearSegmentCounters (g : SegNo) (j : MemberNo) : (s.clearSegmentCounters g).member j = s.member j := by
  simp only [State.member, State.clearSegmentCounters_wau]
@[simp] theorem State.slot_clearSegmentCounters (g : SegNo) (j : SlotNo) : (s.clearSegmentCounters g).slot j = s.slot j := by
  simp only [State.slot, State.clearSegmentCounters_spl]

theorem State.gapLimit_keeps :
    KeepsAllBut [.lnk] s s.gapLimit := by
  unfold State.gapLimit
  (repeat' split) <;> simp [keepsAllBut_iff]

@[simp] theorem State.gapLimit_siu : s.gapLimit.siu = s.siu :=
  (s.gapLimit_keeps).1 .siu (by decide)
@[simp] theorem State.gapLimit_smu : s.gapLimit.smu = s.smu :=
  (s.gapLimit_keeps).1 .smu (by decide)
@[simp] theorem State.gapLimit_itu : s.gapLimit.itu = s.itu :=
  (s.gapLimit_keeps).1 .itu (by decide)
@[simp] theorem State.gapLimit_wau : s.gapLimit.wau = s.wau :=
  (s.gapLimit_keeps).1 .wau (by decide)
@[simp] theorem State.gapLimit_etm : s.gapLimit.etm = s.etm :=
  (s.gapLimit_keeps).1 .etm (by decide)
@[simp] theorem State.gapLimit_spl : s.gapLimit.spl = s.spl :=
  (s.gapLimit_keeps).1 .spl (by decide)
@[simp] theorem State.gapLimit_nq : s.gapLimit.nq = s.nq :=
  (s.gapLimit_keeps).1 .nq (by decide)
@[simp] theorem State.gapLimit_rqd : s.gapLimit.rqd = s.rqd :=
  (s.gapLimit_keeps).1 .rqd (by decide)
@[simp] theorem State.gapLimit_arbiter : s.gapLimit.arbiter = s.arbiter :=
  (s.gapLimit_keeps).2.1
@[simp] theorem State.gapLimit_pending : s.gapLimit.pending = s.pending :=
  (s.gapLimit_keeps).2.2
@[simp] theorem State.line_gapLimit (j : LineNo) : s.gapLimit.line j = s.line j := by
  simp only [State.line, State.gapLimit_siu]
@[simp] theorem State.segment_gapLimit (j : SegNo) : s.gapLimit.segment j = s.segment j := by
  simp only [State.segment, State.gapLimit_smu]
@[simp] theorem State.defn_gapLimit (j : SegNo) : s.gapLimit.defn j = s.defn j := by
  simp only [State.defn, State.segment, State.gapLimit_smu]
@[simp] theorem State.run_gapLimit (j : SegNo) : s.gapLimit.run j = s.run j := by
  simp only [State.run, State.segment, State.gapLimit_smu]
@[simp] theorem State.track_gapLimit (j : SegNo) : s.gapLimit.track j = s.track j := by
  simp only [State.track, State.gapLimit_itu]
@[simp] theorem State.member_gapLimit (j : MemberNo) : s.gapLimit.member j = s.member j := by
  simp only [State.member, State.gapLimit_wau]
@[simp] theorem State.slot_gapLimit (j : SlotNo) : s.gapLimit.slot j = s.slot j := by
  simp only [State.slot, State.gapLimit_spl]

/-! ### The receiver: a frame that completes is a broadcast RESTART ALL, or touches the LNK and the RQD alone -/

/-- A frame handed over waits for the RQD, or is a broadcast RESTART ALL, taken at once (R164, R174). -/
theorem State.handOver_cases (f : Frame) :
    (restartsAll f = true ∧ s.handOver f = s.restartAll)
      ∨ (restartsAll f = false ∧ KeepsAllBut [.lnk, .rqd] s (s.handOver f)
        ∧ (s.handOver f).rqd = { s.rqd with handed := s.rqd.handed ++ [f] }) := by
  unfold State.handOver
  cases h : restartsAll f
  · exact .inr ⟨rfl, by simp [keepsAllBut_iff], by simp⟩
  · exact .inl ⟨rfl, by simp⟩

theorem State.takeFrame_cases (buf : List Byte) :
    s.takeFrame buf = s.restartAll ∨ KeepsAllBut [.lnk, .rqd] s (s.takeFrame buf) := by
  unfold State.takeFrame
  dsimp only
  split
  · exact .inr (by simp [keepsAllBut_iff])
  split
  · exact .inr (by simp [keepsAllBut_iff])
  split
  · exact .inr (by simp [keepsAllBut_iff])
  exact (s.handOver_cases _).imp And.right fun h => h.2.1

theorem State.storeCharacter_cases (b : Byte) :
    s.storeCharacter b = s.restartAll ∨ KeepsAllBut [.lnk, .rqd] s (s.storeCharacter b) := by
  have i : KeepsAllBut [.lnk, .rqd] s (s.setLnk s.lnk.toIdle) := by simp [keepsAllBut_iff]
  unfold State.storeCharacter
  dsimp only
  split
  · exact .inr (by simp [keepsAllBut_iff])
  split
  · exact ((s.setLnk s.lnk.toIdle).takeFrame_cases _).imp (fun h => h) i.trans
  · exact .inr (by simp [keepsAllBut_iff])

theorem State.takeCharacter_cases (b : Byte) (mark stop : Bool) :
    s.takeCharacter b mark stop = s.restartAll ∨ KeepsAllBut [.lnk, .rqd] s (s.takeCharacter b mark stop) := by
  unfold State.takeCharacter
  split
  · exact .inr (KeepsAllBut.refl _ _)
  all_goals
    split
    · exact .inr (by simp [keepsAllBut_iff])
    split
    · exact .inr (by simp [keepsAllBut_iff])
  · exact .inr (KeepsAllBut.refl _ _)
  · exact s.storeCharacter_cases b

theorem State.receive_cases (b : StartBit) (line : BitVec 11) :
    s.receive b line = s.restartAll ∨ KeepsAllBut [.lnk, .rqd] s (s.receive b line) := by
  unfold State.receive
  (repeat' split) <;> first
    | exact .inr (KeepsAllBut.refl _ _)
    | exact s.takeCharacter_cases _ _ _

@[simp] theorem State.receive_arbiter (b : StartBit) (line : BitVec 11) : (s.receive b line).arbiter = s.arbiter := by
  rcases s.receive_cases b line with h | h
  · rw [h]; rfl
  · exact h.2.1

@[simp] theorem State.receive_pending (b : StartBit) (line : BitVec 11) : (s.receive b line).pending = s.pending := by
  rcases s.receive_cases b line with h | h
  · rw [h]; rfl
  · exact h.2.2

end Sys2Proof.Machine
end

