-- ==== Sys2Proof/Laws/Ops.lean ====
section
/-! SUPPORT. What the shared operations can do, said once: the order things are taken in, a posting, the first of a range, the
operands that a byte names, bytes and numbers, characters on the line, the orders of the pool, the cursors of a planning run,
and answering a request. -/

namespace Sys2Proof.Machine

variable (s : State)

/-! ### Order and posting -/

/-- Arranging changes the order alone. -/
theorem arrange_perm {α : Type} [DecidableEq α] (p l : List α) : (arrange p l).Perm l := by
  induction p generalizing l with
  | nil => exact List.Perm.refl l
  | cons a p ih =>
    unfold arrange
    split
    · exact ((ih _).cons a).trans (List.perm_cons_erase ‹_›).symm
    · exact ih l

@[simp] theorem mem_arrange {α : Type} [DecidableEq α] (p l : List α) (x : α) : x ∈ arrange p l ↔ x ∈ l :=
  (arrange_perm p l).mem_iff

theorem arrange_nodup {α : Type} [DecidableEq α] (p : List α) {l : List α} (h : l.Nodup) : (arrange p l).Nodup :=
  (arrange_perm p l).nodup_iff.2 h

@[simp] theorem arrange_nil {α : Type} [DecidableEq α] (l : List α) : arrange [] l = l := rfl

@[simp] theorem arrange_eq_nil {α : Type} [DecidableEq α] (p : List α) {l : List α} : arrange p l = [] ↔ l = [] := by
  rw [← List.length_eq_zero_iff, ← List.length_eq_zero_iff, (arrange_perm p l).length_eq]

theorem arrange_singleton {α : Type} [DecidableEq α] (p : List α) (x : α) : arrange p [x] = [x] :=
  List.perm_singleton.1 (arrange_perm p [x])

/-- A record matches when its kind and subject are those posted. -/
@[simp] theorem Notice.matches_iff (n : Notice) (kind : NoticeKind) (subject : Nat) :
    n.matches kind subject = true ↔ n.kind = kind ∧ n.subject = subject := by simp [Notice.matches]

/-- A posting coalesces, appends, or drops and counts (R154, R155). -/
theorem Nq.post_cases (q : Nq) (kind : NoticeKind) (subject value epoch : Nat) (tick : Tick) :
    ((∃ n ∈ q.queue, n.matches kind subject = true)
      ∧ q.post kind subject value epoch tick
        = { q with queue := q.queue.map fun n => if n.matches kind subject then n.coalesce value else n })
    ∨ ((∀ n ∈ q.queue, ¬ n.matches kind subject = true) ∧ q.queue.length < 32
      ∧ q.post kind subject value epoch tick
        = { q with queue := q.queue ++ [{ kind, subject, firstEpoch := epoch, firstTick := tick, value, repeats := 1 }] })
    ∨ ((∀ n ∈ q.queue, ¬ n.matches kind subject = true) ∧ 32 ≤ q.queue.length
      ∧ q.post kind subject value epoch tick = { q with lost := min (q.lost + 1) 255, lostBit := true }) := by
  unfold Nq.post
  by_cases h : (q.queue.any fun n => n.matches kind subject) = true
  · rw [if_pos h]
    exact .inl ⟨by simpa using h, rfl⟩
  · rw [if_neg h]
    have h' : ∀ n ∈ q.queue, ¬ n.matches kind subject = true := by simpa using h
    by_cases hl : q.queue.length < Config.noticeCapacity
    · rw [if_pos hl]
      exact .inr (.inl ⟨h', hl, rfl⟩)
    · rw [if_neg hl]
      exact .inr (.inr ⟨h', Nat.le_of_not_lt hl, rfl⟩)

@[simp] theorem Notice.coalesce_matches (n : Notice) (value : Nat) (kind : NoticeKind) (subject : Nat) :
    (n.coalesce value).matches kind subject = n.matches kind subject := rfl

@[simp] theorem Nq.mask_post (q : Nq) (kind : NoticeKind) (subject value epoch : Nat) (tick : Tick) :
    (q.post kind subject value epoch tick).mask = q.mask := by
  rcases q.post_cases kind subject value epoch tick with ⟨-, h⟩ | ⟨-, -, h⟩ | ⟨-, -, h⟩ <;> rw [h]

/-! ### Finding -/

/-- The first of all positions that passes a test. -/
theorem find?_finRange_eq_some {n : Nat} {p : Fin n → Bool} {k : Fin n} :
    (List.finRange n).find? p = some k ↔ p k = true ∧ ∀ j, p j = true → k ≤ j := by
  rw [List.find?_eq_some_iff_getElem]
  constructor
  · rintro ⟨hk, i, hi, e, h⟩
    refine ⟨hk, fun j hj => ?_⟩
    rw [List.getElem_finRange] at e
    subst e
    by_contra hlt
    simpa [hj] using h j.val (Fin.lt_def.1 (not_le.1 hlt))
  · rintro ⟨hk, h⟩
    refine ⟨hk, k.val, by simp, by simp, fun j hj => ?_⟩
    simp only [List.getElem_finRange, Bool.not_eq_true', Bool.eq_false_iff]
    intro hp
    have := h _ hp
    simp [Fin.le_def] at this
    omega

theorem find?_finRange_eq_none {n : Nat} {p : Fin n → Bool} :
    (List.finRange n).find? p = none ↔ ∀ j, p j = false := by
  simp [List.find?_eq_none]

/-! ### What a byte names -/

theorem lineOf_eq_some {b : Byte} {l : LineNo} : lineOf b = some l ↔ b.toNat = l.val := by
  unfold lineOf
  split
  · simp [Fin.ext_iff]
  · simp only [reduceCtorEq, false_iff]
    omega

theorem lineOf_eq_none {b : Byte} : lineOf b = none ↔ 31 < b.toNat := by
  unfold lineOf
  split <;> simp <;> omega

theorem segmentOf_eq_some {b : Byte} {g : SegNo} : segmentOf b = some g ↔ b.toNat = g.val := by
  unfold segmentOf
  split
  · simp [Fin.ext_iff]
  · simp only [reduceCtorEq, false_iff]
    omega

theorem segmentOf_eq_none {b : Byte} : segmentOf b = none ↔ 23 < b.toNat := by
  unfold segmentOf
  split <;> simp <;> omega

theorem memberOf_eq_some {b : Byte} {n : MemberNo} : memberOf b = some n ↔ b.toNat = n.val := by
  unfold memberOf
  split
  · simp [Fin.ext_iff]
  · simp only [reduceCtorEq, false_iff]
    omega

theorem memberOf_eq_none {b : Byte} : memberOf b = none ↔ 191 < b.toNat := by
  unfold memberOf
  split <;> simp <;> omega

@[simp] theorem inRange_iff (lo hi x : Nat) : inRange lo hi x = true ↔ lo ≤ x ∧ x ≤ hi := by simp [inRange]

theorem onOffOf_eq_none {b : Byte} : onOffOf b = none ↔ 1 < b.toNat := by
  unfold onOffOf
  revert b
  decide

theorem onOffOf_eq_some {b : Byte} {x : Bool} : onOffOf b = some x ↔ b.toNat ≤ 1 ∧ x = decide (b = 1) := by
  unfold onOffOf
  revert b x
  decide

/-! ### Bytes and numbers -/

@[simp] theorem length_be (n x : Nat) : (be n x).length = n := by
  induction n with
  | zero => rfl
  | succ n ih => simp [be, ih]

theorem ofBytes_append (a b : List Byte) : ofBytes (a ++ b) = ofBytes a * 256 ^ b.length + ofBytes b := by
  have h : ∀ (b : List Byte) (x : Nat), b.foldl (fun a c => a * 256 + c.toNat) x
      = x * 256 ^ b.length + b.foldl (fun a c => a * 256 + c.toNat) 0 := by
    intro b
    induction b with
    | nil => simp
    | cons c b ih =>
      intro x
      simp only [List.foldl_cons, List.length_cons]
      rw [ih, ih (0 * 256 + c.toNat)]
      ring
  simp only [ofBytes, List.foldl_append]
  exact h b _

/-- Reading back what `be` wrote (00_scope.md, Conventions). -/
theorem ofBytes_be (n x : Nat) : ofBytes (be n x) = x % 256 ^ n := by
  induction n generalizing x with
  | zero => simp [be, ofBytes, Nat.mod_one]
  | succ n ih =>
    have e : be (n + 1) x = [BitVec.ofNat 8 (x / 256 ^ n)] ++ be n x := rfl
    rw [e, ofBytes_append, ih, length_be]
    simp only [ofBytes, List.foldl_cons, List.foldl_nil, Nat.zero_mul, Nat.zero_add, BitVec.toNat_ofNat]
    have m := Nat.mod_mul (x := x) (a := 256 ^ n) (b := 256)
    rw [← pow_succ] at m
    rw [m]
    ring

theorem satAdd_le (top x y : Nat) : satAdd top x y ≤ top := Nat.min_le_right _ _

theorem bump16_eq (x : Nat) : bump16 x = min (x + 1) 65535 := rfl

/-! ### The orders of the pool -/

/-- A fact about a member's open order: it stands in its slot (R106). -/
theorem State.openOrder_eq_some {n : MemberNo} {k : SlotNo} {o : Order} (h : s.openOrder n = some (k, o)) :
    s.slot k = some o ∧ o.member = n := by
  unfold State.openOrder State.slotOf at h
  split at h
  · next j hj =>
    have t := List.find?_some hj
    cases hs : s.slot j with
    | none => simp [hs] at h
    | some p =>
      simp only [hs, Option.map_some, Option.some.injEq, Prod.mk.injEq] at h
      obtain ⟨rfl, rfl⟩ := h
      exact ⟨hs, by simpa [hs] using t⟩
  · cases h

theorem State.openOrder_eq_none {n : MemberNo} : s.openOrder n = none ↔ NoOrder s n := by
  unfold State.openOrder NoOrder
  cases h : s.slotOf n with
  | none =>
    unfold State.slotOf at h
    rw [List.find?_eq_none] at h
    simp only [true_iff]
    intro k o ho e
    have := h k (List.mem_finRange k)
    simp [ho, e] at this
  | some k =>
    have t := List.find?_some h
    cases hs : s.slot k with
    | none => simp [hs] at t
    | some o =>
      simp only [hs, decide_eq_true_eq] at t
      exact iff_of_false (by simp [hs]) fun hn => hn k o hs t

/-- Where a member has one order, that is its open order. -/
theorem State.openOrder_of_orderAt {n : MemberNo} {k : SlotNo} {o : Order} (h : OrderAt s n k o) :
    s.openOrder n = some (k, o) := by
  cases e : s.openOrder n with
  | none => exact absurd h.2.1 ((s.openOrder_eq_none.1 e) k o h.1)
  | some p =>
    obtain ⟨j, q⟩ := p
    obtain ⟨hj, hq⟩ := s.openOrder_eq_some e
    obtain rfl := h.2.2 j q hj hq
    rw [h.1] at hj
    cases hj
    rfl

theorem State.emptySlot_eq_none : s.emptySlot = none ↔ ∀ k, (s.slot k).isSome = true := by
  unfold State.emptySlot
  rw [List.find?_eq_none]
  simp only [Option.isNone_iff_eq_none, ← Option.ne_none_iff_isSome]
  exact ⟨fun h k => h k (List.mem_finRange k), fun h k _ => h k⟩

/-! ### The run's cursors -/

/-- The walk's next record is the lowest from the cursor on that is neither FREE nor held (R143). -/
theorem State.nextWalk_eq_some {i : Nat} {n : MemberNo} : s.nextWalk i = some n ↔
    (i ≤ n.val ∧ ∃ m, s.member n = some m ∧ m.held = false)
      ∧ ∀ k, (i ≤ k.val ∧ ∃ m, s.member k = some m ∧ m.held = false) → n ≤ k := by
  have t : ∀ k, (decide (i ≤ k.val) && match s.member k with | some m => !m.held | none => false) = true
      ↔ i ≤ k.val ∧ ∃ m, s.member k = some m ∧ m.held = false := by
    intro k
    cases h : s.member k <;> simp
  unfold State.nextWalk allMembers
  rw [find?_finRange_eq_some]
  exact and_congr (t _) (forall_congr' fun j => imp_congr (t j) Iff.rfl)

theorem State.nextWalk_eq_none {i : Nat} : s.nextWalk i = none ↔
    ∀ n, ¬ (i ≤ n.val ∧ ∃ m, s.member n = some m ∧ m.held = false) := by
  unfold State.nextWalk allMembers
  rw [find?_finRange_eq_none]
  refine forall_congr' fun k => ?_
  cases h : s.member k <;> simp

/-- The next slot in a state is the lowest from the cursor on. -/
theorem State.nextSlotIn_eq_some {st : OrderState} {i : Nat} {k : SlotNo} : s.nextSlotIn st i = some k ↔
    (i ≤ k.val ∧ ∃ o, s.slot k = some o ∧ o.state = st)
      ∧ ∀ j, (i ≤ j.val ∧ ∃ o, s.slot j = some o ∧ o.state = st) → k ≤ j := by
  have t : ∀ j, (decide (i ≤ j.val) && match s.slot j with | some o => decide (o.state = st) | none => false) = true
      ↔ i ≤ j.val ∧ ∃ o, s.slot j = some o ∧ o.state = st := by
    intro j
    cases h : s.slot j <;> simp
  unfold State.nextSlotIn allSlots
  rw [find?_finRange_eq_some]
  exact and_congr (t _) (forall_congr' fun j => imp_congr (t j) Iff.rfl)

theorem State.nextSlotIn_eq_none {st : OrderState} {i : Nat} : s.nextSlotIn st i = none ↔
    ∀ k o, i ≤ k.val → s.slot k = some o → o.state ≠ st := by
  unfold State.nextSlotIn allSlots
  rw [find?_finRange_eq_none]
  refine forall_congr' fun k => ?_
  cases h : s.slot k <;> simp

/-- The next roller order is that of the lowest member from the cursor on (R149). -/
theorem State.nextRoller_eq_some {g : SegNo} {i : Nat} {n : MemberNo} : s.nextRoller g i = some n ↔
    (i ≤ n.val ∧ RollerOrder s g n) ∧ ∀ q, (i ≤ q.val ∧ RollerOrder s g q) → n ≤ q := by
  have t : ∀ k, (decide (i ≤ k.val) && s.isRollerOf g k && (s.openOrder k).isSome) = true
      ↔ i ≤ k.val ∧ RollerOrder s g k := by
    intro k
    unfold RollerOrder State.isRollerOf
    rw [← State.openOrder_eq_none, ← ne_eq, Option.ne_none_iff_isSome]
    cases h : s.member k <;> simp [and_assoc]
  unfold State.nextRoller allMembers
  rw [find?_finRange_eq_some]
  exact and_congr (t _) (forall_congr' fun j => imp_congr (t j) Iff.rfl)

theorem State.nextRoller_eq_none {g : SegNo} {i : Nat} : s.nextRoller g i = none ↔
    ∀ n, i ≤ n.val → ¬ RollerOrder s g n := by
  unfold State.nextRoller allMembers
  rw [find?_finRange_eq_none]
  refine forall_congr' fun k => ?_
  unfold RollerOrder State.isRollerOf
  rw [← State.openOrder_eq_none, ← ne_eq, Option.ne_none_iff_isSome]
  cases h : s.member k
  · simp
  · simp only [Bool.and_eq_false_iff, decide_eq_false_iff_not]
    simp only [Option.isSome_eq_false_iff, Option.isNone_iff_eq_none, Option.some.injEq, exists_eq_left',
      Bool.not_eq_true, not_and]
    tauto

/-- The visits that fall inside a SERVICE_DONE are PLAN_MEMBER_WALK commands, one after another (R121). -/
theorem State.walkVisits_eq_execAll (k : Nat) :
    execAll (List.replicate k .planMemberWalk) s = .next (State.walkVisits k s) := by
  induction k generalizing s with
  | zero => rfl
  | succ k ih =>
    rw [List.replicate_succ]
    exact ih s.walkCommand

/-! ### Answering -/

/-- What an operation of other blocks leaves, once answered, is what `Answers` says of it (R168). -/
theorem answers_of_keeps {bs : List Block} {u : State} {k : ReqKind} {st : Status} {d : List Byte}
    (h : KeepsAllBut bs s u) (hl : u.lnk = s.lnk) (hr : u.rqd = s.rqd) :
    Answers bs k.code st d s (u.answer k st d) := by
  refine ⟨⟨fun b hb => ?_, h.2.1, h.2.2⟩, ?_, ?_⟩
  · have hb' : b ∉ bs := fun hm => hb (List.mem_cons_of_mem _ (List.mem_cons_of_mem _ hm))
    have e := h.1 b hb'
    cases b <;> first | exact e | exact absurd hb (by simp)
  · rw [State.rqd_answer, hr]
  · rw [State.lnk_answer, hl]
    rfl

/-- A refused request is answered, and nothing else (R168). -/
theorem refuses_answer (k : ReqKind) (st : Status) (d : List Byte) : Refuses k.code st d s (s.answer k st d) :=
  answers_of_keeps s (KeepsAllBut.refl [] s) rfl rfl

/-! ### Characters on the line (R161) -/

@[simp] theorem lineIdles_lineBits (data : Byte) (mark stop : Bool) : lineIdles (lineBits data mark stop) = false := by
  revert data mark stop
  decide +kernel

@[simp] theorem lineData_lineBits (data : Byte) (mark stop : Bool) : lineData (lineBits data mark stop) = data := by
  revert data mark stop
  decide +kernel

@[simp] theorem lineMark_lineBits (data : Byte) (mark stop : Bool) : lineMark (lineBits data mark stop) = mark := by
  revert data mark stop
  decide +kernel

@[simp] theorem lineStop_lineBits (data : Byte) (mark stop : Bool) : lineStop (lineBits data mark stop) = stop := by
  revert data mark stop
  decide +kernel

/-- Eleven bits with the start bit low are the character that they carry. -/
theorem lineBits_of_start {line : BitVec 11} (h : lineIdles line = false) :
    lineBits (lineData line) (lineMark line) (lineStop line) = line := by
  revert line
  decide +kernel

/-- A character whose start bit was heard is taken by the receiver's state. -/
theorem State.receive_heard (data : Byte) (mark stop : Bool) :
    s.receive .heard (lineBits data mark stop) = s.takeCharacter data mark stop := by simp [State.receive]

/-- One whose start bit fell in the blanked span is not received (R165). -/
@[simp] theorem State.receive_blanked (line : BitVec 11) : s.receive .blanked line = s := rfl

end Sys2Proof.Machine
end

