-- ==== Sys2Proof/Laws/PerInstr.lean ====
section
/-! SUPPORT. What holds of every command as syntax, constructor by constructor: the payload that spells a request has the length
fixed for its kind (R169, step 2; 11 section 11.6). -/

namespace Sys2Proof.Laws

open Sys2Proof Sys2Proof.Machine

/-- The payload of a well-formed request has its kind's length, so that R169's second check passes. -/
def PayloadLength.Statement (i : Instr) : Prop :=
  i.wellFormed = true → ∀ (k : ReqKind) (via : Delivery) (p : List Byte), encodeRequest i = some (k, via, p) →
    k.payloadLength p = some p.length

@[simp] theorem length_bytesOf {w : Nat} (n : Nat) (x : BitVec w) : (bytesOf n x).length = n := length_be n _

@[simp] theorem length_optionalBytes {w : Nat} (n : Nat) (o : Option (BitVec w)) : (optionalBytes n o).length = n := by
  cases o <;> simp [optionalBytes]

@[simp] theorem length_segmentRecord (r : SegmentRecord) : r.bytes.length = 32 := by simp [SegmentRecord.bytes]

@[simp] theorem length_serviceDone (m o : Byte) (l : Option (BitVec 40)) : (serviceDoneBytes m o l).length = 8 := by
  simp [serviceDoneBytes]

@[simp] theorem length_template (x : TemplateRecord) : x.bytes.length = 8 := by simp [TemplateRecord.bytes]

theorem length_templates (ts : List TemplateRecord) : (ts.flatMap TemplateRecord.bytes).length = 8 * ts.length := by
  induction ts with
  | nil => rfl
  | cons x xs ih => rw [List.flatMap_cons, List.length_append, ih, length_template, List.length_cons]; omega

/-- A request whose payload's length its kind alone fixes. -/
theorem PayloadLength.of_length {i : Instr} {k : ReqKind} {via : Delivery} {p : List Byte} {n : Nat}
    (e : encodeRequest i = some (k, via, p)) (hk : ∀ q, k.payloadLength q = some n) (hp : p.length = n) :
    PayloadLength.Statement i := by
  rintro - k' via' p' h
  rw [e] at h
  cases h
  rw [hk, hp]

/-- A command that is no request. -/
theorem PayloadLength.of_none {i : Instr} (e : encodeRequest i = none) : PayloadLength.Statement i := by
  rintro - k via p h
  rw [e] at h
  cases h

theorem PayloadLength.coldReset (straps : BitVec 5) : PayloadLength.Statement (.coldReset straps) := of_none rfl
theorem PayloadLength.acceptedTransition (line : LineNo) : PayloadLength.Statement (.acceptedTransition line) := of_none rfl
theorem PayloadLength.segmentTimerExpiry (segment : SegNo) : PayloadLength.Statement (.segmentTimerExpiry segment) := of_none rfl
theorem PayloadLength.localBoundary : PayloadLength.Statement .localBoundary := of_none rfl
theorem PayloadLength.graceDeadline : PayloadLength.Statement .graceDeadline := of_none rfl
theorem PayloadLength.ratePassVisit : PayloadLength.Statement .ratePassVisit := of_none rfl
theorem PayloadLength.projectionsRefreshed : PayloadLength.Statement .projectionsRefreshed := of_none rfl
theorem PayloadLength.planMemberWalk : PayloadLength.Statement .planMemberWalk := of_none rfl
theorem PayloadLength.placementReset : PayloadLength.Statement .placementReset := of_none rfl
theorem PayloadLength.planSort : PayloadLength.Statement .planSort := of_none rfl
theorem PayloadLength.orderPlacement : PayloadLength.Statement .orderPlacement := of_none rfl
theorem PayloadLength.ganging : PayloadLength.Statement .ganging := of_none rfl
theorem PayloadLength.planDone : PayloadLength.Statement .planDone := of_none rfl
theorem PayloadLength.characterReceived (start : StartBit) (character : Character) (stop : Bool) :
    PayloadLength.Statement (.characterReceived start character stop) := of_none rfl
theorem PayloadLength.gapLimitExpiry : PayloadLength.Statement .gapLimitExpiry := of_none rfl
theorem PayloadLength.replyStart : PayloadLength.Statement .replyStart := of_none rfl
theorem PayloadLength.replyEnd : PayloadLength.Statement .replyEnd := of_none rfl
theorem PayloadLength.blankingEnd : PayloadLength.Statement .blankingEnd := of_none rfl
theorem PayloadLength.unknownKind (kind : Byte) : PayloadLength.Statement (.unknownKind kind) := of_none rfl
theorem PayloadLength.ident : PayloadLength.Statement .ident := of_length rfl (fun _ => rfl) (by simp)
theorem PayloadLength.status : PayloadLength.Statement .status := of_length rfl (fun _ => rfl) (by simp)
theorem PayloadLength.modeSetup (via : Delivery) : PayloadLength.Statement (.modeSetup via) := of_length rfl (fun _ => rfl) (by simp)
theorem PayloadLength.modeCounting (via : Delivery) : PayloadLength.Statement (.modeCounting via) := of_length rfl (fun _ => rfl) (by simp)
theorem PayloadLength.restartTracking (via : Delivery) : PayloadLength.Statement (.restartTracking via) := of_length rfl (fun _ => rfl) (by simp)
theorem PayloadLength.restartPlan (via : Delivery) : PayloadLength.Statement (.restartPlan via) := of_length rfl (fun _ => rfl) (by simp)
theorem PayloadLength.restartAll (via : Delivery) : PayloadLength.Statement (.restartAll via) := of_length rfl (fun _ => rfl) (by simp)
theorem PayloadLength.linkSet (divisor : Byte) : PayloadLength.Statement (.linkSet divisor) := of_length rfl (fun _ => rfl) (by simp)
theorem PayloadLength.counters : PayloadLength.Statement .counters := of_length rfl (fun _ => rfl) (by simp)
theorem PayloadLength.epochSet (fields : EpochRecord) : PayloadLength.Statement (.epochSet fields) := of_length rfl (fun _ => rfl) (by simp)
theorem PayloadLength.epochMark (via : Delivery) (number : BitVec 32) :
    PayloadLength.Statement (.epochMark via number) := of_length rfl (fun _ => rfl) (by simp)
theorem PayloadLength.lineSet (line role polarity filter : Byte) :
    PayloadLength.Statement (.lineSet line role polarity filter) := of_length rfl (fun _ => rfl) (by simp)
theorem PayloadLength.lineStatus : PayloadLength.Statement .lineStatus := of_length rfl (fun _ => rfl) (by simp)
theorem PayloadLength.segmentSet (segment : Byte) (massGiven : Bool) (fields : SegmentRecord) :
    PayloadLength.Statement (.segmentSet segment massGiven fields) := of_length rfl (fun _ => rfl) (by simp)
theorem PayloadLength.segmentUndefine (segment : Byte) : PayloadLength.Statement (.segmentUndefine segment) := of_length rfl (fun _ => rfl) (by simp)
theorem PayloadLength.segmentRead (segment : Byte) (clear : Bool) :
    PayloadLength.Statement (.segmentRead segment clear) := of_length rfl (fun _ => rfl) (by simp)
theorem PayloadLength.segmentRearm (segment : Byte) : PayloadLength.Statement (.segmentRearm segment) := of_length rfl (fun _ => rfl) (by simp)
theorem PayloadLength.itemAnnounce (segment : Byte) (tag mass : BitVec 16) (routeLength : Byte) (route : BitVec 16) :
    PayloadLength.Statement (.itemAnnounce segment tag mass routeLength route) := of_length rfl (fun _ => rfl) (by simp)
theorem PayloadLength.memberDefine (member : Byte) (fields : MemberRecord) :
    PayloadLength.Statement (.memberDefine member fields) := of_length rfl (fun _ => rfl) (by simp)
theorem PayloadLength.memberRead (member : Byte) : PayloadLength.Statement (.memberRead member) := of_length rfl (fun _ => rfl) (by simp)
theorem PayloadLength.memberHold (member : Byte) : PayloadLength.Statement (.memberHold member) := of_length rfl (fun _ => rfl) (by simp)
theorem PayloadLength.memberAdjust (member : Byte) (fields : AdjustRecord) :
    PayloadLength.Statement (.memberAdjust member fields) := of_length rfl (fun _ => rfl) (by simp)
theorem PayloadLength.memberRelease (member : Byte) : PayloadLength.Statement (.memberRelease member) := of_length rfl (fun _ => rfl) (by simp)
theorem PayloadLength.memberRetire (member : Byte) : PayloadLength.Statement (.memberRetire member) := of_length rfl (fun _ => rfl) (by simp)
theorem PayloadLength.serviceDoneReplaced (member : Byte) (newLimit : Option (BitVec 40)) :
    PayloadLength.Statement (.serviceDoneReplaced member newLimit) := of_length rfl (fun _ => rfl) (by simp)
theorem PayloadLength.serviceDoneInspected (member : Byte) (newLimit : Option (BitVec 40)) :
    PayloadLength.Statement (.serviceDoneInspected member newLimit) := of_length rfl (fun _ => rfl) (by simp)
theorem PayloadLength.planSet (autoPlan : Byte) (horizon gangHorizon : BitVec 16) (fillLevel : Byte) :
    PayloadLength.Statement (.planSet autoPlan horizon gangHorizon fillLevel) := of_length rfl (fun _ => rfl) (by simp)
theorem PayloadLength.planRun : PayloadLength.Statement .planRun := of_length rfl (fun _ => rfl) (by simp)
theorem PayloadLength.windowAdd (start : BitVec 32) (length : Byte) (capacity : BitVec 16) (mask : BitVec 24) :
    PayloadLength.Statement (.windowAdd start length capacity mask) := of_length rfl (fun _ => rfl) (by simp)
theorem PayloadLength.windowRemove (tag : Byte) : PayloadLength.Statement (.windowRemove tag) := of_length rfl (fun _ => rfl) (by simp)
theorem PayloadLength.windowReadList : PayloadLength.Statement .windowReadList := of_length rfl (fun _ => rfl) (by simp)
theorem PayloadLength.windowReadPattern : PayloadLength.Statement .windowReadPattern := of_length rfl (fun _ => rfl) (by simp)
theorem PayloadLength.patternLoad (count : Byte) (templates : List TemplateRecord) :
    PayloadLength.Statement (.patternLoad count templates) := by
  intro hw k via p h
  cases h
  have hc : 1 ≤ count.toNat ∧ count.toNat ≤ 16 ∧ templates.length = count.toNat := by
    simpa [Instr.wellFormed, Instr.kindUndefined, Instr.templatesMatch] using hw
  have hf : fieldAt (count :: templates.flatMap TemplateRecord.bytes) 0 1 = count.toNat := by simp [fieldAt, ofBytes]
  have hl := length_templates templates
  simp only [ReqKind.payloadLength, hf]
  rw [if_pos ⟨hc.1, hc.2.1⟩, List.length_cons, hl, hc.2.2]
  congr 1
  omega
theorem PayloadLength.patternControl (enable rotation : Byte) (anchor : BitVec 32) (reset : Byte) :
    PayloadLength.Statement (.patternControl enable rotation anchor reset) := of_length rfl (fun _ => rfl) (by simp)
theorem PayloadLength.orderRead (member : Byte) : PayloadLength.Statement (.orderRead member) := of_length rfl (fun _ => rfl) (by simp)
theorem PayloadLength.orderList (page : Byte) : PayloadLength.Statement (.orderList page) := of_length rfl (fun _ => rfl) (by simp)
theorem PayloadLength.orderRaise (member : Byte) (due : BitVec 32) : PayloadLength.Statement (.orderRaise member due) := of_length rfl (fun _ => rfl) (by simp)
theorem PayloadLength.orderStart (member : Byte) : PayloadLength.Statement (.orderStart member) := of_length rfl (fun _ => rfl) (by simp)
theorem PayloadLength.orderCancel (member : Byte) : PayloadLength.Statement (.orderCancel member) := of_length rfl (fun _ => rfl) (by simp)
theorem PayloadLength.noticeTake : PayloadLength.Statement .noticeTake := of_length rfl (fun _ => rfl) (by simp)
theorem PayloadLength.noticeMask (settings : Byte) : PayloadLength.Statement (.noticeMask settings) := of_length rfl (fun _ => rfl) (by simp)
theorem PayloadLength.sample (raw : BitVec 32) : PayloadLength.Statement (.sample raw) := of_none rfl
theorem PayloadLength.tick : PayloadLength.Statement .tick := of_none rfl

end Sys2Proof.Laws
end

