-- ==== Sys2Proof/Tests/Slice0.lean ====
section
/-! SUPPORT. Tests of the model against the worked examples of the manual and hand calculation from its rules, the smoke of
WellFormed, and a witness for the hypotheses of each statement. -/

namespace Sys2Proof.Tests

set_option Elab.async false

open Sys2Proof Sys2Proof.Machine

/-! ### Helpers -/

/-- The state a command answers, where it answers one. -/
def after (i : Instr) (s : State) : Option State :=
  match exec i s with
  | .next t => some t
  | .fault _ | .refused _ => none

/-- `f` of the state a command answers. -/
def see {α : Type} (i : Instr) (s : State) (f : State → α) : Option α := (after i s).map f

/-- The status of the reply that a command leaves. -/
def statusOf (i : Instr) (s : State) : Option Status := ((after i s).bind (·.lnk.reply)).map (·.status)

/-- The data of the reply that a command leaves. -/
def dataOf (i : Instr) (s : State) : Option (List Byte) := ((after i s).bind (·.lnk.reply)).map (·.data)

/-- A fact about the definition of every defined segment, segment by segment. -/
def EachDefn (s : State) (P : SegNo → SegDef → Bool) : Bool :=
  allSegments.all fun g => match s.defn g with
    | some d => P g d
    | none => true

theorem eachDefn_elim {s : State} {P : SegNo → SegDef → Bool} (h : EachDefn s P = true) (g : SegNo) (d : SegDef)
    (hd : s.defn g = some d) : P g d = true := by
  have := List.all_eq_true.mp h g (List.mem_finRange g)
  rwa [hd] at this

/-- A segment's definition, the case of 1.7 and 3.9. -/
def seg7 : SegDef :=
  { driveLine := 0, idlerLine := some 1, entryGate := some 14, exitGate := some 15, runLine := some 2, straight := some 8
    divert := some 11, driveCal := 2500, idlerCal := 1200, windowSize := 400, nominal := 1500, maxDeviation := 300
    deadband := 20, step := 10, acquireAttempts := 2, lossLimit := 3, slipThreshold := 50, slipRunCount := 3
    length := 6000, fallbackLoad := 100, unannouncedMass := 150, resyncThreshold := 3 }

def seg6 : SegDef :=
  { seg7 with driveLine := 3, idlerLine := none, runLine := none, entryGate := some 13, exitGate := some 14
              straight := some 7, divert := none, length := 4000, resyncThreshold := 4 }

def seg8 : SegDef :=
  { seg7 with driveLine := 4, idlerLine := none, runLine := none, entryGate := some 16, exitGate := some 18
              straight := none, divert := none, length := 3000 }

def seg11 : SegDef := { seg8 with driveLine := 5, entryGate := some 17, exitGate := some 19, length := 5000 }

/-- The runtime record of a segment in a supervision state, V as in the worked cases. -/
def runIn (st : Supervision) : SegRun := { SegRun.reset with speed := 1510, timeout := 2648, slip := 16, supervision := st }

/-- The sense lines: four tachometers, a run line, the gates 13 to 19. -/
def setRoles (s : State) : State :=
  [((0 : LineNo), Role.pulse), (1, .pulse), (2, .run), (3, .pulse), (4, .pulse), (5, .pulse), (13, .gate), (14, .gate),
   (15, .gate), (16, .gate), (17, .gate), (18, .gate), (19, .gate)].foldl
    (fun s x => s.setLine x.1 { Line.reset with role := x.2 }) s

/-- The plant in COUNTING, its segments in STOPPED. -/
def plant : State :=
  let s := setRoles { State.reset with rqd := { State.reset.rqd with mode := .counting } }
  [((6 : SegNo), seg6), (7, seg7), (8, seg8), (11, seg11)].foldl
    (fun s x => s.setSegment x.1 { defn := some x.2, run := runIn .stopped }) s

/-- A line at another level. -/
def atLevel (l : LineNo) (v : Level) (s : State) : State := s.setLine l { s.line l with level := v }

/-- The time. -/
def atTick (n : Nat) (s : State) : State := { s with etm := { s.etm with tick := BitVec.ofNat 32 n } }

/-- The epoch. -/
def inEpoch (n : Nat) (s : State) : State := s.inEpoch n

/-- A plain roller of segment `g`. -/
def roller (g : Option SegNo) : Member :=
  { state := .normal, held := false, kind := .roller, segment := g, wear := 0, residue := 0, limit := 3000000, warn := 800
    warnLevel := 2400000, kLoad := 0, kSlip := 0, minutes := 20, rate := 0, projection := none, epochWear := 0
    closingWear := none, deferred := 0, lostWear := 0, reckonedWear := 0, unsavedWear := 0, checkpointArmed := true
    overflowNoted := false, fresh := false, serviceCount := 0, installedEpoch := 0 }

/-- A plain belt of segment `g`. -/
def belt (g : Option SegNo) : Member := { roller g with kind := .belt, minutes := 90 }

/-- An item. -/
def item (tag mass travel : Nat) (route : List Bool) : Item :=
  { tag := BitVec.ofNat 16 tag, mass, route, unknown := false, travel }

/-- An order in PROPOSED. -/
def order (n : MemberNo) (due minutes : Nat) : Order :=
  { member := n, reason := .projected, state := .proposed, due, tag := none, minutes, late := false, ganged := false
    missed := 0, created := 0 }

/-- The order SCHEDULED in a window. -/
def placed (o : Order) (tag : Nat) : Order := { o with state := .scheduled, tag := some tag }

/-- An OPEN window. -/
def window (tag start length capacity used : Nat) (mask : BitVec 24) : MaintWindow :=
  { tag, start, length, capacity, used, mask, source := .host, state := .opened }

/-- The planner at a stage. -/
def atStage (st : Stage) (s : State) : State := s.setPlanner { s.spl.planner with stage := st }

/-! ### WellFormed -/

theorem test_wellFormed_refuses_defined_kind : (Instr.unknownKind 0x01).wellFormed = false := by decide +kernel
theorem test_wellFormed_refuses_count : (Instr.patternLoad 2 []).wellFormed = false := by decide +kernel
theorem test_wellFormed_accepts :
    ([.unknownKind 0x07, .ident, .tick, .patternLoad 1 [⟨1, 1, 1, 1⟩]].all Instr.wellFormed) = true := by decide +kernel

/-! ### Sense lines (1.1) -/

/-- The filtering example, sample 8: the fourth high sample in a row is accepted and sets the change flag. -/
theorem test_sample_accepts :
    see (.sample 1) ({ State.reset with siu := { State.reset.siu with levelsTaken := true } }.setLine 0
      { Line.reset with role := .pulse, runCount := 3 }) (fun t => ((t.line 0).level, (t.line 0).runCount, (t.line 0).changed))
    = some (.active, 0, true) := by decide +kernel

/-- The filtering example, sample 7: a third high sample is only counted. -/
theorem test_sample_counts :
    see (.sample 1) ({ State.reset with siu := { State.reset.siu with levelsTaken := true } }.setLine 0
      { Line.reset with role := .pulse, runCount := 2 }) (fun t => ((t.line 0).level, (t.line 0).runCount, (t.line 0).changed))
    = some (.inactive, 3, false) := by decide +kernel

/-- R6: the filter restarts at the raw level, converted by the new polarity. -/
theorem test_lineSet_restarts :
    see (.lineSet 31 3 1 15) State.reset (fun t => ((t.line 31).role, (t.line 31).level, (t.line 31).filter))
    = some (.run, .active, 15) := by decide +kernel

theorem test_lineStatus_reports :
    (dataOf .lineStatus (atLevel 2 .active (plant.setLine 0 { Line.reset with changed := true }))).map
      (fun d => (d.length, d[2]?, d[32]?)) = some (64, some 1, some 1) := by decide +kernel

/-! ### Segments (1.7, 2.11) -/

/-- Event 1 of 1.7, as it stands in 3.9 (event 5) and 4.7: D = 399, I = 820, opened at tick 1,200,000. -/
def beforeFullClose : State :=
  let s := atTick 1200640 plant
  let s := s.setRun 7 { runIn .track with
    speed := 1500, slip := 0, window := some { openTick := 1200000, drive := 399, idler := 820 }, timingRef := 1200000 }
  let s := s.setTrack 7 { Tracking.reset with transit := [item 501 420 1000 [], item 502 1250 1000 [], item 503 85 0 []] }
  let s := { s with etm := { s.etm with settings := { s.etm.settings with checkpoint := 1500 } } }
  let s := s.setMember 70 (some { belt (some 7) with
    wear := 7199500, limit := 8000000, warn := 900, warnLevel := 7200000, kLoad := 40, kSlip := 64, unsavedWear := 200 })
  s.setMember 71 (some { roller (some 7) with held := true, wear := 2399000, kLoad := 96 })

/-- 1.7, event 1: slip 16 ‰, V 1510, timeout 2648 ms, residue 0, the next window at the closing pulse. -/
theorem test_fullClose_figures :
    see (.acceptedTransition 0) beforeFullClose (fun t => (((t.run 7).slip, (t.run 7).speed, (t.run 7).timeout),
      ((t.run 7).residue, (t.run 7).window), ((t.track 7).lastLoad, (t.track 7).transit.map (·.travel))))
    = some ((16, 1510, 2648), (0, some { openTick := 1200640, drive := 0, idler := 0 }), (17, [2000, 2000, 1000])) := by
  decide +kernel

/-- 4.7, event 1: m70 moves to WARN with MEMBER_WARN 28,127; the held m71 defers its 1099 wu. -/
theorem test_fullClose_wear :
    (see (.acceptedTransition 0) beforeFullClose (fun t => (t.member 70).map (fun m => (m.wear, m.residue, m.state)))
      = some (some (7200671, 149504, .warn)))
    ∧ (see (.acceptedTransition 0) beforeFullClose (fun t => (t.member 71).map (fun m => (m.wear, m.residue, m.deferred)))
      = some (some (2399000, 638976, 1099)))
    ∧ see (.acceptedTransition 0) beforeFullClose (fun t => t.nq.queue.map (fun n => (n.kind, n.value)))
      = some [(.memberWarn, 28127)] := by decide +kernel

/-- The state before events 2 and 3 of 2.11. -/
def beforeExpiry (attempts tick : Nat) : State :=
  (atLevel 2 .active (atTick tick plant)).setRun 7 { runIn .acquire with
    attemptsLeft := attempts, timeouts := 5, timingRef := BitVec.ofNat 32 (tick - 2648) }

/-- 2.11, event 3: the last attempt fails, and SEG_LOST is posted with V. -/
theorem test_expiry_loses_drive :
    see (.segmentTimerExpiry 7) (beforeExpiry 1 2005296) (fun t => (((t.run 7).supervision, (t.run 7).attemptsLeft),
      ((t.run 7).timeouts, (t.run 7).timingRef), t.nq.queue.map (fun n => (n.kind, n.value))))
    = some ((.driveLost, 0), (6, 2005296), [(.segLost, 1510)]) := by decide +kernel

/-- 2.11, event 6: the third interval of 2648 ms reaches the loss limit. -/
theorem test_expiry_fails_segment :
    see (.segmentTimerExpiry 7) ((beforeExpiry 0 2013240).setRun 7 { runIn .driveLost with
      intervals := 2, residue := 960, timingRef := 2010592 }) (fun t => ((t.run 7).supervision, (t.run 7).intervals,
      (t.run 7).residue, t.nq.queue.map (fun n => (n.kind, n.value))))
    = some (.failed, 3, 440, [(.segFailed, 3)]) := by decide +kernel

/-- 2.11, event 8: a run-off in FAILED reckons 1000 ms. -/
theorem test_runOff_failed :
    see (.acceptedTransition 2) ((beforeExpiry 0 2014240).setRun 7 { runIn .failed with
      intervals := 3, residue := 440, timingRef := 2013240 }) (fun t => ((t.run 7).supervision, (t.run 7).residue,
      (t.run 7).intervals, (t.run 7).timingRef))
    = some (.failed, 440, 3, 2014240) := by decide +kernel

/-- 2.11, event 9. -/
theorem test_rearm :
    see (.segmentRearm 7) (plant.setRun 7 { runIn .failed with intervals := 3 }) (fun t => ((t.run 7).supervision,
      (t.run 7).intervals)) = some (.stopped, 0) := by decide +kernel

/-- The record of `seg7` as SEGMENT_SET carries it. -/
def record7 : SegmentRecord :=
  { driveLine := 0, idlerLine := 1, entryGate := 14, exitGate := 15, runLine := 2, straight := 8, divert := 11
    driveCal := 2500, idlerCal := 1200, windowSize := 400, nominal := 1500, maxDeviation := 300, deadband := 20, step := 10
    acquireAttempts := 2, lossLimit := 3, slipThreshold := 50, slipRunCount := 3, length := 6000, fallbackLoad := 100
    unannouncedMass := 0, resyncThreshold := 3 }

theorem test_segmentSet_stores : see (.segmentSet 7 false record7) State.reset (·.defn 7) = some (some seg7) := by
  decide +kernel
theorem test_segmentSet_checks : statusOf (.segmentSet 8 true record7) State.reset = some .badValue := by decide +kernel
theorem test_segmentUndefine :
    see (.segmentUndefine 7) { plant with rqd := State.reset.rqd } (fun t => (t.defn 7, (t.run 7).timeout))
    = some (none, 60000) := by decide +kernel
theorem test_segmentRead_clears :
    see (.segmentRead 7 true) (plant.setRun 7 { runIn .stopped with timeouts := 5 }) (fun t => ((t.run 7).timeouts,
      ((t.lnk.reply.map (·.data)).getD []).take 3)) = some (0, [1, 0, 1]) := by decide +kernel

/-! ### Items (3.9) -/

/-- Before event 1 of 3.9. -/
def beforeTransfer : State :=
  let s := plant.setTrack 6 { Tracking.reset with
    transit := [item 501 420 3850 [true, false], item 502 1250 2100 [false], item 503 85 700 []] }
  let s := s.setTrack 7 { Tracking.reset with errors := 1, phantom := 4 }
  let s := s.setTrack 8 { Tracking.reset with arrival := [item 1 1 0 [], item 2 1 0 [], item 3 1 0 []] }
  { s with itu := { s.itu with free := 371 } }

/-- 3.9, event 1: 501 leaves segment 6 and enters segment 7 by one transfer event. -/
theorem test_transfer :
    see (.acceptedTransition 14) beforeTransfer (fun t => ((t.track 6).transit.length, (t.track 7).arrival,
      (t.track 7).transit, t.itu.free)) = some (2, [], [item 501 420 0 [true, false]], 371) := by decide +kernel

/-- 3.9, event 6: the front bit of 501 diverts it to segment 11, and the error count becomes 0. -/
theorem test_exit_diverts :
    see (.acceptedTransition 15) (beforeTransfer.setTrack 7 { Tracking.reset with
      errors := 1, transit := [item 501 420 2000 [true, false], item 502 1250 2000 [false]] }) (fun t =>
      ((t.track 11).arrival, (t.track 7).errors, (t.track 7).transit.length))
    = some ([item 501 420 0 [false]], 0, 1) := by decide +kernel

theorem test_itemAnnounce :
    dataOf (.itemAnnounce 8 9 7 2 0b01) beforeTransfer = some [4, 0x01, 0x72] := by decide +kernel
theorem test_itemAnnounce_route : see (.itemAnnounce 8 9 7 2 0xFF01) beforeTransfer (fun t => (t.track 8).arrival.getLast?)
    = some (some (item 9 7 0 [true, false])) := by decide +kernel

/-! ### Members (04 sections 4.5 to 4.7, 5.10) -/

/-- The fields of MEMBER_DEFINE for the belt m30 of 5.10. -/
def define30 : MemberRecord :=
  { kind := 1, segment := 4, wear := 37500000, limit := 40000000, warn := 900, kLoad := 0, kSlip := 0, minutes := 90
    rate := 52000 }

/-- 5.10: m30 at epoch 9999 has warn level 36,000,000 and projection 10,048, and is in WARN. -/
theorem test_memberDefine :
    dataOf (.memberDefine 30 define30) (inEpoch 9999 State.reset)
      = some ([2] ++ be 5 36000000 ++ [1] ++ be 4 10048) := by decide +kernel

/-- A second belt of one segment is refused with the first one's number (R65). -/
theorem test_memberDefine_rival :
    statusOf (.memberDefine 5 define30) (State.reset.setMember 30 (some (belt (some 4)))) = some .conflict
    ∧ dataOf (.memberDefine 5 define30) (State.reset.setMember 30 (some (belt (some 4)))) = some [30] := by decide +kernel

/-- A member of segment 4 with a wear of 2,399,000 of a limit of 3,000,000. -/
def worn : State := State.reset.setMember 71 (some { roller (some 7) with wear := 2399000, unsavedWear := 1500 })

theorem test_memberRead :
    see (.memberRead 71) { worn with etm := { worn.etm with tick := 9 } }
      (fun t => (t.member 71).map (fun m => (m.unsavedWear, m.checkpointArmed))) = some (some (0, true)) := by decide +kernel
theorem test_memberHold : dataOf (.memberHold 71) worn = some (be 5 2399000) := by decide +kernel
theorem test_memberAdjust :
    dataOf (.memberAdjust 71 { wear := none, limit := some 2400000, warn := none, kLoad := none, kSlip := none
                               minutes := none, rate := some 1000 })
      (worn.setMember 71 (some { roller (some 7) with held := true, wear := 2399000 }))
    = some ([2] ++ be 5 1920000 ++ [1] ++ be 4 1) := by decide +kernel
theorem test_memberRelease :
    dataOf (.memberRelease 71) (worn.setMember 71 (some { roller (some 7) with held := true, wear := 2399000, deferred := 1441 }))
    = some (be 3 1441 ++ be 5 2400441 ++ [2] ++ [0, 0, 0, 0, 0]) := by decide +kernel

/-- 6.9 before event 7: m30 and m31 at epoch 10,020, window 21 ACTIVE. -/
def lifecycle : State :=
  let s := inEpoch 10020 plant
  let s := s.setMember 30 (some { belt (some 4) with
    state := .warn, wear := 38560000, limit := 40000000, warn := 900, warnLevel := 36000000, rate := 53000, serviceCount := 2 })
  let s := s.setMember 31 (some { roller (some 4) with
    wear := 1280000, limit := 2000000, warnLevel := 1600000, rate := 3999, minutes := 25 })
  let s := s.setSlot 0 (some { placed (order 30 10048 90) 21 with reason := .warn, state := .released })
  let s := s.setSlot 1 (some { order 31 10030 25 with reason := .host, state := .inWork, created := 10000 })
  s.setWindows [{ window 21 10020 4 120 90 0x10 with state := .active }]

/-- 6.9, event 8 (the order still RELEASED). -/
theorem test_serviceDone_replaced :
    see (.serviceDoneReplaced 30 none) lifecycle (fun t => (t.member 30).map (fun m =>
      ((m.wear, m.state), (m.serviceCount, m.projection), m.installedEpoch)))
    = some (some ((0, .normal), (3, some 10775), 10020)) := by decide +kernel

/-- 6.9, event 9. -/
theorem test_serviceDone_inspected :
    see (.serviceDoneInspected 31 (some 2400000)) lifecycle (fun t => ((t.member 31).map (fun m =>
      (m.warnLevel, m.state, m.projection)), t.slot 1)) = some (some (1920000, .normal, some 10301), none) := by
  decide +kernel

/-- R121, before SERVICE_DONE: the walk stands at m30, which has a PROPOSED order of reason WARN. -/
def walkAt30 (visits : Nat) : State :=
  let s := (lifecycle.setSlot 0 (some { order 30 10048 90 with reason := .warn })).setPlanner
    { lifecycle.spl.planner with stage := .walk 30, runHorizon := 672 }
  { s with arbiter := { s.arbiter with walkVisits := visits } }

/-- R121: the walk's visit falls between the two halves and withdraws the order, so that the reply says that none was removed;
without it the order is removed by the request. -/
theorem test_serviceDone_walk :
    (see (.serviceDoneReplaced 30 none) (walkAt30 1) (fun t => ((t.slot 0).isSome, t.nq.queue.map (·.kind)))
        = some (false, [.orderWithdrawn])
      ∧ (dataOf (.serviceDoneReplaced 30 none) (walkAt30 1)).map (·.take 5) = some [1, 0, 0, 0, 0])
    ∧ see (.serviceDoneReplaced 30 none) (walkAt30 0) (fun t => ((t.slot 0).isSome, t.nq.queue.map (·.kind)))
        = some (false, [])
      ∧ (dataOf (.serviceDoneReplaced 30 none) (walkAt30 0)).map (·.take 5) = some [1, 1, 2, 1, 0] := by
  and_intros <;> decide +kernel
theorem test_memberRetire :
    see (.memberRetire 31) lifecycle (fun t => (t.member 31, t.slot 1)) = some (none, none) := by decide +kernel

/-! ### Epochs (5.9, 5.10) -/

/-- The station of 5.9, at `tick`, its last boundary `boundary`. -/
def marked (epoch boundary tick : Nat) : State :=
  let s := inEpoch epoch (atTick tick State.reset)
  { s with etm := { s.etm with
      boundaryTick := BitVec.ofNat 32 boundary, settings := { s.etm.settings with source := .marked } } }

/-- 5.9, event 1. -/
theorem test_mark_adopted :
    see (.epochMark .broadcast 4201) (marked 4200 50000000 50899800) (fun t => (t.etm.epoch, t.etm.boundaryTick,
      t.etm.marksIgnored)) = some (4201, 50899800, 0) := by decide +kernel

/-- 5.9, events 2 and 7. -/
theorem test_mark_ignored_and_counted_on :
    see (.epochMark .broadcast 4201) (marked 4201 50899800 50900300) (fun t => (t.etm.epoch, t.etm.marksIgnored))
      = some (4201, 1)
    ∧ see (.epochMark .broadcast 17) (marked 4206 53609000 54508000) (fun t => (t.etm.epoch, t.etm.markMismatches))
      = some (4207, 1) := by decide +kernel

/-- 5.9, event 4. -/
theorem test_graceDeadline :
    see .graceDeadline (marked 4202 51799900 52709900) (fun t => (t.etm.epoch, t.etm.boundaryTick,
      t.nq.queue.map fun n => (n.kind, n.value))) = some (4203, 52709900, [(.markMissed, 4203)]) := by decide +kernel

theorem test_localBoundary :
    see .localBoundary (atTick 900000 State.reset) (fun t => (t.etm.epoch, t.etm.boundaryTick)) = some (1, 900000)
    ∧ see .localBoundary (atTick 899999 State.reset) (fun t => t.etm.epoch) = some 0 := by decide +kernel

/-- Event 1 of 1.7 and 4.7 due at the same tick as a boundary, of which one block may take its share late. -/
def closeAtBoundary (lags : List (Nat × AccountBlock)) : State :=
  { beforeFullClose with
    etm := { beforeFullClose.etm with boundaryTick := 300640 }, arbiter := { beforeFullClose.arbiter with lags } }

/-- Where the close stands after these commands: the window counts of segment 7, running and closing, and the epoch wear and
closing wear of m70, whose ΔW is 1171 (4.7). -/
def accountsAfter (cs : List Instr) (lags : List (Nat × AccountBlock)) : Option ((Nat × Nat) × Option (Nat × Option Nat)) :=
  match execAll cs (closeAtBoundary lags) with
  | .next t => some (((t.run 7).windowCount, (t.run 7).closingCount), (t.member 70).map fun m => (m.epochWear, m.closingWear))
  | .fault _ | .refused _ => none

/-- R99: the close falls into the ending epoch, or into the new one, at both blocks. -/
theorem test_close_and_boundary_whole :
    accountsAfter [.acceptedTransition 0, .localBoundary] [] = some ((0, 1), some (0, some 1171))
    ∧ accountsAfter [.localBoundary, .acceptedTransition 0] [] = some ((1, 0), some (1171, some 0)) := by
  and_intros <;> decide +kernel

/-- R99: the close falls into the ending epoch at the SMU and into the new one at the WAU, or the other way round. -/
theorem test_close_and_boundary_split :
    accountsAfter [.localBoundary, .acceptedTransition 0, .tick] [(1, .smu)] = some ((0, 1), some (1171, some 0))
    ∧ accountsAfter [.localBoundary, .acceptedTransition 0, .tick] [(1, .wau)] = some ((1, 0), some (0, some 1171)) := by
  and_intros <;> decide +kernel

theorem test_tick_wraps : see .tick (atTick 4294967295 State.reset) (·.etm.tick) = some 0 := by decide +kernel

theorem test_epochSet_deferred :
    statusOf (.epochSet { length := 240, shift := 7, minWindows := 0, checkpoint := 0, source := 1, grace := 60 }) plant
    = some .deferred := by decide +kernel

/-- 5.10: the rate pass of the boundary to epoch 10,000, at m30, with 37 closes at segment 4 and 2 at segment 9. -/
def inPass : State :=
  let s := inEpoch 10000 State.reset
  let s := s.setSegment 4 { defn := some { seg6 with driveLine := 3 }, run := { runIn .stopped with closingCount := 37 } }
  let s := s.setSegment 9 { defn := some { seg6 with driveLine := 4 }, run := { runIn .stopped with closingCount := 2 } }
  let s := s.setMember 30 (some { belt (some 4) with
    state := .warn, wear := 37500000, limit := 40000000, warn := 900, warnLevel := 36000000, rate := 52000
    closingWear := some 60000, projection := some 10048 })
  let s := s.setMember 31 (some { roller (some 4) with
    wear := 1200000, limit := 2000000, warnLevel := 1600000, rate := 4000, closingWear := some 3987 })
  let s := s.setMember 32 (some { roller (some 9) with
    state := .due, wear := 3010000, rate := 6000, closingWear := some 1150, projection := some 9999 })
  { s with wau := { s.wau with pass := some { next := 0, shift := 3, minWindows := 4 } } }

/-- 5.10, m30 and m31. -/
theorem test_ratePassVisit :
    see .ratePassVisit inPass (fun t => (t.member 30).map (fun m => (m.rate, m.projection))) = some (some (53000, some 10048))
    ∧ ((after .ratePassVisit inPass).bind (after .ratePassVisit)).map (fun t =>
        (t.member 31).map (fun m => (m.rate, m.projection))) = some (some (3999, some 10201)) := by decide +kernel

/-- 5.10, m32: two closes are below the minimum. -/
theorem test_ratePassVisit_holds_rate :
    see .ratePassVisit { inPass with wau := { inPass.wau with pass := some { next := 32, shift := 3, minWindows := 4 } } }
      (fun t => (t.member 32).map (fun m => (m.rate, m.projection))) = some (some (6000, some 10000)) := by decide +kernel

/-- The pass of `inPass` with no member left, auto-plan on. -/
def passDone : State :=
  { inPass with
    wau := { inPass.wau with pass := some { next := 33, shift := 3, minWindows := 4 } }
    spl := { inPass.spl with planner := { inPass.spl.planner with autoPlan := true } } }

theorem test_projectionsRefreshed :
    see .projectionsRefreshed passDone (fun t => (t.wau.pass, t.spl.planner.stage)) = some (none, .walk 0) := by
  decide +kernel

/-! ### The planning run (8.5) -/

/-- 8.5 before the run. -/
def plan85 : State :=
  let s := inEpoch 1000 plant
  let s := s.setWindows [window 11 1010 4 150 0 0x28, window 12 1040 4 90 60 0x8, window 13 1070 6 240 90 0xFFFFFF]
  let s := s.setPlanner { s.spl.planner with gangHorizon := 80 }
  let s := s.setMember 20 (some { belt (some 3) with state := .warn, wear := 2400000, projection := some 1050 })
  let s := s.setMember 21 (some { roller (some 3) with projection := some 1710 })
  let s := s.setMember 22 (some { roller (some 3) with projection := some 1045 })
  let s := s.setMember 40 (some { roller (some 5) with minutes := 30, projection := some 1080 })
  let s := s.setMember 41 (some { belt (some 5) with minutes := 100, state := .due, wear := 3000000, projection := some 999 })
  let s := s.setMember 43 (some { roller (some 3) with minutes := 40, projection := some 1900 })
  let s := s.setSlot 0 (some { placed (order 20 1050 90) 13 with reason := .warn, late := true })
  let s := s.setSlot 1 (some { order 21 1060 20 with reason := .host })
  let s := s.setSlot 2 (some (placed (order 43 1600 40) 12))
  s.setSlot 3 (some (placed (order 22 1046 20) 12))

/-- The state after so many of one command, where each answers one. -/
def times (i : Instr) : Nat → Option State → Option State
  | 0, s => s
  | n + 1, s => times i n (s.bind (after i))

/-- After the six visits of the walk. -/
def walked : Option State := times .planMemberWalk 6 (after .planRun plan85)

/-- 8.5, stage 1: orders are created in slots 4 and 5, and that of m43 is withdrawn. -/
theorem test_planMemberWalk :
    walked.map (fun t => ((t.slot 4).map (fun o => (o.member, o.due)), (t.slot 5).map (fun o => (o.member, o.reason)),
      (t.slot 2).isSome)) = some (some (40, 1080), some (41, .limit), false)
    ∧ walked.map (fun t => (t.nq.queue.map (fun n => (n.kind, n.value)), t.spl.windows.map (·.used)))
      = some ([(.orderWithdrawn, 1600)], [0, 20, 90]) := by decide +kernel

/-- After the reset (two orders taken back, the minutes of five copied, the used minutes set) and the sort. -/
def sorted : Option State := (times .placementReset 8 walked).bind (after .planSort)

/-- 8.5, stages 2 and 3. -/
theorem test_reset_and_sort :
    sorted.map (fun t => (t.spl.planner.sortList, t.spl.windows.map (·.used))) = some ([41, 22, 20, 21, 40], [0, 0, 0])
    ∧ sorted.map (fun t => (t.slot 0).map (fun o => (o.state, o.late))) = some (some (.proposed, false)) := by
  decide +kernel

/-- 8.5, stage 4: m41 goes LATE into 11, m22 into 12; in the end the counts are 5 placed and 2 late. -/
theorem test_orderPlacement :
    (times .orderPlacement 2 sorted).map (fun t => ((t.slot 5).map (fun o => (o.tag, o.late)),
      (t.slot 3).map (fun o => (o.tag, o.late)))) = some (some (some 11, true), some (some 12, false))
    ∧ (times .orderPlacement 5 sorted).map (fun t => ((t.spl.planner.placed, t.spl.planner.late),
        t.spl.windows.map (·.used))) = some ((5, 2), [100, 40, 120]) := by decide +kernel

/-- After ganging: m41's order and one roller's, m20's order and two rollers'. -/
def ganged : Option State := times .ganging 5 (times .orderPlacement 5 sorted)

/-- 8.5, stage 5: m40 moves from window 13 to window 11. -/
theorem test_ganging :
    ganged.map (fun t => (t.slot 4).map (fun o => (o.tag, o.ganged, o.late))) = some (some (some 11, true, false))
    ∧ ganged.map (fun t => t.spl.windows.map (·.used)) = some [130, 40, 90] := by decide +kernel

/-- R149: the belt's order is taken with the window it names, and its rollers' orders one after another. -/
theorem test_ganging_order_by_order :
    (times .ganging 1 (times .orderPlacement 5 sorted)).map (fun t => (t.spl.planner.stage, (t.slot 4).map (·.tag)))
      = some (.gangRollers 0 5 11 0, some (some 13))
    ∧ (times .ganging 2 (times .orderPlacement 5 sorted)).map (fun t => (t.spl.planner.stage, (t.slot 4).map (·.tag)))
      = some (.gangRollers 0 5 11 41, some (some 11)) := by decide +kernel

/-- 8.5, stage 6. -/
theorem test_planDone :
    (ganged.bind (after .planDone)).map (fun t => (t.spl.planner.stage, t.nq.queue.map (fun n => (n.kind, n.value))))
    = some (.idle, [(.orderWithdrawn, 1600), (.planDone, 84017152)]) := by decide +kernel

theorem test_planRun : statusOf .planRun (atStage .sort plan85) = some .busy := by decide +kernel
theorem test_planSet :
    dataOf (.planSet 1 672 80 8) State.reset = some [1, 2, 160, 0, 80, 8, 0, 0] := by decide +kernel

/-! ### Orders (6.9) -/

/-- 6.9, event 4: slot 1. -/
theorem test_orderRaise :
    (dataOf (.orderRaise 31 10030) ((lifecycle.setSlot 1 none).setPlanner Planner.reset)).map (·.take 4)
    = some [1, 31, 4, 1] := by decide +kernel

/-- 6.9, event 7: the window's minutes stand. -/
theorem test_orderStart :
    see (.orderStart 30) lifecycle (fun t => ((t.slot 0).map (fun o => (o.state, o.tag)), t.spl.windows.map (·.used)))
    = some (some (.inWork, none), [90]) := by decide +kernel

/-- R112: a SCHEDULED order's minutes leave its window. -/
theorem test_orderCancel :
    see (.orderCancel 43) plan85 (fun t => (t.slot 2, t.spl.windows.map (·.used))) = some (none, [0, 20, 90]) := by
  decide +kernel
theorem test_orderRead : (dataOf (.orderRead 22) plan85).map (·.take 4) = some [3, 22, 1, 2] := by decide +kernel
theorem test_orderList : (dataOf (.orderList 5) plan85).map (fun d => (d.length, d.take 2)) = some (137, [4, 0]) := by
  decide +kernel

/-! ### Windows and the pattern (7.7) -/

/-- The templates of 7.7. -/
def pattern77 : List Template :=
  [{ offset := 12, length := 2, capacity := 120, mask := 0x28 }, { offset := 8, length := 3, capacity := 90, mask := 0x8 },
   { offset := 28, length := 4, capacity := 240, mask := 0xFFFFFF }]

/-- 7.7 at an epoch, with this place in the pattern and these windows. -/
def generating (epoch index last tag : Nat) (st : GenState) (ws : List MaintWindow) : State :=
  let s := (inEpoch epoch State.reset).setWindows ws
  { s with spl := { s.spl with
      lastTag := tag, planner := { s.spl.planner with fillLevel := 2 }
      generator := { state := st, rotation := true, anchor := 1990, index, lastStart := last, templates := pattern77 } } }

/-- 7.7, event 1. -/
theorem test_patternControl :
    see (.patternControl 1 1 1990 1) (generating 2000 0 0 40 .idle []) (fun t => (t.spl.windows.map (fun w => (w.tag, w.start)),
      t.spl.generator.index, t.spl.generator.lastStart)) = some ([(41, 2002)], 1, 2002) := by decide +kernel

/-- 7.7, event 3, as the SPL takes the boundary to epoch 2002. -/
theorem test_boundary_tends_windows :
    (let s := generating 2002 2 2010 42 .running [window 41 2002 2 120 60 0x28, window 42 2010 3 90 40 0x8]
     let t := (s.setSlot 0 (some (placed (order 17 2000 60) 41))).tendWindows
     (t.spl.windows.map (fun w => (w.tag, w.start, w.state)), t.nq.queue.map (fun n => (n.kind, n.value)), (t.slot 0).map (·.state)))
    = ([(41, 2002, .active), (42, 2010, .opened), (43, 2038, .opened)], [(.windowReleased, 1), (.patternWrap, 2038)],
       some .released) := by decide +kernel

/-- 7.7, event 8: the boundary jumps to 2061. -/
theorem test_boundary_skips :
    (let s := generating 2061 1 2050 44 .running [window 42 2010 3 90 40 0x8, window 44 2050 2 120 0 0x28]
     let s := { s with spl := { s.spl with generator := { s.spl.generator with rotation := false } } }
     let t := (s.setSlot 0 (some (placed (order 23 2000 40) 42))).tendWindows
     (t.spl.windows.map (fun w => (w.tag, w.start)), t.nq.queue.map (fun n => (n.kind, n.value)), t.spl.generator.state))
    = ([(45, 2086)], [(.orderMissed, 2752513), (.windowSkipped, 2058), (.patternWrap, 2086), (.patternEnd, 2086)], .stopped) := by
  decide +kernel

/-- 7.7, event 6. -/
theorem test_windowRemove :
    see (.windowRemove 43) (generating 2004 0 2038 43 .running [window 42 2010 3 90 40 0x8, window 43 2038 4 240 0 0xFFFFFF])
      (fun t => t.spl.windows.map (fun w => (w.tag, w.start))) = some [(42, 2010), (44, 2050)] := by decide +kernel
theorem test_windowAdd :
    see (.windowAdd 2010 1 60 1) (generating 2004 0 2038 255 .running [window 1 2010 3 90 40 0x8]) (fun t =>
      t.spl.windows.map (fun w => (w.tag, w.length))) = some [(1, 3), (2, 1)] := by decide +kernel
theorem test_windowRead :
    (dataOf .windowReadList plan85).map (fun d => (d.take 4, d.length)) = some ([3, 0, 4, 11], 51)
    ∧ (dataOf .windowReadPattern (generating 0 1 2002 41 .running [])).map (·.drop 11)
      = some [3, 0, 12, 2, 0, 120, 0, 0, 0x28, 0, 8, 3, 0, 90, 0, 0, 8, 0, 28, 4, 0, 240, 0xFF, 0xFF, 0xFF] := by
  decide +kernel
theorem test_patternLoad :
    see (.patternLoad 1 [⟨12, 2, 120, 0x28⟩]) State.reset (·.spl.generator.templates) = some (pattern77.take 1) := by
  decide +kernel

/-! ### Notices (9.6) -/

/-- A notice that waits. -/
def waiting (kind : NoticeKind) (subject value : Nat) : Notice :=
  { kind, subject, firstEpoch := 8000, firstTick := 0, value, repeats := 1 }

/-- The queue of 9.6 before event 1. -/
def queue96 : Nq :=
  { queue := waiting .windowReleased 21 1 :: ((List.range 24).map (waiting .trackOverflow · 1)
      ++ [2, 5, 6, 9, 14].map (waiting .trackResync · 1)), mask := 0b10111, lost := 0, lostBit := false }

/-- 9.6 after events 1 to 4. -/
def queue96Full : Nq :=
  (((queue96.post .segLost 12 1510 8000 2005296).post .checkpoint 70 1755 8000 2006100).post
    .segLost 12 1520 8000 2031400).post .memberWarn 71 9376 8000 2032000

/-- 9.6, events 1 to 4. -/
theorem test_posting :
    ((queue96Full.queue.length, queue96Full.lost, queue96Full.lostBit),
      (queue96Full.queue[30]?).map (fun n => (n.value, n.repeats, n.firstTick))) = ((32, 1, true), some (1520, 2, 2005296))
    ∧ queue96Full.attention = { classes := 0b00111, lost := true, count := 32 } := by decide +kernel

/-- 9.6, event 5: the record, 31 left. -/
theorem test_noticeTake :
    dataOf .noticeTake { plant with nq := queue96Full }
      = some [0x22, 21, 0, 0, 0x1F, 0x40, 0, 0, 0, 0, 0, 0, 0, 1, 1, 31] := by decide +kernel

/-- 9.6, event 7. -/
theorem test_status_clears_lost :
    ((after .status { plant with nq := queue96Full }).bind (·.lnk.reply)).map (fun r => (r.data.getLast?, r.attention.lost))
    = some (some 1, false) := by decide +kernel
theorem test_noticeMask : statusOf (.noticeMask 32) State.reset = some .badValue := by decide +kernel

/-! ### The link (10.2 to 10.6) -/

/-- R161: 0x25 with mark 1 on the line, first bit first: start low, 1010 0100, mark, stop high. -/
theorem test_lineBits :
    ((List.range 11).map (lineBits 0x25 true true).getLsbD)
      = [false, true, false, true, false, false, true, false, false, true, true]
    ∧ lineData 0b11001001010 = 0x25 := by decide +kernel

/-- R164. -/
theorem test_crc : crc16 [0x31, 0x32, 0x33, 0x34, 0x35, 0x36, 0x37, 0x38, 0x39] = 0x29B1 := by decide +kernel

/-- Station 5. -/
def station5 : State := { State.reset with lnk := { State.reset.lnk with straps := 4, address := 5 } }

/-- R161: the line idles high, so without a start bit a low stop bit is no framing error. -/
theorem test_line_idles : (station5.receive .heard 0x3FF).lnk.counters.framing = 0
    ∧ (station5.receive .heard 0x3FE).lnk.counters.framing = 1 := by
  decide +kernel

/-- `f` of the state that a list of commands answers. -/
def seeAll {α : Type} (cs : List Instr) (s : State) (f : State → α) : Option α :=
  match execAll cs s with
  | .next t => some (f t)
  | .fault _ | .refused _ => none

/-- 10.6: the STATUS frame is five characters, and its last hands it to the RQD. -/
theorem test_transaction :
    (frameCommands ⟨5, 0x02, []⟩).length = 5
    ∧ seeAll (frameCommands ⟨5, 0x02, []⟩) station5 (fun t => ((t.lnk.receiver, t.lnk.replyState), t.rqd.handed,
        t.lnk.counters.good)) = some ((.idle, .pending), [⟨5, 0x02, []⟩], 1) := by decide +kernel

/-- 10.6: the reply is sent, and the receiver is BLANKED one character time beyond it. -/
def replied : Option State :=
  match execAll (frameCommands ⟨5, 0x02, []⟩) station5 with
  | .next t => (match step t with
    | .next u => some u
    | .fault _ | .refused _ => none)
  | .fault _ | .refused _ => none

theorem test_replyStart :
    (replied.bind (after .replyStart)).map (fun t => ((t.lnk.receiver, t.lnk.replyState, t.lnk.de), (t.lnk.tx.take 4).map (fun c => (lineData c, lineMark c, lineStop c))))
    = some ((.blanked, .sending, true), [(5, true, true), (24, false, true), (0x82, false, true), (0, false, true)]) := by decide +kernel
theorem test_replyEnd :
    ((replied.bind (after .replyStart)).bind (after .replyEnd)).map (fun t => (t.lnk.receiver, t.lnk.replyState, t.lnk.de))
    = some (.blanked, .none, false) := by decide +kernel
theorem test_blankingEnd :
    (((replied.bind (after .replyStart)).bind (after .replyEnd)).bind (after .blankingEnd)).map (·.lnk.receiver)
    = some .idle := by decide +kernel
theorem test_character_for_another :
    see (.characterReceived .heard ⟨6, true⟩ true) station5 (fun t => (t.lnk.receiver, t.lnk.buffer)) = some (.idle, []) := by
  decide +kernel

/-- R165: a character begun in the blanked span and ended beyond it is not counted, low stop bit or not; one begun after it is. -/
theorem test_character_begun_blanked :
    see (.characterReceived .blanked ⟨5, true⟩ false) station5 (·.lnk.counters.framing) = some 0
    ∧ see (.characterReceived .blanked ⟨5, true⟩ true) station5 (·.lnk.receiver) = some .idle
    ∧ see (.characterReceived .heard ⟨5, true⟩ true) station5 (·.lnk.receiver) = some .receiving := by decide +kernel

/-- A station that has its address byte and L. -/
def receiving : State := { station5 with lnk := { station5.lnk with receiver := .receiving, buffer := [5, 1] } }

theorem test_gapLimit :
    see .gapLimitExpiry receiving (fun t => (t.lnk.receiver, t.lnk.counters.gap)) = some (.idle, 1) := by decide +kernel
theorem test_linkSet_waits :
    see (.linkSet 15) station5 (fun t => (t.lnk.divisor, t.lnk.newDivisor)) = some (7, some 15) := by decide +kernel
theorem test_counters_clear :
    see .counters { station5 with lnk := { station5.lnk with counters := { LinkCounters.zero with good := 9 } } } (fun t =>
      (t.lnk.counters.good, ((t.lnk.reply.map (·.data)).getD []).take 2)) = some (0, [0, 9]) := by decide +kernel

/-! ### Requests and modes (11) -/

theorem test_ident : (dataOf .ident station5).map (·.take 4) = some [0xE0, 0x24, 0x01, 5] := by decide +kernel
theorem test_unknownKind : statusOf (.unknownKind 0x07) station5 = some .unknownKind := by decide +kernel
theorem test_modeSetup :
    see (.modeSetup .addressed) plant (fun t => (t.rqd.mode, t.rqd.pendingSetup)) = some (.counting, true) := by decide +kernel

/-- R171, reason 8: the straight successor 7 of segment 6 is not defined. -/
def missingSuccessor : State := (setRoles State.reset).setSegment 6 { defn := some seg6, run := SegRun.reset }

theorem test_modeCounting_refused :
    statusOf (.modeCounting .addressed) missingSuccessor = some .badValue
    ∧ dataOf (.modeCounting .addressed) missingSuccessor = some [6, 8] := by decide +kernel
theorem test_modeCounting :
    see (.modeCounting .broadcast) { plant with rqd := State.reset.rqd } (fun t => (t.rqd.mode, (t.run 7).supervision,
      (t.run 5).supervision)) = some (.counting, .stopped, .off) := by decide +kernel
theorem test_restartTracking :
    see (.restartTracking .broadcast) beforeTransfer (fun t => ((t.track 6).transit, t.itu.free, (t.track 7).errors))
    = some ([], 377, 0) := by decide +kernel
theorem test_restartPlan :
    see (.restartPlan .addressed) (atStage .sort plan85) (fun t => (t.spl.windows.length, (t.slot 0).isSome,
      t.nq.queue.map (fun n => (n.kind, n.value)))) = some (0, false, [(.planDone, 2147483648)]) := by decide +kernel
theorem test_restartAll :
    see (.restartAll .broadcast) station5 (fun t => (t.lnk.address, t.rqd.mode)) = some (5, .setup)
    ∧ see (.restartAll .addressed) (atTick 9 station5) (fun t => (t.etm.tick, t.lnk.restartAtEnd)) = some (9, true) := by
  decide +kernel

/-- R174: a broadcast RESTART ALL is taken at the character that ends its frame, with frames waiting before it. -/
theorem test_restartAll_frame :
    seeAll (frameCommands ⟨0, 0x04, [3]⟩) { station5 with
        etm := { station5.etm with tick := 9 }, rqd := { station5.rqd with handed := [⟨0, 0x03, [1]⟩] } }
      (fun t => (t.etm.tick, t.rqd.handed, t.lnk.counters.good)) = some (0, [], 0) := by decide +kernel
theorem test_coldReset : see (.coldReset 31) plant (fun t => (t.lnk.address, t.defn 7)) = some (32, none) := by decide +kernel

/-! ### Frames decode (11 section 11.6): one word of every group, written out byte by byte -/

theorem test_decode_rqd : decodeFrame ⟨5, 0x03, [0x01]⟩ = .run (.modeCounting .addressed) := by decide +kernel
theorem test_decode_etm : decodeFrame ⟨0, 0x09, [0x00, 0x00, 0x10, 0x69]⟩ = .run (.epochMark .broadcast 4201) := by
  decide +kernel
theorem test_decode_siu : decodeFrame ⟨5, 0x10, [31, 3, 1, 15]⟩ = .run (.lineSet 31 3 1 15) := by decide +kernel
theorem test_decode_smu :
    decodeFrame ⟨5, 0x12, [7, 0, 0, 1, 14, 15, 2, 8, 11, 0x09, 0xC4, 0x04, 0xB0, 0x01, 0x90, 0x05, 0xDC, 0x01, 0x2C, 0, 20,
      10, 2, 3, 0, 50, 3, 0x17, 0x70, 0, 100, 0, 0, 3]⟩ = .run (.segmentSet 7 false record7) := by decide +kernel
theorem test_decode_itu :
    decodeFrame ⟨5, 0x18, [8, 0, 9, 0, 7, 2, 0xFF, 0x01]⟩ = .run (.itemAnnounce 8 9 7 2 0xFF01) := by decide +kernel
theorem test_decode_wau :
    decodeFrame ⟨5, 0x20, [30, 1, 4, 0, 0x02, 0x3C, 0x34, 0x60, 0, 0x02, 0x62, 0x5A, 0x00, 0x03, 0x84, 0, 0, 0, 90, 0, 0,
      0xCB, 0x20]⟩ = .run (.memberDefine 30 define30) := by decide +kernel
theorem test_decode_wau_optional :
    decodeFrame ⟨5, 0x23, [71, 0x22, 0, 0, 0, 0, 0, 0, 0, 0x24, 0x9F, 0x00, 0, 0, 0, 0, 0, 25, 0, 0, 0, 0]⟩
      = .run (.memberAdjust 71 { wear := none, limit := some 2400000, warn := none, kLoad := none, kSlip := none
                                 minutes := some 25, rate := none })
    ∧ decodeFrame ⟨5, 0x26, [30, 1, 0, 0, 0, 0, 0, 0]⟩ = .run (.serviceDoneReplaced 30 none) := by decide +kernel
theorem test_decode_spl :
    decodeFrame ⟨5, 0x32, [0, 0, 0x07, 0xDA, 1, 0, 60, 0, 0, 1]⟩ = .run (.windowAdd 2010 1 60 1)
    ∧ decodeFrame ⟨5, 0x35, [1, 0, 12, 2, 0, 120, 0, 0, 0x28]⟩ = .run (.patternLoad 1 [⟨12, 2, 120, 0x28⟩])
    ∧ decodeFrame ⟨5, 0x39, [31, 0, 0, 0x27, 0x2E]⟩ = .run (.orderRaise 31 10030) := by decide +kernel
theorem test_decode_nq : decodeFrame ⟨5, 0x41, [0x17]⟩ = .run (.noticeMask 0x17) := by decide +kernel
theorem test_decode_checks :
    decodeFrame ⟨5, 0x03, []⟩ = .badValue ∧ decodeFrame ⟨5, 0x07, []⟩ = .unknown
    ∧ decodeFrame ⟨5, 0x35, [2, 0, 12, 2, 0, 120, 0, 0, 0x28]⟩ = .badValue := by decide +kernel

/-! ### Witnesses: for each statement with hypotheses, a state and operands that meet them, clause by clause -/

/-- A fact about every order of the pool. -/
def EachOrder (s : State) (P : SlotNo → Order → Bool) : Bool :=
  allSlots.all fun k => match s.slot k with
    | some o => P k o
    | none => true

theorem eachOrder_elim {s : State} {P : SlotNo → Order → Bool} (h : EachOrder s P = true) (k : SlotNo) (o : Order)
    (ho : s.slot k = some o) : P k o = true := by
  have := List.all_eq_true.mp h k (List.mem_finRange k)
  rwa [ho] at this

/-- A fact about every member that is not FREE. -/
def EachMember (s : State) (P : MemberNo → Member → Bool) : Bool :=
  allMembers.all fun n => match s.member n with
    | some m => P n m
    | none => true

theorem eachMember_elim {s : State} {P : MemberNo → Member → Bool} (h : EachMember s P = true) (n : MemberNo) (m : Member)
    (hm : s.member n = some m) : P n m = true := by
  have := List.all_eq_true.mp h n (List.mem_finRange n)
  rwa [hm] at this

theorem orderAt_of {s : State} {n : MemberNo} {k : SlotNo} {o : Order} (h : s.slot k = some o) (hm : o.member = n)
    (he : EachOrder s (fun j p => decide (p.member = n → j = k)) = true) : OrderAt s n k o :=
  ⟨h, hm, fun j p hj => of_decide_eq_true (eachOrder_elim he j p hj)⟩

theorem noOrder_of {s : State} {n : MemberNo} (he : EachOrder s (fun _ o => decide (o.member ≠ n)) = true) : NoOrder s n :=
  fun k o hk => of_decide_eq_true (eachOrder_elim he k o hk)

theorem drivesOnly_of {s : State} {l : LineNo} {g : SegNo} {d : SegDef}
    (h : s.defn g = some d ∧ d.driveLine = l ∧ d.idlerLine ≠ some l)
    (he : EachDefn s (fun h e => decide (e.driveLine = l ∨ e.idlerLine = some l → h = g)) = true) : DrivesOnly s l g d :=
  ⟨h.1, h.2.1, h.2.2, fun j e hj => of_decide_eq_true (eachDefn_elim he j e hj)⟩

theorem entersOnly_of {s : State} {l : LineNo} {g : SegNo} {d : SegDef} (h : s.defn g = some d ∧ d.entryGate = some l)
    (he : EachDefn s (fun h e => decide ((e.entryGate = some l → h = g) ∧ e.exitGate ≠ some l)) = true) :
    EntersOnly s l g d :=
  ⟨h.1, h.2, fun j e hj => of_decide_eq_true (eachDefn_elim he j e hj)⟩

theorem exitsOnly_of {s : State} {l : LineNo} {g : SegNo} {d : SegDef}
    (h : s.defn g = some d ∧ d.exitGate = some l ∧ d.entryGate.isSome = true)
    (he : EachDefn s (fun h e => decide ((e.exitGate = some l → h = g) ∧ e.entryGate ≠ some l)) = true) :
    ExitsOnly s l g d :=
  ⟨h.1, h.2.1, h.2.2, fun j e hj => of_decide_eq_true (eachDefn_elim he j e hj)⟩

theorem transfers_of {s : State} {l : LineNo} {a b : SegNo} {da db : SegDef}
    (h : a ≠ b ∧ s.defn a = some da ∧ da.exitGate = some l ∧ s.defn b = some db ∧ db.entryGate = some l)
    (he : EachDefn s (fun h e => decide ((e.exitGate = some l → h = a) ∧ (e.entryGate = some l → h = b))) = true) :
    Transfers s l a b da db :=
  ⟨h.1, h.2.1, h.2.2.1, h.2.2.2.1, h.2.2.2.2, fun j e hj => of_decide_eq_true (eachDefn_elim he j e hj)⟩

theorem emptyAt_of {s : State} {g : SegNo} (h : (s.run g).window.all (fun w => w.drive = 0) = true) : EmptyAt s g :=
  fun w hw => by rw [hw] at h; exact of_decide_eq_true h

theorem eachDefn_setRun (s : State) (g : SegNo) (r : SegRun) (P : SegNo → SegDef → Bool) :
    EachDefn (s.setRun g r) P = EachDefn s P := by simp [EachDefn]

theorem exists_of_after {i : Instr} {s : State} {P : State → Bool} (h : (after i s).any P = true) :
    ∃ t, exec i s = .next t ∧ P t = true := by
  unfold after at h
  split at h
  · exact ⟨_, ‹_›, h⟩
  · exact absurd h (by simp)
  · exact absurd h (by simp)

theorem takes_iff {s : State} {b : SegNo} : Takes s b ↔ (s.defn b).any (·.entryGate.isSome) = true := by
  unfold Takes
  cases s.defn b <;> simp

/-! #### The queue and the RQD -/

theorem witness_QueueFrontRuns : ({ State.reset with pending := [.tick, .ident] } : State).pending = .tick :: [.ident] := rfl

theorem witness_WaitingFramesAreServed :
    (State.reset.pending = [] ∧ State.reset.rqd.handed = [])
    ∧ ({ State.reset with rqd := { State.reset.rqd with handed := [⟨5, 0x02, []⟩] } } : State).rqd.handed = [⟨5, 0x02, []⟩]
    ∧ decodeFrame ⟨5, 0x02, []⟩ = .run .status
    ∧ decodeFrame ⟨5, 0x03, [2]⟩ = .badValue ∧ decodeFrame ⟨5, 0x07, []⟩ = .unknown ∧ decodeFrame ⟨0, 0x03, [2]⟩ = .badValue
    ∧ ([2] : List Byte).length ≠ 0 ∧ 1 < (2 : Byte).toNat ∧ 3 < (4 : Byte).toNat ∧ (0 : Byte) ≠ 1 ∧ (3 : Byte) ≠ 2
    ∧ (0 : Byte).toNat = 0 ∧ 16 < (17 : Byte).toNat ∧ ([] : List Byte).length ≠ 8 * (1 : Byte).toNat := by
  and_intros <;> decide +kernel

theorem witness_WaitingFramesAreServed_unknown : ∀ k : ReqKind, k.code ≠ 0x07 := by
  intro k
  cases k <;> decide

theorem witness_DecodeEncodeAgree :
    (Instr.segmentRead 7 true).wellFormed = true ∧ (5 : Byte) ≠ 0
    ∧ encodeFrame 5 (.segmentRead 7 true) = some ⟨5, 0x13, [7, 1]⟩ := by and_intros <;> decide +kernel

theorem witness_RequestsAreAnswered :
    (Instr.ident.wellFormed = true ∧ Instr.ident.addressedKind = some 0x01)
    ∧ (Instr.memberHold 5).addressedKind = some 0x22
    ∧ ∃ t, exec (.memberHold 5) State.reset = .next t ∧ (t.lnk.reply.any (·.status.refuses)) = true := by
  refine ⟨⟨by decide, by decide⟩, by decide, ?_⟩
  exact exists_of_after (i := .memberHold 5) (s := State.reset) (P := fun t => t.lnk.reply.any (·.status.refuses)) (by decide +kernel)

/-- A reply going out, a RESTART ALL behind it. -/
def restarting : State :=
  { station5 with lnk := { station5.lnk with
      receiver := .blanked, replyState := .sending, de := true, restartAtEnd := true
      reply := some { kind := 0x84, status := .ok, attention := { classes := 0, lost := false, count := 0 }, data := [3] } } }

theorem witness_ResetValuesGiven :
    restarting.lnk.replyState = .sending ∧ restarting.lnk.restartAtEnd = true ∧ restarting.lnk.newDivisor = none := by
  and_intros <;> decide +kernel

theorem witness_PartialRestarts : (atStage .sort plan85).spl.planner.stage ≠ .idle ∧ plan85.spl.planner.stage = .idle := by
  and_intros <;> decide +kernel

/-! #### Sense lines -/

/-- 1.1: line 0 with this run count, its level ACTIVE_HIGH's INACTIVE. -/
def filtering (count : Nat) : State :=
  ({ State.reset with siu := { State.reset.siu with levelsTaken := true } } : State).setLine 0
    { Line.reset with role := .pulse, runCount := count }

/-- The filter of line `l` accepts at a sample of `raw`. -/
abbrev acceptedBy (s : State) (raw : BitVec 32) (l : LineNo) : Prop :=
  (s.line l).polarity.convert (raw.getLsbD l.val) ≠ (s.line l).level ∧ (s.line l).filter + 1 ≤ (s.line l).runCount + 1

/-- The same at lines 0 and 1. -/
def filtering2 : State := (filtering 3).setLine 1 { Line.reset with role := .pulse, runCount := 3 }

/-- R2: two lines are accepted at one sample. -/
theorem test_sample_accepts_two :
    see (.sample 3) filtering2 (fun t => (((t.line 0).level, (t.line 0).changed), (t.line 1).level, (t.line 1).changed))
    = some ((.active, true), .active, true) := by decide +kernel

theorem witness_SampleFilters_two : acceptedBy filtering2 3 0 ∧ acceptedBy filtering2 3 1 := by and_intros <;> decide +kernel

theorem witness_SampleFilters :
    State.reset.siu.levelsTaken = false
    ∧ (filtering 2).siu.levelsTaken = true
    ∧ (filtering 2).line 0 = { Line.reset with role := .pulse, runCount := 2 }
    ∧ (∀ l, ¬ acceptedBy (filtering 2) 1 l)
    ∧ (filtering 3).siu.levelsTaken = true ∧ acceptedBy (filtering 3) 1 0 ∧ ∀ j, acceptedBy (filtering 3) 1 j → j = 0 := by
  and_intros <;> decide +kernel

theorem witness_TransitionAccepted :
    (State.reset.line 31).role = .unused
    ∧ (((atLevel 0 .active plant).line 0).role = .pulse ∧ ((atLevel 0 .active plant).line 0).level = .active)
    ∧ (((setRoles State.reset).line 2).role = .run
      ∧ ∀ g, ((setRoles State.reset).run g).supervision = .off ∧ ((setRoles State.reset).run g).window = none)
    ∧ (((setRoles State.reset).line 13).role = .gate ∧ (setRoles State.reset).rqd.mode = .setup) := by
  refine ⟨?_, ?_, ⟨?_, ?_⟩, ?_⟩ <;> decide +kernel

theorem witness_LineRequests :
    plant.rqd.mode = .counting ∧ State.reset.rqd.mode = .setup
    ∧ (31 < (32 : Byte).toNat ∧ 3 < (4 : Byte).toNat ∧ 1 < (2 : Byte).toNat ∧ 15 < (16 : Byte).toNat)
    ∧ ((31 : Byte).toNat = (31 : LineNo).val ∧ (15 : Byte).toNat ≤ 15)
    ∧ ((3 : Byte), Role.run) ∈ [((0 : Byte), Role.unused), (1, .pulse), (2, .gate), (3, .run)]
    ∧ ((1 : Byte), Polarity.activeLow) ∈ [((0 : Byte), Polarity.activeHigh), (1, .activeLow)] := by
  and_intros <;> decide +kernel

/-! #### Segments -/

/-- What R7 asks of a SEGMENT_SET. -/
abbrev goodSegment (segment : Byte) (r : SegmentRecord) : Prop :=
  let optional : Byte → Nat → Prop := fun b n => b = 0xFF ∨ b.toNat < n
  segment.toNat ≤ 23
  ∧ r.driveLine.toNat < 32 ∧ optional r.idlerLine 32 ∧ optional r.entryGate 32 ∧ optional r.exitGate 32
  ∧ optional r.runLine 32 ∧ optional r.straight 24 ∧ optional r.divert 24
  ∧ 1 ≤ r.driveCal.toNat ∧ 1 ≤ r.idlerCal.toNat ∧ (16 ≤ r.windowSize.toNat ∧ r.windowSize.toNat ≤ 4096)
  ∧ (1 ≤ r.nominal.toNat ∧ r.nominal.toNat ≤ 20000) ∧ r.maxDeviation.toNat < r.nominal.toNat
  ∧ r.deadband.toNat ≤ 20000 ∧ 1 ≤ r.step.toNat ∧ (1 ≤ r.acquireAttempts.toNat ∧ r.acquireAttempts.toNat ≤ 15)
  ∧ 1 ≤ r.lossLimit.toNat ∧ r.slipThreshold.toNat ≤ 1000 ∧ (1 ≤ r.slipRunCount.toNat ∧ r.slipRunCount.toNat ≤ 15)
  ∧ 1 ≤ r.length.toNat ∧ r.fallbackLoad.toNat ≤ 1023 ∧ (1 ≤ r.resyncThreshold.toNat ∧ r.resyncThreshold.toNat ≤ 15)
  ∧ r.idlerLine ≠ r.driveLine ∧ (r.entryGate = 0xFF ∨ r.entryGate ≠ r.exitGate)
  ∧ r.straight ≠ segment ∧ r.divert ≠ segment ∧ (r.divert ≠ 0xFF → r.straight ≠ 0xFF)

/-- A record at the bounds of its ranges. -/
def extreme : SegmentRecord :=
  { driveLine := 31, idlerLine := 0xFF, entryGate := 0xFF, exitGate := 0xFF, runLine := 0xFF, straight := 0xFF, divert := 0xFF
    driveCal := 65535, idlerCal := 1, windowSize := 4096, nominal := 20000, maxDeviation := 19999, deadband := 20000
    step := 1, acquireAttempts := 15, lossLimit := 255, slipThreshold := 1000, slipRunCount := 15, length := 65535
    fallbackLoad := 1023, unannouncedMass := 0, resyncThreshold := 15 }

theorem witness_SegmentSetRules :
    (plant.rqd.mode = .counting ∧ State.reset.rqd.mode = .setup)
    ∧ (goodSegment 7 record7 ∧ goodSegment 23 extreme)
    ∧ (¬ goodSegment 24 extreme ∧ ¬ goodSegment 8 record7 ∧ ¬ goodSegment 7 { record7 with windowSize := 15 })
    ∧ (State.reset.defn 23 = none ∧ 23 < (24 : Byte).toNat) := by
  and_intros <;> decide +kernel

/-- A segment defined anew: accepted, and defined after. -/
theorem witness_SegmentSetRules_accepted :
    ∃ t d, exec (.segmentSet (BitVec.ofNat 8 (7 : SegNo).val) false record7) State.reset = .next t ∧ t.defn 7 = some d
      ∧ Answers [.smu, .itu] 0x12 .ok [] State.reset t := by
  refine ⟨_, seg7, rfl, by decide +kernel, ?_, by decide +kernel, by decide +kernel⟩
  exact ⟨fun b _ => by cases b <;> first | contradiction | rfl, rfl, rfl⟩

/-- The plant in SETUP: segments are defined. -/
theorem witness_SegmentSetRules_defined :
    ({ plant with rqd := State.reset.rqd } : State).rqd.mode = .setup
    ∧ ({ plant with rqd := State.reset.rqd } : State).defn 7 = some seg7 := by and_intros <;> decide +kernel

theorem witness_SegmentReadRule :
    23 < (24 : Byte).toNat ∧ (23 : Byte).toNat = (23 : SegNo).val ∧ plant.defn 23 = none ∧ plant.defn 7 = some seg7 := by
  and_intros <;> decide +kernel

/-- The plant with segment `g` in a supervision state. -/
def within (g : SegNo) (st : Supervision) : State := plant.setRun g (runIn st)

/-- The same, with a window open. -/
def opened (g : SegNo) (st : Supervision) (drive idler : Nat) : State :=
  plant.setRun g { runIn st with window := some { openTick := 0, drive, idler } }

theorem witness_PulsesReachTheirSegments :
    ReadyToRise plant 0 .pulse
    ∧ (EachDefn plant fun g d => decide (g = 7 ∨ (d.driveLine ≠ 0 ∧ d.idlerLine ≠ some 0))) = true
    ∧ (ReadyToRise plant 1 .pulse ∧ plant.defn 7 = some seg7 ∧ seg7.driveLine ≠ 1 ∧ seg7.idlerLine = some 1)
    ∧ (seg7.driveLine = 0 ∧ seg7.idlerLine ≠ some 0)
    ∧ ([Supervision.off, .failed, .stopped, .acquire, .track, .idlerLost].all fun st =>
        decide (((within 7 st).line 0).role = .pulse ∧ ((within 7 st).line 0).level = .inactive)
          && decide (((within 7 st).run 7).supervision = st ∧ ((within 7 st).run 7).window = none)) = true
    ∧ ([Supervision.acquire, .track, .idlerLost, .driveLost].all fun st =>
        decide (((opened 7 st 398 0).run 7).supervision = st ∧ 398 + 1 < seg7.windowSize)
          && decide (((opened 7 st 398 0).run 7).window = some { openTick := 0, drive := 398, idler := 0 })) = true := by
  unfold ReadyToRise
  and_intros <;> decide +kernel

/-- A drive pulse meets a STOPPED segment: its run line stands INACTIVE, it stands ACTIVE, or there is none. -/
theorem witness_PulsesReachTheirSegments_stopped :
    (seg7.runLine.isSome = true ∧ ∀ t : State, (t.line 2).level = .inactive → ¬ RunsNow t seg7)
    ∧ RunsNow (atLevel 2 .active plant) seg7 ∧ (plant.defn 6 = some seg6 ∧ seg6.runLine = none) := by
  refine ⟨⟨rfl, ?_⟩, ⟨2, rfl, by decide +kernel⟩, by decide +kernel, rfl⟩
  rintro t h ⟨r, hr, ha⟩
  cases hr
  rw [h] at ha
  exact absurd ha (by decide)

/-- A window of segment 7 about to close: opened `ms` ago, with I and V, in a supervision state. -/
def closing (st : Supervision) (ms idler speed : Nat) : State :=
  atTick (5000 + ms) (plant.setRun 7 { runIn st with
    speed, slipRun := 2, window := some { openTick := 5000, drive := 399, idler } })

theorem closing_closes (st : Supervision) (hst : st ∈ [.acquire, .track, .idlerLost, .driveLost]) (ms idler speed : Nat) :
    ReadyToRise (closing st ms idler speed) 0 .pulse
      ∧ ClosesAt (closing st ms idler speed) 0 7 seg7 { openTick := 5000, drive := 399, idler } := by
  have h : (closing st ms idler speed).defn 7 = plant.defn 7 := State.defn_setRun plant 7 7 _
  have hr : (closing st ms idler speed).run 7 = { runIn st with
      speed, slipRun := 2, window := some { openTick := 5000, drive := 399, idler } } := State.run_setRun_self plant 7 _
  have hl : ReadyToRise plant 0 .pulse := by unfold ReadyToRise; decide +kernel
  exact ⟨hl, h.trans (by decide +kernel), rfl, by decide, by rw [hr], rfl, by rw [hr]; exact hst⟩

/-- The same, with line 0 the drive line of segment 8 too, whose window closes, and of segment 11, whose drive is lost. -/
def shared : State :=
  let s := (closing .track 640 820 1500).setSegment 8 { defn := some { seg8 with driveLine := 0 }, run := { runIn .driveLost with
    intervals := 2, window := some { openTick := 5000, drive := 399, idler := 0 } } }
  s.setSegment 11 { defn := some { seg11 with driveLine := 0 }, run := runIn .driveLost }

/-- R4, R18, R34: one pulse closes the windows of two segments and reckons the part-interval of a third. -/
theorem test_fullClose_shared_line :
    see (.acceptedTransition 0) shared (fun t => (((t.run 7).fullWindows, (t.run 8).fullWindows),
      (t.run 11).window.isSome, t.nq.queue.map fun n => (n.kind, n.value)))
    = some ((1, 1), true, [(.segRecovered, 2)]) := by decide +kernel

theorem witness_FullCloseReactions_shared :
    ReadyToRise shared 0 .pulse
    ∧ ClosesAt shared 0 7 seg7 { openTick := 5000, drive := 399, idler := 820 }
    ∧ ClosesAt shared 0 8 { seg8 with driveLine := 0 } { openTick := 5000, drive := 399, idler := 0 }
    ∧ (shared.pulseReport 0 8 16).map (·.travel) = some 1000
    ∧ ((shared.pulseReport 0 11 16).isSome = true ∧ (shared.run 11).window = none)
    ∧ shared.pulseReport 0 6 16 = none := by
  unfold ReadyToRise ClosesAt
  and_intros <;> decide +kernel

theorem witness_FullCloseFigures :
    (ReadyToRise (closing .track 640 820 1500) 0 .pulse
      ∧ ClosesAt (closing .track 640 820 1500) 0 7 seg7 { openTick := 5000, drive := 399, idler := 820 })
    ∧ (seg7.idlerLine.isSome = true ∧ 820 * seg7.idlerCal < seg7.windowSize * seg7.driveCal
        ∧ seg7.windowSize * seg7.driveCal ≤ 834 * seg7.idlerCal)
    ∧ (1500 + seg7.deadband < 400 * 2500 / 640 ∧ 400 * 2500 / 800 + seg7.deadband < 1500
        ∧ 1560 ≤ 400 * 2500 / 640 + seg7.deadband ∧ 400 * 2500 / 640 ≤ 1560 + seg7.deadband) := by
  refine ⟨closing_closes _ (by decide) _ _ _, ?_, ?_⟩ <;> decide

/-- At the limit and beyond it (first report and repeat), the slip alarm, the idler lost, and each way back to TRACK. -/
theorem witness_FullCloseReactions :
    (see (.acceptedTransition 0) (closing .track 500 820 1795) (fun t => ((t.run 7).speed, t.nq.queue.map (fun n => (n.kind, n.value))))
      = some (1800, [(.speedLimit, 2000)]))
    ∧ (see (.acceptedTransition 0) (closing .track 640 750 1560) (fun t => ((t.run 7).slip, t.nq.queue.map (fun n => (n.kind, n.value))))
      = some (100, [(.slipAlarm, 100)]))
    ∧ (see (.acceptedTransition 0) (closing .track 640 0 1560) (fun t => ((t.run 7).supervision, t.nq.queue.map (fun n => (n.kind, n.value))))
      = some (.idlerLost, [(.segIdlerLost, 16)]))
    ∧ (see (.acceptedTransition 0) (closing .idlerLost 640 0 1560) (fun t => (t.run 7).supervision) = some .idlerLost)
    ∧ (see (.acceptedTransition 0) (closing .idlerLost 640 820 1560) (fun t => t.nq.queue.map (·.kind)) = some [.segRecovered])
    ∧ (see (.acceptedTransition 0) (closing .driveLost 640 820 1560) (fun t => t.nq.queue.map (·.kind)) = some [.segRecovered])
    ∧ (see (.acceptedTransition 0) (closing .acquire 640 820 1560) (fun t => (t.run 7).supervision) = some .track) := by
  refine ⟨?_, ?_, ?_, ?_, ?_, ?_, ?_⟩ <;> decide +kernel

theorem within_drives (st : Supervision) : DrivesOnly (within 7 st) 0 7 seg7 := by
  refine drivesOnly_of ⟨by rw [within, State.defn_setRun]; decide +kernel, rfl, by decide⟩ ?_
  rw [within, eachDefn_setRun]
  decide +kernel

theorem witness_PartIntervalsAreReckoned :
    (ReadyToRise (within 7 .driveLost) 0 .pulse ∧ DrivesOnly (within 7 .driveLost) 0 7 seg7
      ∧ ((within 7 .driveLost).run 7).supervision = .driveLost ∧ ((within 7 .driveLost).run 7).window = none)
    ∧ (23 < (24 : Byte).toNat ∧ (7 : Byte).toNat = (7 : SegNo).val)
    ∧ (((within 7 .track).run 7).supervision ≠ .failed ∧ plant.defn 23 = none)
    ∧ ((within 7 .failed).defn 7 = some seg7 ∧ ((within 7 .failed).run 7).supervision = .failed
      ∧ ((within 7 .failed).run 7).window = none)
    ∧ RunsNow (atLevel 2 .active (within 7 .failed)) seg7 := by
  refine ⟨⟨⟨rfl, rfl⟩, within_drives _, rfl, rfl⟩, by decide, ⟨by decide +kernel, by decide +kernel⟩, ⟨rfl, rfl, rfl⟩,
    2, rfl, by decide +kernel⟩

/-- Segment 7 in a supervision state with attempts left 1 at a tick its timeout of 2648 ms ends at, the run line ACTIVE. -/
def expiring (st : Supervision) (window : Option MeasWindow) (attempts : Nat) : State :=
  (atLevel 2 .active (atTick 2648 plant)).setRun 7 { runIn st with window, attemptsLeft := attempts }

theorem expiring_due (st : Supervision) (h : st ∈ [.acquire, .track, .idlerLost, .driveLost, .failed])
    (window : Option MeasWindow) (attempts : Nat) : ExpiryDue (expiring st window attempts) 7 seg7 := by
  refine ⟨by simp only [expiring, State.defn_setRun]; decide +kernel, ?_, ?_⟩
  · by_cases hf : st = .failed
    · exact .inr ⟨by simp [expiring, runIn, hf], 2, rfl, by simp only [expiring, State.line_setRun]; decide +kernel⟩
    · refine .inl ?_
      simp only [expiring, State.run_setRun_self]
      cases st <;> simp_all [runIn]
  · rw [expiring, State.run_setRun_self]
    show 2648 ≤ (BitVec.ofNat 32 2648 - 0).toNat
    decide

theorem witness_TimerExpires :
    (∀ d, ¬ ExpiryDue plant 7 d)
    ∧ ExpiryDue (expiring .track (some { openTick := 0, drive := 1, idler := 0 }) 0) 7 seg7
    ∧ PartialAt (expiring .track (some { openTick := 0, drive := 1, idler := 0 }) 0) 7 { openTick := 0, drive := 1, idler := 0 }
    ∧ EmptyAt (expiring .track (some { openTick := 0, drive := 0, idler := 9 }) 0) 7
    ∧ (∀ st ∈ [Supervision.acquire, .track, .idlerLost, .driveLost, .failed],
        ExpiryDue (expiring st none 2) 7 seg7 ∧ EmptyAt (expiring st none 2) 7
        ∧ ((expiring st none 2).run 7).supervision = st ∧ 1 < ((expiring st none 2).run 7).attemptsLeft)
    ∧ ((expiring .acquire none 1).run 7).attemptsLeft ≤ 1 ∧ seg7.runLine.isSome = true := by
  refine ⟨?_, expiring_due _ (by decide) _ _, ⟨rfl, Nat.le_refl 1⟩, emptyAt_of rfl, fun st h => ?_, Nat.le_refl 1, rfl⟩
  · rintro d ⟨-, h | h, -⟩
    · exact absurd h (by decide +kernel)
    · exact absurd h.1 (by decide +kernel)
  · exact ⟨expiring_due st h none 2, emptyAt_of rfl, rfl, Nat.lt_add_one 1⟩

/-- No run line: an empty expiry stops the segment. -/
theorem witness_TimerExpires_no_run_line :
    ExpiryDue ((atTick 2648 plant).setRun 6 (runIn .track)) 6 seg6 ∧ EmptyAt ((atTick 2648 plant).setRun 6 (runIn .track)) 6
    ∧ seg6.runLine = none := by
  refine ⟨⟨rfl, .inl (by decide), Nat.le_refl 2648⟩, emptyAt_of rfl, rfl⟩

/-- Line 2 the run line of segments 7 (a window of 200 pulses), 8 (its drive lost) and 11, at tick 1000. -/
def sharedRun (level : Level) (st : Supervision) : State :=
  let s := atLevel 2 level (atTick 1000 (opened 7 .track 200 0))
  let s := s.setSegment 8 { defn := some { seg8 with runLine := some 2 }, run := { runIn .driveLost with intervals := 2 } }
  let s := s.setTrack 8 { Tracking.reset with transit := [item 1 1 0 []] }
  s.setSegment 11 { defn := some { seg11 with runLine := some 2 }, run := runIn st }

/-- R4, R11, R20, R32, R36: one run-off stops two segments, the windowed one with a partial close, the lost one with its
part-interval of 1000 ms at 1510 mm/s; the FAILED one stays. -/
theorem test_runOff_shared_line :
    see (.acceptedTransition 2) (sharedRun .active .failed) (fun t => (((t.run 7).supervision, (t.run 8).supervision,
      (t.run 11).supervision), (t.run 7).partialWindows, (t.run 8).intervals, (t.track 8).transit.map (·.travel)))
    = some ((.stopped, .stopped, .failed), 1, 0, [1510]) := by decide +kernel

/-- R26: one run-on starts the STOPPED one of three segments. -/
theorem test_runOn_shared_line :
    see (.acceptedTransition 2) (sharedRun .inactive .stopped) (fun t => ((t.run 7).supervision, (t.run 8).supervision,
      (t.run 11).supervision))
    = some (.track, .driveLost, .acquire) := by decide +kernel

theorem witness_RunEventsStartAndStop :
    ((plant.line 2).role = .run ∧ (plant.line 2).level = .inactive ∧ plant.defn 7 = some seg7 ∧ seg7.runLine = some 2
      ∧ plant.defn 8 = some seg8 ∧ seg8.runLine ≠ some 2 ∧ plant.defn 5 = none)
    ∧ (((within 7 .stopped).run 7).supervision = .stopped ∧ ((within 7 .failed).run 7).supervision = .failed
      ∧ ((within 7 .track).run 7).supervision ∉ [.stopped, .failed])
    ∧ ((expiring .off none 0).line 2).level = .active
    ∧ ((∀ g, (expiring .stopped none 0).runOffReport 2 g = none)
      ∧ EachDefn (expiring .stopped none 0) (fun g d =>
        decide (d.runLine = some 2 → ((expiring .stopped none 0).run g).supervision ∈ [.off, .stopped])) = true)
    ∧ (∀ st ∈ [Supervision.acquire, .track, .idlerLost, .driveLost],
        ((expiring st (some { openTick := 0, drive := 1, idler := 0 }) 0).run 7).supervision = st
        ∧ PartialAt (expiring st (some { openTick := 0, drive := 1, idler := 0 }) 0) 7 { openTick := 0, drive := 1, idler := 0 }
        ∧ EmptyAt (expiring st none 0) 7)
    ∧ (((expiring .failed none 0).run 7).supervision = .failed ∧ ((expiring .failed none 0).run 7).window = none) := by
  refine ⟨by decide +kernel, ⟨rfl, rfl, by decide +kernel⟩, by decide +kernel, by decide +kernel,
    fun st _ => ⟨rfl, ⟨rfl, Nat.le_refl 1⟩, emptyAt_of rfl⟩, rfl, rfl⟩

/-- A run-off meets three segments: a partial close, a part-interval and the part-interval of a FAILED one. -/
theorem witness_RunEventsStartAndStop_shared :
    (((sharedRun .active .failed).line 2).role = .run ∧ ((sharedRun .active .failed).line 2).level = .active)
    ∧ ((sharedRun .active .failed).runOffReport 2 7 = some { segment := 7, kind := .partialWindow, travel := 500, slip := 16 }
      ∧ (sharedRun .active .failed).runOffReport 2 8 = some { segment := 8, kind := .reckoning, travel := 1510, slip := 16 }
      ∧ (sharedRun .active .failed).runOffReport 2 11 = some { segment := 11, kind := .reckoning, travel := 1510, slip := 16 }
      ∧ (sharedRun .active .failed).runOffReport 2 6 = none) := by
  and_intros <;> decide +kernel

/-! #### Items -/

/-- Segment 8's arrival list holds `a` entries and its transit list `t`, with this free list. -/
def loaded (g : SegNo) (a t free : Nat) : State :=
  let s := plant.setTrack g { Tracking.reset with
    arrival := List.replicate a (item 1 1 0 []), transit := List.replicate t (item 2 1 0 []) }
  { s with itu := { s.itu with free } }

theorem witness_ItemAnnounceRule :
    (∀ g : SegNo, (5 : Byte).toNat = g.val → ¬ Takes plant g) ∧ (∀ g : SegNo, (24 : Byte).toNat ≠ g.val)
    ∧ 12 < (13 : Byte).toNat
    ∧ ((8 : Byte).toNat = (8 : SegNo).val ∧ Takes plant 8 ∧ (12 : Byte).toNat ≤ 12)
    ∧ (32 ≤ ((loaded 8 32 0 9).track 8).arrival.length ∧ (loaded 8 0 0 0).itu.free = 0)
    ∧ (((loaded 8 31 0 1).track 8).arrival.length < 32 ∧ 0 < (loaded 8 31 0 1).itu.free) := by
  refine ⟨?_, ?_, by decide, ⟨rfl, takes_iff.2 (by decide +kernel), by decide⟩, ?_, ?_⟩
  · intro g hg
    have : g = 5 := Fin.ext hg.symm
    subst this
    rw [takes_iff]
    decide +kernel
  · decide
  · and_intros <;> decide +kernel
  · and_intros <;> decide +kernel

theorem witness_SuccessorChosen :
    (seg7.straight = some 8 ∧ seg7.divert = some 11) ∧ (seg6.straight = some 7 ∧ seg6.divert = none)
    ∧ (seg8.straight = none ∧ seg8.divert = none) := by and_intros <;> decide

theorem witness_EntriesAreTracked :
    (ReadyToRise plant 13 .gate ∧ EntersOnly plant 13 6 seg6)
    ∧ (plant.rqd.mode = .counting ∧ (setRoles State.reset).rqd.mode = .setup)
    ∧ (((loaded 6 1 63 9).track 6).arrival = item 1 1 0 [] :: [] ∧ ((loaded 6 1 63 9).track 6).transit.length < 64)
    ∧ (((loaded 6 1 64 9).track 6).arrival = item 1 1 0 [] :: [] ∧ 64 ≤ ((loaded 6 1 64 9).track 6).transit.length)
    ∧ (((loaded 6 0 63 1).track 6).arrival = [] ∧ ((loaded 6 0 63 1).track 6).transit.length < 64
      ∧ 0 < (loaded 6 0 63 1).itu.free ∧ (loaded 6 0 63 0).itu.free = 0)
    ∧ (((loaded 6 0 64 1).track 6).arrival = [] ∧ 64 ≤ ((loaded 6 0 64 1).track 6).transit.length) := by
  refine ⟨⟨?_, entersOnly_of ?_ ?_⟩, ?_, ?_, ?_, ?_, ?_⟩ <;> (try unfold ReadyToRise) <;> and_intros <;> decide +kernel

theorem witness_ExitsAreTracked :
    (ReadyToRise plant 18 .gate ∧ ExitsOnly plant 18 8 seg8) ∧ (ReadyToRise plant 15 .gate ∧ ExitsOnly plant 15 7 seg7)
    ∧ plant.rqd.mode = .counting ∧ (setRoles State.reset).rqd.mode = .setup
    ∧ (plant.track 8).transit = [] ∧ ((loaded 7 0 1 1).track 7).transit = item 2 1 0 [] :: []
    ∧ (∀ b, (chooseSuccessor seg8 []).1 = some b → ¬ Takes plant b)
    ∧ ((chooseSuccessor seg7 []).1 = some 8 ∧ Takes plant 8 ∧ (8 : SegNo) ≠ 7)
    ∧ ((loaded 8 31 0 1).track 8).arrival.length < 32 ∧ 32 ≤ ((loaded 8 32 0 1).track 8).arrival.length := by
  refine ⟨⟨?_, exitsOnly_of ?_ ?_⟩, ⟨?_, exitsOnly_of ?_ ?_⟩, ?_, ?_, ?_, ?_, fun b hb => absurd hb (by decide +revert),
    ⟨?_, takes_iff.2 ?_, ?_⟩, ?_, ?_⟩ <;> (try unfold ReadyToRise) <;> and_intros <;> decide +kernel

/-- The plant with segment 6 not tracked, or with segment 8 left without an entry gate. -/
def untracked (g : SegNo) (d : SegDef) : State := plant.setSegment g { defn := some { d with entryGate := none }, run := runIn .track }

theorem witness_TransfersExitFirst :
    (ReadyToRise plant 14 .gate ∧ Transfers plant 14 6 7 seg6 seg7 ∧ plant.rqd.mode = .counting
      ∧ (plant.track 7).transit.length < 64 ∧ seg6.entryGate.isSome = true ∧ (plant.track 6).transit = [])
    ∧ Transfers (untracked 6 seg6) 14 6 7 { seg6 with entryGate := none } seg7
    ∧ ((beforeTransfer.track 6).transit.head? = some (item 501 420 3850 [true, false])
      ∧ chooseSuccessor seg6 [true, false] = (some 7, [true, false]) ∧ (beforeTransfer.track 7).arrival = [])
    ∧ ((loaded 7 1 63 1).track 7).arrival = item 1 1 0 [] :: []
    ∧ ReadyToRise (untracked 8 seg8) 18 .gate
    ∧ (EachDefn (untracked 8 seg8) fun _ e => decide ((e.exitGate = some 18 → e.entryGate = none) ∧ e.entryGate ≠ some 18))
        = true := by
  refine ⟨⟨?_, transfers_of ?_ ?_, ?_, ?_, ?_, ?_⟩, transfers_of ?_ ?_, ?_, ?_, ?_, ?_⟩ <;> (try unfold ReadyToRise) <;>
    and_intros <;> decide +kernel

/-- Segment 6 branches to 7 and 11, and the head of its transit list is to be diverted. -/
def branching : State :=
  (plant.setSegment 6 { defn := some { seg6 with divert := some 11 }, run := runIn .track }).setTrack 6
    { Tracking.reset with transit := [item 501 420 3850 [true]] }

/-- R50, R52: the item goes to segment 11, and the entry at segment 7 is unannounced. -/
theorem test_transfer_to_another :
    see (.acceptedTransition 14) branching (fun t => ((t.track 11).arrival.map (·.tag), (t.track 7).unannounced,
      (t.track 7).transit.map (·.unknown))) = some ([501], 1, [true]) := by decide +kernel

theorem witness_TransfersExitFirst_other :
    (ReadyToRise branching 14 .gate ∧ Transfers branching 14 6 7 { seg6 with divert := some 11 } seg7
      ∧ branching.rqd.mode = .counting)
    ∧ ((branching.track 6).transit = item 501 420 3850 [true] :: []
      ∧ chooseSuccessor { seg6 with divert := some 11 } [true] = (some 11, []) ∧ Takes branching 11 ∧ (11 : SegNo) ≠ 6)
    ∧ (branching.track 7).arrival = [] ∧ 64 ≤ ((loaded 7 1 64 1).track 7).transit.length := by
  refine ⟨⟨?_, transfers_of ?_ ?_, ?_⟩, ⟨?_, ?_, takes_iff.2 ?_, ?_⟩, ?_, ?_⟩ <;> (try unfold ReadyToRise) <;>
    and_intros <;> decide +kernel

/-- A branching segment without an exit gate carries three items past its length, to a list with one place left. -/
def leaving : SegDef := { seg6 with exitGate := none, divert := some 11 }
def leavingState : State :=
  let s := plant.setSegment 6 { defn := some leaving, run := runIn .track }
  let s := s.setTrack 6 { Tracking.reset with transit := [item 1 1 3999 [], item 2 1 3999 [true], item 3 1 3999 []] }
  s.setTrack 7 { Tracking.reset with arrival := List.replicate 31 (item 9 1 0 []) }

/-- R50, R51, R57: the first fills segment 7's arrival list, the second goes to segment 11, the third is dropped. -/
theorem test_exit_by_travel_branches :
    (let t := leavingState.ageItems 6 leaving 1
     (((t.track 7).arrival.length, (t.track 11).arrival.map (·.tag)), (t.track 6).dropped,
       t.nq.queue.map fun n => (n.kind, n.subject, n.value))) = ((32, [2]), 1, [(.trackOverflow, 6, 3)]) := by decide +kernel

theorem witness_CloseAgesItems_branching :
    (leaving.entryGate.isSome = true ∧ leaving.exitGate = none)
    ∧ ((agedBy 1 (leavingState.track 6).transit).takeWhile fun i => decide (leaving.length ≤ i.travel)).length = 3
    ∧ ((chooseSuccessor leaving []).1 = some 7 ∧ Takes leavingState 7 ∧ (chooseSuccessor leaving [true]).1 = some 11
      ∧ Takes leavingState 11) := by
  refine ⟨?_, ?_, ?_, takes_iff.2 ?_, ?_, takes_iff.2 ?_⟩ <;> and_intros <;> decide +kernel

/-- Segment 6 with one item that has ridden far, RESYNC and errors as given. -/
def aging (resync : Bool) (errors : Nat) : State :=
  plant.setTrack 6 { Tracking.reset with resync, errors, transit := [item 1 1 7999 []] }

theorem witness_CloseAgesItems :
    ({ seg6 with entryGate := none } : SegDef).entryGate = none ∧ (seg6.entryGate.isSome = true ∧ seg6.exitGate.isSome = true)
    ∧ ((aging false 0).track 6).resync = false ∧ ((aging true 0).track 6).resync = true
    ∧ (((agedBy 1 ((aging false 0).track 6).transit).takeWhile fun i => decide (2 * seg6.length ≤ i.travel)).length = 1
      ∧ 0 + 1 < seg6.resyncThreshold ∧ 3 < seg6.resyncThreshold ∧ seg6.resyncThreshold ≤ 3 + 1)
    ∧ (({ seg8 with exitGate := none } : SegDef).exitGate = none ∧ seg8.straight = none ∧ seg8.divert = none)
    ∧ (({ seg6 with exitGate := none } : SegDef).straight = some 7 ∧ seg6.divert = none ∧ Takes plant 7 ∧ (7 : SegNo) ≠ 6)
    ∧ (plant.track 7).arrival.length + 32 ≤ 32 := by
  refine ⟨?_, ?_, ?_, ?_, ?_, ?_, ⟨?_, ?_, takes_iff.2 ?_, ?_⟩, ?_⟩ <;> and_intros <;> decide +kernel

/-- Event 1 of 3.9 waits, the pool whole. -/
def pooled : State := { beforeTransfer with itu := { beforeTransfer.itu with free := 378 }, pending := [.acceptedTransition 14] }

theorem witness_ItemPoolKept : PoolInv pooled ∧ (match step pooled with
    | .next _ => true
    | .fault _ | .refused _ => false) = true := by
  unfold PoolInv
  refine ⟨⟨?_, ?_⟩, ?_⟩ <;> decide +kernel

/-! #### Members -/

theorem noMember_reset (n : MemberNo) : State.reset.member n = none := by simp [State.member, State.reset]

/-- A full close of segment 7. -/
def fullClose7 : CloseReport := { segment := 7, kind := .fullWindow, travel := 1000, slip := 16 }

theorem witness_AccrualArithmetic :
    (roller none).residue < 2 ^ 20 ∧ (roller none).kLoad = 0 ∧ (roller none).kSlip = 0
    ∧ ({ fullClose7 with travel := 0 } : CloseReport).travel = 0
    ∧ ({ fullClose7 with travel := 1200000, slip := 1000 } : CloseReport).travel ≤ 1200000
    ∧ { belt none with kLoad := 255, kSlip := 255, residue := 2 ^ 20 - 1 }.residue < 2 ^ 20
    ∧ { belt none with kLoad := 255 }.kLoad ≤ 255 ∧ (1023 : Nat) ≤ 1023
    ∧ ({ SegRun.reset with speed := 20000, residue := 999 }.speed ≤ 20000
      ∧ { SegRun.reset with speed := 20000, residue := 999 }.residue < 1000 ∧ (60000 : Nat) ≤ 60000)
    ∧ ({ openTick := 0, drive := 4096, idler := 0 } : MeasWindow).drive ≤ 4096 ∧ (65535 : Nat) ≤ 65535 := by
  and_intros <;> decide +kernel

theorem witness_AccrualEffects :
    (0 < 1500 ∧ { roller none with unsavedWear := 500 }.checkpointArmed = true
      ∧ 1500 ≤ min (500 + (roller none).product fullClose7 0 / 2 ^ 20) (2 ^ 32 - 1))
    ∧ (roller none).held = false
    ∧ ({ roller none with wear := 2399000 }.state = .normal
      ∧ 2400000 ≤ min (2399000 + (roller none).product fullClose7 0 / 2 ^ 20) (2 ^ 40 - 1))
    ∧ { roller none with wear := 1000 }.wear + (roller none).product fullClose7 0 / 2 ^ 20 < (roller none).warnLevel
    ∧ ({ roller none with held := true }.held = true
      ∧ (2 ^ 24 - 1001) + (roller none).product fullClose7 0 / 2 ^ 20 ≤ 2 ^ 24 - 1
      ∧ 2 ^ 24 - 1 < (2 ^ 24 - 1000) + (roller none).product fullClose7 0 / 2 ^ 20)
    ∧ (beforeFullClose.member 70).map (·.segment) = some (some fullClose7.segment) := by
  and_intros <;> decide +kernel

theorem witness_AccrualEffects_unbound :
    ∀ m, beforeFullClose.member 5 = some m → m.segment ≠ some fullClose7.segment := by
  intro m hm
  have : beforeFullClose.member 5 = none := by decide +kernel
  rw [this] at hm
  cases hm

/-- What R65 asks of a MEMBER_DEFINE. -/
abbrev goodMember (member : Byte) (r : MemberRecord) : Prop :=
  member.toNat ≤ 191 ∧ (r.kind = 1 ∨ r.kind = 2) ∧ (r.segment = 0xFF ∨ r.segment.toNat ≤ 23)
    ∧ 1000 ≤ r.limit.toNat ∧ 500 ≤ r.warn.toNat ∧ r.warn.toNat ≤ 999 ∧ 1 ≤ r.minutes.toNat ∧ r.minutes.toNat ≤ 600

theorem witness_MemberDefineRule :
    (goodMember 191 define30 ∧ (191 : Byte).toNat = (191 : MemberNo).val)
    ∧ (¬ goodMember 192 define30 ∧ ¬ goodMember 30 { define30 with warn := 499 } ∧ ¬ goodMember 30 { define30 with minutes := 601 })
    ∧ (worn.member 71).isSome = true ∧ State.reset.member 191 = none
    ∧ (∃ b : MemberNo, define30.kind = 1 ∧ ∃ m g, (State.reset.setMember 30 (some (belt (some 4)))).member b = some m
        ∧ m.kind = .belt ∧ m.segment = some g ∧ g.val = define30.segment.toNat)
    ∧ ∀ b : MemberNo, ¬ (define30.kind = 1 ∧ ∃ m g, State.reset.member b = some m ∧ m.kind = .belt ∧ m.segment = some g
        ∧ g.val = define30.segment.toNat) := by
  refine ⟨by and_intros <;> decide +kernel, by and_intros <;> decide +kernel, by decide +kernel, noMember_reset _,
    ⟨30, rfl, belt (some 4), 4, by simp, rfl, rfl, rfl⟩, ?_⟩
  rintro b ⟨-, m, g, hm, -⟩
  rw [noMember_reset] at hm
  cases hm

/-- `worn` with its member held. -/
def wornHeld : State := worn.setMember 71 (some { roller (some 7) with held := true, wear := 2399000, deferred := 1441 })

theorem witness_MemberReadAndHold :
    191 < (192 : Byte).toNat ∧ (71 : Byte).toNat = (71 : MemberNo).val ∧ State.reset.member 71 = none
    ∧ worn.member 71 = some { roller (some 7) with wear := 2399000, unsavedWear := 1500 }
    ∧ { roller (some 7) with wear := 2399000, unsavedWear := 1500 }.held = false
    ∧ wornHeld.member 71 = some { roller (some 7) with held := true, wear := 2399000, deferred := 1441 } := by
  refine ⟨by decide, rfl, noMember_reset _, ?_, rfl, ?_⟩ <;> decide +kernel

/-- An adjust of every field, at the bounds of its ranges. -/
def adjustAll : AdjustRecord :=
  { wear := some 0, limit := some 1000, warn := some 999, kLoad := some 255, kSlip := some 0, minutes := some 600
    rate := some 0 }

theorem witness_MemberAdjustAndRelease :
    ((191 : Byte).toNat ≤ 191 ∧ (∀ x, adjustAll.limit = some x → 1000 ≤ x.toNat)
      ∧ (∀ x, adjustAll.warn = some x → 500 ≤ x.toNat ∧ x.toNat ≤ 999)
      ∧ ∀ x, adjustAll.minutes = some x → 1 ≤ x.toNat ∧ x.toNat ≤ 600)
    ∧ (¬ (192 : Byte).toNat ≤ 191 ∧ ¬ 1000 ≤ (999 : BitVec 40).toNat)
    ∧ (State.reset.member 71 = none ∧ (worn.member 71).map (·.held) = some false)
    ∧ (wornHeld.member 71).map (·.held) = some true := by
  refine ⟨⟨by decide, ?_, ?_, ?_⟩, by decide, ⟨noMember_reset _, by decide +kernel⟩, by decide +kernel⟩
  all_goals
    intro x hx
    cases hx
    decide

/-- The clauses of `MemberOk`, and those of `MemberInv` for one member, as a check. -/
def okMember (m : Member) : Bool :=
  decide (m.state = (if m.limit ≤ m.wear then .due else if m.warnLevel ≤ m.wear then .warn else .normal)
    ∧ (m.held = false → m.deferred = 0) ∧ m.warnLevel = m.limit * m.warn / 1000 ∧ (m.fresh = true → m.closingWear = none))
  && decide ((m.wear ≤ 2 ^ 40 - 1 ∧ m.residue < 2 ^ 20) ∧ (1000 ≤ m.limit ∧ m.limit ≤ 2 ^ 40 - 1)
    ∧ (500 ≤ m.warn ∧ m.warn ≤ 999) ∧ (m.kLoad ≤ 255 ∧ m.kSlip ≤ 255) ∧ (1 ≤ m.minutes ∧ m.minutes ≤ 600))
  && decide ((m.rate ≤ 2 ^ 32 - 1 ∧ m.epochWear ≤ 2 ^ 32 - 1) ∧ (∀ x ∈ m.closingWear, x ≤ 2 ^ 32 - 1)
    ∧ (m.deferred ≤ 2 ^ 24 - 1 ∧ m.lostWear ≤ 2 ^ 32 - 1) ∧ (m.reckonedWear ≤ 2 ^ 32 - 1 ∧ m.unsavedWear ≤ 2 ^ 32 - 1)
    ∧ m.serviceCount ≤ 65535)
  && decide (m.installedEpoch ≤ 2 ^ 32 - 1 ∧ ∀ x ∈ m.projection, x ≤ 2 ^ 32 - 1)

theorem okMember_ok {m : Member} (h : okMember m = true) :
    MemberOk m ∧ m.installedEpoch ≤ 2 ^ 32 - 1 ∧ ∀ x, m.projection = some x → x ≤ 2 ^ 32 - 1 := by
  simp only [okMember, Bool.and_eq_true, decide_eq_true_eq] at h
  obtain ⟨⟨⟨⟨a, b, c, d⟩, ⟨e, f⟩, g, i, j, k⟩, ⟨l, m⟩, n, ⟨o, p⟩, ⟨q, r⟩, u⟩, v, w⟩ := h
  exact ⟨⟨a, b, c, d, e, f, g, i, j, k, l, m, n, o, p, q, r, u⟩, v, w⟩

theorem memberInv_of {s : State} (h : EachMember s (fun _ m => okMember m) = true) (he : s.etm.epoch ≤ 2 ^ 32 - 1)
    (b : MemberNo) (hb : EachMember s (fun n m => decide (m.kind = .belt → n = b)) = true) : MemberInv s := by
  refine ⟨fun n m hm => (okMember_ok (eachMember_elim h n m hm)).1, he,
    fun n m hm => (okMember_ok (eachMember_elim h n m hm)).2, fun n n' m m' hm hm' k k' _ _ => ?_⟩
  exact (of_decide_eq_true (eachMember_elim hb n m hm) k).trans (of_decide_eq_true (eachMember_elim hb n' m' hm') k').symm

/-- The clauses of `DefnOk`, as a check. -/
def okDefn (d : SegDef) : Bool :=
  decide (((1 ≤ d.driveCal ∧ d.driveCal ≤ 65535) ∧ 1 ≤ d.idlerCal ∧ d.idlerCal ≤ 65535)
    ∧ (16 ≤ d.windowSize ∧ d.windowSize ≤ 4096) ∧ (1 ≤ d.nominal ∧ d.nominal ≤ 20000 ∧ d.maxDeviation < d.nominal)
    ∧ (d.deadband ≤ 20000 ∧ 1 ≤ d.step ∧ d.step ≤ 255)
    ∧ ((1 ≤ d.acquireAttempts ∧ d.acquireAttempts ≤ 15) ∧ 1 ≤ d.lossLimit ∧ d.lossLimit ≤ 255)
    ∧ (d.slipThreshold ≤ 1000 ∧ 1 ≤ d.slipRunCount ∧ d.slipRunCount ≤ 15)
    ∧ (1 ≤ d.length ∧ d.length ≤ 65535) ∧ d.fallbackLoad ≤ 1023 ∧ d.unannouncedMass ≤ 65535
    ∧ 1 ≤ d.resyncThreshold ∧ d.resyncThreshold ≤ 15)

theorem okDefn_ok {d : SegDef} (h : okDefn d = true) : DefnOk d := by
  obtain ⟨a, b, c, e, f, g, i⟩ := of_decide_eq_true h
  exact ⟨a, b, c, e, f, g, i⟩

/-- The clauses of `RunOk`, as a check. -/
def okRun (defn : Option SegDef) (r : SegRun) : Bool :=
  decide ((20 ≤ r.timeout ∧ r.timeout ≤ 60000) ∧ (r.residue < 1000 ∧ r.slip ≤ 1000 ∧ r.slipRun ≤ 15)
    ∧ (∀ x ∈ [r.fullWindows, r.partialWindows, r.timeouts, r.slipAlarms, r.speedHits, r.pulsesIgnored, r.windowCount,
      r.closingCount], x ≤ 65535) ∧ (r.attemptsLeft ≤ 15 ∧ r.intervals ≤ 255))
  && decide ((∀ d ∈ defn, d.nominal - d.maxDeviation ≤ r.speed ∧ r.speed ≤ min (d.nominal + d.maxDeviation) 20000)
    ∧ (∀ w ∈ r.window, r.supervision ∈ [.acquire, .track, .idlerLost, .driveLost] ∧ w.idler ≤ 65535
      ∧ ∀ d ∈ defn, w.drive < d.windowSize)
    ∧ (defn = none → r.supervision = .off ∧ r.window = none ∧ r.speed = 0 ∧ r.timeout = 60000))

theorem okRun_ok {defn : Option SegDef} {r : SegRun} (h : okRun defn r = true) : RunOk defn r := by
  simp only [okRun, Bool.and_eq_true, decide_eq_true_eq] at h
  obtain ⟨⟨a, b, c, d⟩, e, f, g⟩ := h
  exact ⟨a, b, c, d, e, f, g⟩

/-- `SegmentInv`, as a check. -/
def okSegments (s : State) : Bool :=
  allSegments.all fun g => (s.defn g).all okDefn && okRun (s.defn g) (s.run g)
    && decide (s.rqd.mode = .setup → (s.run g).supervision = .off)
    && decide (s.rqd.mode = .counting → (s.defn g).isSome = true → (s.run g).supervision ≠ .off)

theorem okSegments_ok {s : State} (h : okSegments s = true) : SegmentInv s := by
  have k := fun g => List.all_eq_true.mp h g (List.mem_finRange g)
  simp only [Bool.and_eq_true, decide_eq_true_eq] at k
  refine ⟨fun g d hd => okDefn_ok ?_, fun g => okRun_ok (k g).1.1.2, fun hm g => (k g).1.2 hm, fun hm g => (k g).2 hm⟩
  have := (k g).1.1.1
  rwa [hd] at this

theorem tick_steps (s : State) : ∃ t, step { s with pending := [.tick] } = .next t := ⟨_, rfl⟩

/-- 6.9 before event 7, a tick waiting. -/
def lifecycleTick : State := { lifecycle with pending := [.tick] }

theorem lifecycle_members : MemberInv lifecycleTick :=
  memberInv_of (by decide +kernel) (by decide +kernel) 30 (by decide +kernel)

/-- The plant with a window open at segment 7, one drive pulse short of its full close, that pulse waiting. -/
def lastPulse : State := { opened 7 .track 399 820 with pending := [.acceptedTransition 0] }

theorem witness_SegmentsAndMembersKept :
    MemberInv lifecycleTick ∧ (∃ t, step lifecycleTick = .next t)
    ∧ SegmentInv lastPulse
    ∧ (match step lastPulse with
        | .next t => decide ((t.run 7).fullWindows = 1)
        | .fault _ | .refused _ => false) = true :=
  ⟨lifecycle_members, tick_steps lifecycle, okSegments_ok (by decide +kernel), by decide +kernel⟩

theorem lifecycle_orders :
    OrderAt lifecycle 30 0 { placed (order 30 10048 90) 21 with reason := .warn, state := .released }
    ∧ OrderAt lifecycle 31 1 { order 31 10030 25 with reason := .host, state := .inWork, created := 10000 }
    ∧ NoOrder lifecycle 32 := by
  refine ⟨orderAt_of ?_ rfl ?_, orderAt_of ?_ rfl ?_, noOrder_of ?_⟩ <;> decide +kernel

theorem witness_MemberRetireRule :
    191 < (192 : Byte).toNat ∧ (30 : Byte).toNat = (30 : MemberNo).val ∧ State.reset.member 30 = none
    ∧ (lifecycle.member 30).isSome = true
    ∧ OrderAt lifecycle 30 0 { placed (order 30 10048 90) 21 with reason := .warn, state := .released }
    ∧ NoOrder worn 71 ∧ (worn.member 71).isSome = true := by
  refine ⟨by decide, rfl, noMember_reset _, by decide +kernel, lifecycle_orders.1, noOrder_of ?_, ?_⟩ <;> decide +kernel

theorem witness_ServiceDoneRules :
    (191 < (192 : Byte).toNat ∧ (some (1000 : BitVec 40)).isSome = true ∧ (999 : BitVec 40).toNat < 1000)
    ∧ (∀ x, some (1000 : BitVec 40) = some x → 1000 ≤ x.toNat)
    ∧ (State.reset.member 71 = none ∧ (wornHeld.member 71).map (·.held) = some true)
    ∧ ((worn.member 71).map (fun m => (m.held, m.wear)) = some (false, 2399000) ∧ (2399000 : BitVec 40).toNat ≤ 2399000)
    ∧ (1000 ≤ (2399001 : BitVec 40).toNat ∧ 2399000 < (2399001 : BitVec 40).toNat)
    ∧ NoOrder worn 71
    ∧ OrderAt lifecycle 31 1 { order 31 10030 25 with reason := .host, state := .inWork, created := 10000 }
    ∧ ((walkAt30 1).member 30).map (·.held) = some false
    ∧ (walkAt30 1).arbiter.walkVisits = 1 ∧ (walkAt30 1).spl.planner.stage = .walk 30 := by
  refine ⟨by decide, ?_, ⟨noMember_reset _, by decide +kernel⟩, ⟨by decide +kernel, by decide⟩, by decide,
    noOrder_of (by decide +kernel), lifecycle_orders.2.1, by decide +kernel, by decide +kernel, by decide +kernel⟩
  intro x hx
  cases hx
  decide

/-! #### Epochs, boundaries and modes -/

theorem witness_BoundariesFallDue :
    ((atTick 899999 State.reset).etm.settings.source = .localClock
      ∧ ((atTick 899999 State.reset).etm.tick - (atTick 899999 State.reset).etm.boundaryTick).toNat < 15 * 60000)
    ∧ 15 * 60000 ≤ ((atTick 900000 State.reset).etm.tick - (atTick 900000 State.reset).etm.boundaryTick).toNat
    ∧ ((marked 4202 51799900 52709900).etm.settings.source = .marked
      ∧ 15 * 60000 + 10 * 1000 ≤ ((marked 4202 51799900 52709900).etm.tick - (marked 4202 51799900 52709900).etm.boundaryTick).toNat)
    ∧ State.reset.rqd.pendingSetup = false := by and_intros <;> decide +kernel

theorem witness_MarksCauseBoundaries :
    State.reset.etm.settings.source = .localClock
    ∧ ((marked 4201 0 449999).etm.tick - (marked 4201 0 449999).etm.boundaryTick).toNat < 15 * 30000
    ∧ (marked 4201 0 450000).etm.settings.source = .marked
    ∧ 15 * 30000 ≤ ((marked 4201 0 450000).etm.tick - (marked 4201 0 450000).etm.boundaryTick).toNat
    ∧ (marked 4201 0 450000).rqd.pendingSetup = false := by and_intros <;> decide +kernel

/-- EPOCH_SET at the bounds of its ranges. -/
def settings240 : EpochRecord := { length := 240, shift := 7, minWindows := 255, checkpoint := 0, source := 1, grace := 60 }

theorem witness_EpochSetRule :
    (1 ≤ settings240.length.toNat ∧ settings240.length.toNat ≤ 240 ∧ settings240.shift.toNat ≤ 7
      ∧ settings240.source.toNat ≤ 1 ∧ 1 ≤ settings240.grace.toNat ∧ settings240.grace.toNat ≤ 60)
    ∧ ¬ (241 : Byte).toNat ≤ 240
    ∧ plant.rqd.mode = .counting
    ∧ (State.reset.rqd.mode = .setup ∧ State.reset.rqd.pendingSettings = none ∧ State.reset.rqd.pendingSetup = false)
    ∧ (State.reset.etm.tick - State.reset.etm.boundaryTick).toNat < 240 * 60000 + 60 * 1000
    ∧ 240 * 60000 + 60 * 1000 ≤ ((atTick 14460000 State.reset).etm.tick - (atTick 14460000 State.reset).etm.boundaryTick).toNat := by
  and_intros <;> decide +kernel

/-- The plant at its boundary with the change to SETUP pending: a window open at 6, 7 lost, 8 failed, 11 stopped. -/
def enteringSetup : State :=
  let s := atTick 900000 { plant with rqd := { plant.rqd with pendingSetup := true } }
  let s := s.setRun 6 { runIn .track with window := some { openTick := 0, drive := 1, idler := 0 } }
  let s := (s.setRun 7 (runIn .driveLost)).setRun 8 (runIn .failed)
  let s := s.setSegment 8 { defn := some { seg8 with runLine := some 2 }, run := runIn .failed }
  let s := s.setRun 11 { runIn .stopped with timingRef := 77 }
  (atLevel 2 .active s).setMember 71 (some (roller (some 7))) |>.setMember 72 (some (roller none))
    |>.setMember 73 (some (roller (some 6)))

/-- R8: the entry to SETUP leaves the timing reference of a STOPPED segment as it stands. -/
theorem test_setup_entry_keeps_timing :
    see .localBoundary enteringSetup (fun t => ((t.run 11).supervision, (t.run 11).timingRef)) = some (.off, 77) := by
  decide +kernel

/-- The same under marks, at the grace deadline, and a setting whose deadline has passed. -/
def enteringMarked : State :=
  atTick 910000 { enteringSetup with etm := { enteringSetup.etm with
    settings := { enteringSetup.etm.settings with source := .marked } } }
def settings1 : EpochRecord := { length := 1, shift := 3, minWindows := 4, checkpoint := 0, source := 1, grace := 10 }

theorem witness_SetupEntryClosesAccounts_marked :
    (enteringMarked.rqd.pendingSetup = true ∧ enteringMarked.etm.settings.source = .marked
      ∧ enteringMarked.etm.settings.length * 60000 + enteringMarked.etm.settings.grace * 1000
        ≤ (enteringMarked.etm.tick - enteringMarked.etm.boundaryTick).toNat)
    ∧ enteringMarked.etm.settings.length * 30000 ≤ (enteringMarked.etm.tick - enteringMarked.etm.boundaryTick).toNat
    ∧ ((checkEpoch settings1).map (·.length) = some 1
      ∧ ({ enteringSetup with rqd := { enteringSetup.rqd with mode := .setup } } : State).rqd.mode = .setup
      ∧ 1 * 60000 + 10 * 1000 ≤ (enteringSetup.etm.tick - enteringSetup.etm.boundaryTick).toNat) := by
  and_intros <;> decide +kernel

theorem witness_SetupEntryClosesAccounts :
    (enteringSetup.rqd.pendingSetup = true ∧ enteringSetup.etm.settings.source = .localClock
      ∧ enteringSetup.etm.settings.length * 60000 ≤ (enteringSetup.etm.tick - enteringSetup.etm.boundaryTick).toNat)
    ∧ (enteringSetup.defn 6 = some seg6 ∧ (enteringSetup.run 6).supervision ∈ [.acquire, .track, .idlerLost, .driveLost]
      ∧ PartialAt enteringSetup 6 { openTick := 0, drive := 1, idler := 0 } ∧ enteringSetup.member 73 = some (roller (some 6))
      ∧ (roller (some 6)).fresh = false)
    ∧ (enteringSetup.defn 7 = some seg7 ∧ EmptyAt enteringSetup 7 ∧ (enteringSetup.run 7).supervision = .driveLost
      ∧ enteringSetup.member 71 = some (roller (some 7)))
    ∧ ((enteringSetup.run 8).supervision = .failed ∧ RunsNow enteringSetup { seg8 with runLine := some 2 }
      ∧ EmptyAt enteringSetup 8)
    ∧ ((enteringSetup.run 11).supervision = .stopped ∧ EmptyAt enteringSetup 11)
    ∧ enteringSetup.member 72 = some (roller none) := by
  refine ⟨?_, ⟨?_, ?_, ⟨?_, ?_⟩, ?_⟩, ⟨?_, emptyAt_of ?_, ?_⟩, ⟨?_, ⟨2, rfl, ?_⟩, emptyAt_of ?_⟩, ⟨?_, emptyAt_of ?_⟩, ?_⟩ <;>
    and_intros <;> decide +kernel

/-- `TestFails` as a check. -/
def failsTest (s : State) (g : SegNo) (d : SegDef) : Nat → Bool
  | 1 => (s.line d.driveLine).role ≠ .pulse
  | 2 => d.idlerLine.any fun l => (s.line l).role ≠ .pulse
  | 3 => d.entryGate.any fun l => (s.line l).role ≠ .gate
  | 4 => d.exitGate.any fun l => (s.line l).role ≠ .gate
  | 5 => d.runLine.any fun l => (s.line l).role ≠ .run
  | 6 => d.entryGate.any fun l => allSegments.any fun h => decide (h < g) && (s.defn h).any fun e => e.entryGate = some l
  | 7 => d.exitGate.any fun l => allSegments.any fun h => decide (h < g) && (s.defn h).any fun e => e.exitGate = some l
  | 8 => d.straight.any fun h => (s.defn h).isNone
  | 9 => d.divert.any fun h => (s.defn h).isNone
  | _ => false

theorem failsTest_iff (s : State) (g : SegNo) (d : SegDef) (c : Nat) : TestFails s g d c ↔ failsTest s g d c = true := by
  unfold TestFails failsTest
  split <;> simp [Option.any_eq_true, allSegments]

theorem passes_of {s : State} {g : SegNo} {d : SegDef} {n : Nat}
    (h : (List.range n).all (fun c => !failsTest s g d c) = true) (c : Nat) (hc : c < n) : ¬ TestFails s g d c := by
  have := List.all_eq_true.mp h c (List.mem_range.2 hc)
  rw [failsTest_iff]
  simpa using this

theorem noTest (s : State) (g : SegNo) (d : SegDef) (c : Nat) (hc : 10 ≤ c) : ¬ TestFails s g d c := by
  obtain ⟨k, rfl⟩ := Nat.exists_eq_add_of_le' hc
  exact fun h => h

/-- The plant in SETUP. -/
def configured : State := { plant with rqd := State.reset.rqd }

/-- `configured` with another definition of segment 7. -/
def defined7 (d : SegDef) : State := configured.setSegment 7 { defn := some d, run := SegRun.reset }

/-- For each reason code, a definition of segment 7 that fails that test first. -/
def failing : Nat → SegDef
  | 1 => { seg7 with driveLine := 13 }
  | 2 => { seg7 with idlerLine := some 13 }
  | 3 => { seg7 with entryGate := some 0 }
  | 4 => { seg7 with exitGate := some 0 }
  | 5 => { seg7 with runLine := some 0 }
  | 6 => { seg7 with entryGate := some 13 }
  | 7 => { seg7 with exitGate := some 14, entryGate := some 15 }
  | 8 => { seg7 with straight := some 9 }
  | _ => { seg7 with divert := some 9 }

theorem witness_ModeRules :
    (State.reset.rqd.mode = .setup ∧ plant.rqd.mode = .counting)
    ∧ (EachDefn configured fun g d => (List.range 10).all fun c => !failsTest configured g d c) = true
    ∧ configured.rqd.mode = .setup := by and_intros <;> decide +kernel

theorem witness_ModeRules_tests (code : Nat) (h1 : 1 ≤ code) (h9 : code ≤ 9) :
    (defined7 (failing code)).defn 7 = some (failing code) ∧ TestFails (defined7 (failing code)) 7 (failing code) code
    ∧ (∀ c, c < code → ¬ TestFails (defined7 (failing code)) 7 (failing code) c)
    ∧ ∀ h e c, h < 7 → (defined7 (failing code)).defn h = some e → ¬ TestFails (defined7 (failing code)) h e c := by
  have k : ∀ n : Fin 10, 1 ≤ n.val → failsTest (defined7 (failing n)) 7 (failing n) n = true
      ∧ (List.range n.val).all (fun c => !failsTest (defined7 (failing n)) 7 (failing n) c) = true
      ∧ (EachDefn (defined7 (failing n)) fun h e =>
          !decide (h < 7) || (List.range 10).all fun c => !failsTest (defined7 (failing n)) h e c) = true := by
    decide +kernel
  have e := k ⟨code, by omega⟩ h1
  refine ⟨State.defn_setSegment_self _ _ _, (failsTest_iff _ _ _ _).2 e.1, passes_of e.2.1, fun h d c hlt hd => ?_⟩
  have p := eachDefn_elim e.2.2 h d hd
  rw [decide_eq_true hlt, Bool.not_true, Bool.false_or] at p
  by_cases hc : c < 10
  · exact passes_of p c hc
  · exact noTest _ _ _ _ (by omega)

/-- Epoch 5, a broadcast RESTART ALL received but for its last character. -/
def completing : State :=
  { inEpoch 5 plant with lnk := { plant.lnk with
      receiver := .receiving, buffer := [0, 2, 4, 3, (crc16 [2, 4, 3]).extractLsb' 8 8] } }
def lastCharacter : Byte := (crc16 [2, 4, 3]).extractLsb' 0 8

/-- R174: the character that completes it takes the reset, and the epoch number becomes 0. -/
theorem test_restart_on_hand_over :
    see (.characterReceived .heard ⟨lastCharacter, false⟩ true) completing (fun t => (t.etm.epoch, t.rqd.mode)) = some (0, .setup) := by
  decide +kernel

theorem witness_EpochNeverFalls :
    (∃ t, exec .tick State.reset = .next t) ∧ State.reset.etm.epoch ≤ 2 ^ 32 - 1
    ∧ (∃ t, exec (.characterReceived .heard ⟨lastCharacter, false⟩ true) completing = .next t)
    ∧ completing.etm.epoch ≤ 2 ^ 32 - 1 := by
  refine ⟨⟨_, rfl⟩, by decide +kernel, ⟨_, rfl⟩, by decide +kernel⟩

/-! #### The rate pass -/

theorem witness_RateUpdate :
    (((3993 : Nat) : Int) - (4000 : Nat)).natAbs < 2 ^ 3
    ∧ ∃ t, exec .ratePassVisit inPass = .next t ∧ ((t.member 30).isSome && (inPass.member 30).isSome) = true := by
  refine ⟨by decide, exists_of_after (i := .ratePassVisit) (s := inPass)
    (P := fun t => (t.member 30).isSome && (inPass.member 30).isSome) (by decide +kernel)⟩

/-- `inPass` at m30, its rate to be held: by the hold, the segment, the closing wear, or the closes. -/
def holding (m : Member) (closes : Nat) : State :=
  (inPass.setMember 30 (some m)).setRun 4 { runIn .stopped with closingCount := closes }

theorem witness_RatePassProceeds :
    State.reset.wau.pass = none
    ∧ (passDone.wau.pass = some { next := 33, shift := 3, minWindows := 4 }
      ∧ (EachMember passDone fun n m => decide (33 ≤ n.val → m.segment.isSome = false)) = true)
    ∧ (inPass.wau.pass = some { next := 0, shift := 3, minWindows := 4 } ∧ (inPass.member 30).map (·.segment) = some (some 4)
      ∧ (EachMember inPass fun n m => decide (m.segment.isSome = true → (30 : MemberNo) ≤ n)) = true)
    ∧ ((holding { belt (some 4) with held := true } 9).member 30).map (·.held) = some true
    ∧ inPass.defn 5 = none ∧ (belt (some 4)).closingWear = none
    ∧ ((holding (belt (some 4)) 3).run 4).closingCount < 4
    ∧ ((inPass.member 30).map (fun m => (m.held, m.closingWear)) = some (false, some 60000) ∧ 4 ≤ (inPass.run 4).closingCount) := by
  refine ⟨?_, ?_, ?_, ?_, ?_, ?_, ?_, ?_⟩ <;> and_intros <;> decide +kernel

/-! #### Orders -/

/-- A pool of 48 orders. -/
def fullPool : State := allSlots.foldl (fun s k => s.setSlot k (some (order ⟨k.val, by omega⟩ 9 9))) lifecycle

theorem plan85_orders :
    OrderAt plan85 20 0 { placed (order 20 1050 90) 13 with reason := .warn, late := true }
    ∧ OrderAt plan85 21 1 { order 21 1060 20 with reason := .host } ∧ OrderAt plan85 43 2 (placed (order 43 1600 40) 12)
    ∧ NoOrder plan85 40 := by
  refine ⟨orderAt_of ?_ rfl ?_, orderAt_of ?_ rfl ?_, orderAt_of ?_ rfl ?_, noOrder_of ?_⟩ <;> decide +kernel

theorem witness_OrderRequests :
    191 < (192 : Byte).toNat ∧ (atStage .sort plan85).spl.planner.stage ≠ .idle
    ∧ (plan85.spl.planner.stage = .idle ∧ plan85.member 30 = none)
    ∧ ((plan85.member 20).isSome = true ∧ OrderAt plan85 20 0 { placed (order 20 1050 90) 13 with reason := .warn, late := true })
    ∧ (NoOrder plan85 40 ∧ (plan85.member 40).isSome = true ∧ plan85.slot 4 = none ∧ ∀ j, j < 4 → (plan85.slot j).isSome = true)
    ∧ ((fullPool.setMember 71 (some (roller none))).spl.planner.stage = .idle ∧ NoOrder fullPool 71
      ∧ ∀ k, (fullPool.slot k).isSome = true)
    ∧ OrderAt lifecycle 31 1 { order 31 10030 25 with reason := .host, state := .inWork, created := 10000 }
    ∧ OrderAt lifecycle 30 0 { placed (order 30 10048 90) 21 with reason := .warn, state := .released } := by
  refine ⟨by decide, by decide +kernel, by decide +kernel, ⟨by decide +kernel, plan85_orders.1⟩,
    ⟨plan85_orders.2.2.2, by decide +kernel, by decide +kernel, by decide +kernel⟩,
    ⟨by decide +kernel, noOrder_of (by decide +kernel), by decide +kernel⟩, lifecycle_orders.2.1, lifecycle_orders.1⟩

theorem witness_ReadsChangeNothing :
    191 < (192 : Byte).toNat ∧ NoOrder plan85 40 ∧ OrderAt plan85 43 2 (placed (order 43 1600 40) 12)
    ∧ (5 < (6 : Byte).toNat ∧ (5 : Byte).toNat ≤ 5 ∧ (47 : SlotNo).val = 8 * (5 : Byte).toNat + (7 : Fin 8).val)
    ∧ (plan85.slot 47 = none ∧ (plan85.slot 0).isSome = true) ∧ ∀ k : ReqKind, k.code ≠ 0x07 :=
  ⟨by decide, plan85_orders.2.2.2, plan85_orders.2.2.1, by decide, by decide +kernel,
    witness_WaitingFramesAreServed_unknown⟩

/-! #### Windows and the pattern -/

/-- Eight windows. -/
def fullList : State := State.reset.setWindows ((List.range 8).map fun j => window (j + 1) (9 + j) 1 1 0 1)

theorem witness_WindowRequests :
    ((255 : Nat) ≤ 255 ∧ fullList.spl.windows.length ≤ 8)
    ∧ ((0 : BitVec 32).toNat ≤ State.reset.etm.epoch ∧ ¬ (1 : BitVec 32).toNat ≤ State.reset.etm.epoch ∧ (1 : Byte) ≠ 0
      ∧ (1 : BitVec 16) ≠ 0 ∧ (1 : BitVec 24) ≠ 0)
    ∧ ((atStage .sort plan85).spl.planner.stage ≠ .idle ∧ fullList.spl.planner.stage = .idle)
    ∧ (8 ≤ fullList.spl.windows.length ∧ State.reset.spl.windows.length < 8)
    ∧ ((∀ w ∈ plan85.spl.windows, w.tag ≠ (255 : Byte).toNat)
      ∧ window 11 1010 4 150 0 0x28 ∈ plan85.spl.windows ∧ (window 11 1010 4 150 0 0x28).tag = (11 : Byte).toNat
      ∧ (∀ x ∈ plan85.spl.windows, x.tag = 11 → x = window 11 1010 4 150 0 0x28)
      ∧ (window 11 1010 4 150 0 0x28).state = .opened)
    ∧ ({ window 21 10020 4 120 90 0x10 with state := .active } ∈ lifecycle.spl.windows
      ∧ ∀ x ∈ lifecycle.spl.windows, x.tag = 21 → x = { window 21 10020 4 120 90 0x10 with state := .active }) := by
  and_intros <;> decide +kernel

/-- 8.5 at epoch 1010: window 11 starts exactly then, and window 10, which two RELEASED orders name, ends exactly then. -/
def exactly : State :=
  let s := inEpoch 1010 (plan85.setWindows ({ window 10 1006 4 90 50 0x28 with state := .active } :: plan85.spl.windows))
  let s := s.setSlot 0 (some { placed (order 20 1050 90) 11 with reason := .warn })
  let s := s.setSlot 5 (some { placed (order 40 1080 30) 10 with state := .released })
  s.setSlot 4 (some { placed (order 41 1000 20) 10 with state := .released, missed := 15 })

theorem witness_WindowsActivateAndEnd :
    WindowInv plan85 ∧ WindowInv fullList ∧ WindowInv exactly
    ∧ exactly.spl.windows.map (fun w => (w.state, decide (w.start = exactly.etm.epoch),
        decide (w.start + w.length = exactly.etm.epoch)))
      = [(.active, false, true), (.opened, true, false), (.opened, false, false), (.opened, false, false)]
    ∧ (exactly.slot 0).map (fun o => (o.state, o.tag)) = some (.scheduled, some 11)
    ∧ (exactly.slot 4).map (fun o => (o.state, o.tag)) = some (.released, some 10)
    ∧ (exactly.slot 5).map (fun o => (o.state, o.tag)) = some (.released, some 10) := by
  unfold WindowInv
  and_intros <;> decide +kernel

/-- R130: the notices of a window's orders come in ascending slot order, behind those of the windows activated. -/
theorem test_window_ends_exactly :
    (exactly.tendWindows.nq.queue.map fun n => (n.kind, n.subject, n.value))
    = [(.windowReleased, 11, 1), (.orderMissed, 41, 10 * 65536 + 15), (.orderMissed, 40, 10 * 65536 + 1)] := by decide +kernel

theorem witness_PatternRequests :
    (1 ≤ (16 : Byte).toNat ∧ (16 : Byte).toNat ≤ 16 ∧ (List.replicate 16 (⟨1, 1, 1, 1⟩ : TemplateRecord)).length = (16 : Byte).toNat
      ∧ ∀ x ∈ List.replicate 16 (⟨1, 1, 1, 1⟩ : TemplateRecord), x.offset ≠ 0 ∧ x.length ≠ 0 ∧ x.capacity ≠ 0 ∧ x.mask ≠ 0)
    ∧ ¬ (1 ≤ (0 : Byte).toNat)
    ∧ ((atStage .sort plan85).spl.planner.stage ≠ .idle ∧ State.reset.spl.planner.stage = .idle)
    ∧ 1 < (2 : Byte).toNat
    ∧ (State.reset.spl.generator.templates = [] ∧ (generating 2000 0 0 40 .idle []).spl.generator.templates ≠ []) := by
  and_intros <;> decide +kernel

/-- A generation attempt that may make a step, with a template at the index. -/
abbrev mayStep (s : State) (y : Template) : Prop :=
  (s.spl.generator.state = .running
    ∧ (s.spl.windows.filter fun w => w.state = .opened).length < s.spl.planner.fillLevel ∧ s.spl.windows.length < 8)
  ∧ s.spl.generator.templates[s.spl.generator.index]? = some y

theorem witness_GenerationAttempt :
    ¬ mayStep State.reset { offset := 12, length := 2, capacity := 120, mask := 0x28 }
    ∧ (mayStep (generating 2000 0 1990 40 .running []) { offset := 12, length := 2, capacity := 120, mask := 0x28 }
      ∧ (generating 2000 0 1990 40 .running []).etm.epoch < min (1990 + 12) (2 ^ 32 - 1))
    ∧ (mayStep (generating 2061 1 2050 44 .running []) { offset := 8, length := 3, capacity := 90, mask := 0x8 }
      ∧ min (2050 + 8) (2 ^ 32 - 1) ≤ (generating 2061 1 2050 44 .running []).etm.epoch ∧ 2050 + 8 ≤ 2 ^ 32 - 1
      ∧ (∀ z ∈ (generating 2061 1 2050 44 .running []).spl.generator.templates, 1 ≤ z.offset)
      ∧ (generating 2061 1 2050 44 .running []).etm.epoch ≤ 2 ^ 32 - 1)
    ∧ (mayStep (generating (2 ^ 32 - 1) 1 (2 ^ 32 - 8) 44 .running []) { offset := 8, length := 3, capacity := 90, mask := 0x8 }
      ∧ (generating (2 ^ 32 - 1) 1 (2 ^ 32 - 8) 44 .running []).etm.epoch = 2 ^ 32 - 1 ∧ 2 ^ 32 - 1 < (2 ^ 32 - 8) + 8) := by
  and_intros <;> decide +kernel

/-- The last template, rotation off: a skip that stops the generator. -/
theorem witness_GenerationAttempt_stops :
    mayStep (generating 2090 2 2058 44 .running []) { offset := 28, length := 4, capacity := 240, mask := 0xFFFFFF }
    ∧ 2 + 1 = (generating 2090 2 2058 44 .running []).spl.generator.templates.length
    ∧ min (2058 + 28) (2 ^ 32 - 1) ≤ (generating 2090 2 2058 44 .running []).etm.epoch := by and_intros <;> decide +kernel

/-! #### The planning run -/

theorem witness_PlanSetAndRun :
    (1 < (2 : Byte).toNat ∧ 8 < (9 : Byte).toNat)
    ∧ ¬ (1 < (1 : Byte).toNat ∨ (1 : BitVec 16) = 0 ∨ (8 : Byte) = 0 ∨ 8 < (8 : Byte).toNat)
    ∧ ((atStage .sort plan85).spl.planner.stage ≠ .idle ∧ plan85.spl.planner.stage = .idle) := by
  and_intros <;> decide +kernel

/-- 8.5 after its sort and `n` placements: these used minutes, these places of the orders. -/
def placing (n : Nat) (used : Nat × Nat × Nat) (o20 o21 o22 o40 o41 : Order → Order) : State :=
  let s := (inEpoch 1000 plan85).setWindows
    [window 11 1010 4 150 used.1 0x28, window 12 1040 4 90 used.2.1 0x8, window 13 1070 6 240 used.2.2 0xFFFFFF]
  let s := s.setPlanner { s.spl.planner with
    stage := .placement n, runHorizon := 672, runGangHorizon := 80, sortList := [41, 22, 20, 21, 40] }
  let s := (s.setSlot 0 (some (o20 { order 20 1050 90 with reason := .warn }))).setSlot 2 none
  let s := (s.setSlot 1 (some (o21 { order 21 1060 20 with reason := .host }))).setSlot 3 (some (o22 (order 22 1045 20)))
  (s.setSlot 4 (some (o40 { order 40 1080 30 with created := 1000 }))).setSlot 5
    (some (o41 { order 41 1000 100 with reason := .limit, created := 1000 }))

/-- Before the first placement, after it, and after the last. -/
def placing0 : State := placing 0 (0, 0, 0) id id id id id
def placing1 : State := placing 1 (100, 0, 0) id id id id fun o => { placed o 11 with late := true }
def placing5 : State := placing 5 (100, 40, 120) (fun o => { placed o 13 with late := true }) (placed · 12) (placed · 12)
  (placed · 13) fun o => { placed o 11 with late := true }

/-- `plan85` at a stage, with this sort list and gang horizon. -/
def sortedBy (st : Stage) (list : List MemberNo) (gang : Nat) : State :=
  atStage st (plan85.setPlanner { plan85.spl.planner with sortList := list, runGangHorizon := gang })

theorem witness_RunsAreReported :
    (∀ i, plan85.spl.planner.stage ≠ .walk i ∧ plan85.spl.planner.stage ≠ .takeBack i
        ∧ plan85.spl.planner.stage ≠ .copyMinutes i) ∧ plan85.spl.planner.stage ≠ .sort
    ∧ (∀ i j g tag, plan85.spl.planner.stage ≠ .placement i ∧ plan85.spl.planner.stage ≠ .ganging i
        ∧ plan85.spl.planner.stage ≠ .gangRollers j g tag i)
    ∧ ((sortedBy (.placement 1) [41] 80).spl.planner.stage = .placement 1
      ∧ (sortedBy (.placement 1) [41] 80).spl.planner.sortList.length ≤ 1
      ∧ 0 < (sortedBy (.placement 0) [41] 80).spl.planner.sortList.length)
    ∧ ((atStage (.walk 20) plan85).spl.planner.stage = .walk 20 ∧ (plan85.member 20).map (·.held) = some false)
    ∧ (sortedBy (.placement 1) [41] 0).spl.planner.runGangHorizon = 0
    ∧ (plan85.member 41).map (·.kind) = some .belt ∧ (plan85.member 40).map (·.kind) = some .roller
    ∧ (sortedBy (.ganging 1) [41] 80).spl.planner.stage = .ganging 1
    ∧ (sortedBy (.ganging 1) [41] 80).spl.planner.sortList[1]? = none
    ∧ (sortedBy (.gangRollers 0 5 11 41) [41] 80).spl.planner.stage = .gangRollers 0 5 11 41
    ∧ (EachMember plan85 fun n m => decide (41 ≤ n.val → ¬ (m.kind = .roller ∧ m.segment = some 5))) = true := by
  have h : plan85.spl.planner.stage = .idle := by decide +kernel
  refine ⟨fun i => by rw [h]; simp, by rw [h]; decide, fun i j g tag => by rw [h]; simp, ?_, ?_, ?_, ?_, ?_, ?_, ?_, ?_, ?_⟩ <;>
    and_intros <;> decide +kernel

/-- The walk of 8.5 at record `i`, under a run horizon of 672. -/
def walking (i : Nat) : State :=
  atStage (.walk i) (plan85.setPlanner { plan85.spl.planner with runHorizon := 672 })

theorem witness_WalkTendsOrders :
    ((walking 44).spl.planner.stage = .walk 44 ∧ (EachMember (walking 44) fun n m => decide (44 ≤ n.val → m.held = true)) = true)
    ∧ ((EachMember (walking 23) fun n m => decide (23 ≤ n.val → m.held = false → (40 : MemberNo) ≤ n)) = true
      ∧ ((walking 23).member 40).map (fun m => (m.wear, m.projection)) = some (0, some 1080) ∧ 1080 ≤ 1000 + 672
      ∧ (walking 23).slot 4 = none ∧ ∀ j, j < 4 → ((walking 23).slot j).isSome = true)
    ∧ (((walking 41).member 41).map (fun m => decide (m.limit ≤ m.wear)) = some true
      ∧ ((walking 20).member 20).map (fun m => decide (m.wear < m.limit ∧ m.warnLevel ≤ m.wear)) = some true)
    ∧ (((walking 43).member 43).map (·.projection) = some (some 1900) ∧ ¬ 1900 ≤ 1000 + 672)
    ∧ ∀ k, ((fullPool.setMember 71 (some (roller none))).slot k).isSome = true := by
  refine ⟨?_, ?_, ?_, ?_, ?_⟩ <;> and_intros <;> decide +kernel

theorem witness_WalkTendsOrders_orders :
    NoOrder (walking 23) 40 ∧ OrderAt (walking 20) 20 0 { placed (order 20 1050 90) 13 with reason := .warn, late := true }
    ∧ OrderAt (walking 21) 21 1 { order 21 1060 20 with reason := .host }
    ∧ OrderAt (walking 43) 43 2 (placed (order 43 1600 40) 12)
    ∧ OrderAt lifecycle 30 0 { placed (order 30 10048 90) 21 with reason := .warn, state := .released } := by
  refine ⟨noOrder_of ?_, orderAt_of ?_ rfl ?_, orderAt_of ?_ rfl ?_, orderAt_of ?_ rfl ?_, lifecycle_orders.1⟩ <;> decide +kernel

theorem witness_ResetAndSort :
    (walking 44).spl.planner.stage = .walk 44
    ∧ (EachMember (walking 44) fun n m => decide (44 ≤ n.val → m.held = true)) = true
    ∧ (atStage .sort plan85).spl.planner.stage = .sort
    ∧ ((atStage (.takeBack 1) plan85).spl.planner.stage = .takeBack 1 ∧ (plan85.slot 2).map (·.state) = some .scheduled
      ∧ (EachOrder plan85 fun j q => decide (1 ≤ j.val → q.state = .scheduled → 2 ≤ j)) = true)
    ∧ (EachOrder plan85 fun j q => decide (4 ≤ j.val → q.state ≠ .scheduled)) = true
    ∧ ((atStage (.copyMinutes 0) plan85).spl.planner.stage = .copyMinutes 0 ∧ (plan85.slot 1).map (·.state) = some .proposed
      ∧ (EachOrder plan85 fun j q => decide (q.state = .proposed → 1 ≤ j)) = true)
    ∧ (EachOrder plan85 fun j q => decide (2 ≤ j.val → q.state ≠ .proposed)) = true := by
  and_intros <;> decide +kernel

theorem witness_OrdersArePlaced :
    (placing0.spl.planner.stage = .placement 0 ∧ placing0.spl.planner.sortList[0]? = some 41
      ∧ placing0.spl.windows = [] ++ window 11 1010 4 150 0 0x28 :: [window 12 1040 4 90 0 0x8, window 13 1070 6 240 0 0xFFFFFF]
      ∧ (placing0.member 41).map (·.segment) = some (some 5))
    ∧ (∀ x ∈ placing0.spl.windows, (x.state = .opened ∧ x.mask.getLsbD 5 = true ∧ 100 ≤ x.capacity - x.used) → 1000 < x.start)
    ∧ (placing1.spl.planner.stage = .placement 1 ∧ placing1.spl.planner.sortList[1]? = some 22
      ∧ placing1.spl.windows = [window 11 1010 4 150 100 0x28] ++ window 12 1040 4 90 0 0x8 :: [window 13 1070 6 240 0 0xFFFFFF]
      ∧ (1040 ≤ 1045 ∧ ¬ 1070 ≤ 1045)) := by
  and_intros <;> decide +kernel

theorem witness_OrdersArePlaced_orders :
    (∃ o, OrderAt placing0 41 5 o ∧ o.state = .proposed) ∧ (∃ o, OrderAt placing1 22 3 o ∧ o.state = .proposed)
    ∧ (sortedBy (.placement 0) [43] 0).spl.planner.sortList[0]? = some 43
    ∧ OrderAt (sortedBy (.placement 0) [43] 0) 43 2 (placed (order 43 1600 40) 12)
    ∧ NoOrder (sortedBy (.placement 0) [40] 0) 40
    ∧ (∀ w ∈ (placing0.setWindows []).spl.windows, ¬ CanTake w 5 100) := by
  refine ⟨⟨_, orderAt_of (o := { order 41 1000 100 with reason := .limit, created := 1000 }) ?_ rfl ?_, rfl⟩,
    ⟨_, orderAt_of (o := order 22 1045 20) ?_ rfl ?_, rfl⟩, ?_, orderAt_of ?_ rfl ?_, noOrder_of ?_, ?_⟩
  case refine_9 =>
    intro w hw
    exact absurd hw (List.not_mem_nil (a := w))
  all_goals decide +kernel

/-- 8.5 at its ganging. -/
def ganging (i : Nat) : State := atStage (.ganging i) placing5

theorem witness_RollersAreGanged :
    ((ganging 0).spl.planner.stage = .ganging 0 ∧ placing5.spl.planner.stage = .placement 5
      ∧ placing5.spl.planner.sortList.length ≤ 5 ∧ 0 < placing5.spl.planner.runGangHorizon)
    ∧ ((ganging 0).spl.planner.sortList[0]? = some 41
      ∧ ((ganging 0).member 41).map (fun m => (m.kind, m.segment)) = some (.belt, some 5))
    ∧ ((ganging 3).spl.planner.sortList.drop 3).all (fun n => ((ganging 3).member n).all (fun m => m.kind = .roller)) = true
    ∧ (((ganging 0).slot 5).map (fun o => (o.state, o.tag)) = some (.scheduled, some 11)
      ∧ (EachOrder (ganging 0) fun j p => decide (p.member = 41 → j = 5)) = true)
    ∧ (window 11 1010 4 150 100 0x28 ∈ (ganging 0).spl.windows ∧ WindowInv (ganging 0)) := by
  refine ⟨?_, ?_, ?_, ?_, ?_, ?_⟩ <;> (try unfold WindowInv) <;> and_intros <;> decide +kernel

/-- The rollers of segment 5 with m41's order taken: m40's order is next, and beyond it none is left. -/
def gangingRollers (i : Nat) : State := atStage (.gangRollers 0 5 11 i) placing5

theorem witness_RollersAreGanged_rollers :
    ((gangingRollers 0).spl.planner.stage = .gangRollers 0 5 11 0 ∧ RollerOrder (gangingRollers 0) 5 40)
    ∧ (EachMember placing5 fun n m => decide (m.kind = .roller → m.segment = some 5 → 40 ≤ n.val)) = true
    ∧ (EachMember placing5 fun n m => decide (41 ≤ n.val → ¬ (m.kind = .roller ∧ m.segment = some 5))) = true
    ∧ (∀ w ∈ placing5.spl.windows, w.tag ≠ 10)
    ∧ ({ window 11 1010 4 150 100 0x28 with state := .active } : MaintWindow).state ≠ .opened := by
  refine ⟨⟨rfl, ⟨{ roller (some 5) with minutes := 30, projection := some 1080 }, ?_, rfl, rfl⟩, fun h => ?_⟩, ?_, ?_, ?_, ?_⟩
  case refine_2 => exact h 4 (placed { order 40 1080 30 with created := 1000 } 13) (by decide +kernel) rfl
  all_goals decide +kernel

/-- A belt with no order, a belt of no segment, a belt whose order is not SCHEDULED; a roller's order that moves from window 13
to window 11, and one of window 12 that stays. -/
theorem witness_RollersAreGanged_moves :
    (NoOrder (sortedBy (.ganging 0) [41] 80) 41 ∧ (belt none).segment = none)
    ∧ (∃ o, OrderAt placing0 41 5 o ∧ o.state ≠ .scheduled)
    ∧ (∃ o, OrderAt (ganging 0) 40 4 o ∧ o.state = .scheduled ∧ o.tag = some 13 ∧ 1010 < 1070 ∧ o.due ≤ 1010 + 80
        ∧ o.minutes ≤ 150 - 100)
    ∧ ∃ o, OrderAt (ganging 0) 22 3 o ∧ o.tag = some 12 ∧ ¬ 1070 < 1040 := by
  refine ⟨⟨noOrder_of ?_, rfl⟩,
    ⟨_, orderAt_of (o := { order 41 1000 100 with reason := .limit, created := 1000 }) ?_ rfl ?_, by decide⟩,
    ⟨_, orderAt_of (o := placed { order 40 1080 30 with created := 1000 } 13) ?_ rfl ?_, rfl, rfl, by decide⟩,
    ⟨_, orderAt_of (o := placed (order 22 1045 20) 12) ?_ rfl ?_, rfl, by decide⟩⟩ <;> decide +kernel

/-- The clauses of `OrderOk`, and the member not FREE, as a check. -/
def okOrder (s : State) (o : Order) : Bool :=
  decide ((o.tag.isSome = true ↔ o.state = .scheduled ∨ o.state = .released)
    ∧ (o.state = .proposed → o.late = false ∧ o.ganged = false) ∧ o.missed ≤ 15) && (s.member o.member).isSome

theorem plan85_members : MemberInv { plan85 with pending := [.tick] } := by
  refine ⟨fun n m hm => (okMember_ok (eachMember_elim (P := fun _ m => okMember m) (by decide +kernel) n m hm)).1,
    by decide +kernel,
    fun n m hm => (okMember_ok (eachMember_elim (P := fun _ m => okMember m) (by decide +kernel) n m hm)).2,
    fun n n' m m' hm hm' k k' _ e => ?_⟩
  have p := eachMember_elim (s := { plan85 with pending := [.tick] })
    (P := fun n m => EachMember plan85 fun n' m' =>
      decide (m.kind = .belt → m'.kind = .belt → m.segment = m'.segment → n = n')) (by decide +kernel) n m hm
  exact of_decide_eq_true (eachMember_elim p n' m' hm') k k' e

/-- The clauses of `PlanInv`, as a check. -/
def okPlan (s : State) : Bool :=
  EachOrder s (fun k o => (o.tag.all fun tag => s.spl.windows.any fun w => decide (w.tag = tag
      ∧ (o.state = .scheduled → w.state = .opened) ∧ (o.state = .released → w.state = .active)))
    && decide ((1 ≤ o.minutes ∧ o.minutes ≤ 600) ∧ o.due ≤ 2 ^ 32 - 1 ∧ o.missed ≤ 15 ∧ o.created ≤ 2 ^ 32 - 1)
    && decide (s.spl.planner.stage = .takeBack 2 ∧ (o.state = .scheduled → 2 ≤ k.val)))
  && decide (∀ w ∈ s.spl.windows, (s.namedMinutes w.tag ≤ w.used ∧ w.used ≤ w.capacity)
    ∧ (1 ≤ w.start ∧ w.start ≤ 2 ^ 32 - 1) ∧ (1 ≤ w.length ∧ w.length ≤ 255) ∧ (1 ≤ w.capacity ∧ w.capacity ≤ 65535)
    ∧ w.mask ≠ 0)
  && decide (s.spl.generator.templates.length ≤ 16 ∧ ∀ x ∈ s.spl.generator.templates,
    (1 ≤ x.offset ∧ x.offset ≤ 65535) ∧ (1 ≤ x.length ∧ x.length ≤ 255) ∧ (1 ≤ x.capacity ∧ x.capacity ≤ 65535) ∧ x.mask ≠ 0)

theorem okPlan_ok {s : State} (h : okPlan s = true) : PlanInv s := by
  simp only [okPlan, Bool.and_eq_true, decide_eq_true_eq] at h
  obtain ⟨⟨ho, hw⟩, ht⟩ := h
  have k := fun j o hj => eachOrder_elim ho j o hj
  simp only [Bool.and_eq_true, decide_eq_true_eq] at k
  refine ⟨fun j o tag hj e => ?_, fun w hm => (hw w hm).1, fun j o hj hs hn => ?_, fun j o hj => (k j o hj).1.2,
    fun w hm => (hw w hm).2, ht⟩
  · have a := (k j o hj).1.1
    rw [e] at a
    obtain ⟨w, hm, hp⟩ := List.any_eq_true.1 a
    exact ⟨w, hm, of_decide_eq_true hp⟩
  · obtain ⟨hst, h2⟩ := (k j o hj).2
    have h2 := h2 hn
    rw [hst] at hs
    rcases hs with hs | ⟨i, hs⟩ | ⟨i, hs, hlt⟩ <;> cases hs
    omega

/-- 6.9 and 8.5 in a placement reset that has passed two slots: a RELEASED order in an ACTIVE window, SCHEDULED ones beyond. -/
def resetting : State :=
  let s := plan85.setWindows [{ window 11 1000 4 150 90 0x28 with state := .active }, window 12 1040 4 90 60 0x8,
    window 13 1070 6 240 0 0xFFFFFF]
  let s := s.setSlot 0 (some { placed (order 20 1050 90) 11 with reason := .warn, state := .released })
  { atStage (.takeBack 2) s with pending := [.placementReset] }

theorem witness_PlanKept_plan :
    MemberInv { plan85 with pending := [.tick] } ∧ PlanInv resetting
    ∧ (match step resetting with
        | .next t => decide (t.spl.planner.stage = .takeBack 3 ∧ (t.slot 2).map (·.state) = some .proposed)
        | .fault _ | .refused _ => false) = true :=
  ⟨plan85_members, okPlan_ok (by decide +kernel), by decide +kernel⟩

theorem witness_PlanKept :
    WindowInv { plan85 with pending := [.tick] } ∧ OrderInv { plan85 with pending := [.tick] }
    ∧ ∃ t, step { plan85 with pending := [.tick] } = .next t := by
  refine ⟨?_, ⟨fun k o h => ?_, ?_⟩, tick_steps plan85⟩
  · unfold WindowInv
    and_intros <;> decide +kernel
  · have p := eachOrder_elim (s := { plan85 with pending := [.tick] })
      (P := fun _ o => okOrder { plan85 with pending := [.tick] } o) (by decide +kernel) k o h
    simp only [okOrder, Bool.and_eq_true, decide_eq_true_eq] at p
    exact ⟨⟨p.1.1, p.1.2.1, p.1.2.2⟩, p.2⟩
  · intro k k' o o' h h' e
    have p := eachOrder_elim (s := { plan85 with pending := [.tick] }) (P := fun k o =>
      EachOrder { plan85 with pending := [.tick] } fun k' o' => decide (o.member = o'.member → k = k')) (by decide +kernel) k o h
    exact of_decide_eq_true (eachOrder_elim p k' o' h') e

/-! #### Notices and the link -/

theorem witness_PostingRule :
    NoticeInv queue96 ∧ (∃ n ∈ queue96Full.queue, n.kind = .segLost ∧ n.subject = 12)
    ∧ ((∀ n ∈ queue96.queue, ¬ (n.kind = .segLost ∧ n.subject = 12)) ∧ queue96.queue.length < 32)
    ∧ ((∀ n ∈ queue96Full.queue, ¬ (n.kind = .memberWarn ∧ n.subject = 71)) ∧ 32 ≤ queue96Full.queue.length) := by
  refine ⟨⟨?_, ?_, ?_, ?_⟩, ?_, ⟨?_, ?_⟩, ?_, ?_⟩ <;> decide +kernel

theorem witness_NoticeRequests :
    State.reset.nq.queue = [] ∧ queue96.queue = waiting .windowReleased 21 1 :: queue96.queue.tail
    ∧ 32 ≤ (32 : Byte).toNat ∧ (31 : Byte).toNat < 32 := by and_intros <;> decide +kernel

theorem witness_QueueAndLinkKept :
    NoticeInv queue96Full
    ∧ (∃ t, step { ({ plant with nq := queue96Full } : State) with pending := [.tick] } = .next t)
    ∧ LinkInv receiving.lnk
    ∧ ∃ t, step { receiving with pending := [.tick] } = .next t := by
  refine ⟨?_, tick_steps _, ⟨by decide +kernel, by decide +kernel, by decide +kernel, ?_, ?_⟩, tick_steps _⟩
  · unfold NoticeInv
    and_intros <;> decide +kernel
  · rintro a rest h
    cases h
    exact .inl rfl
  · rintro a l rest h
    cases h
    decide

/-- A station that has its address byte only. -/
def addressed : State := { station5 with lnk := { station5.lnk with receiver := .receiving, buffer := [5] } }

theorem witness_ReceiverJudges_line : (0x3FF#11).getLsbD 0 = true ∧ (0x3FE#11).getLsbD 0 = false := by decide

theorem witness_ReceiverJudges :
    restarting.lnk.receiver = .blanked
    ∧ (station5.lnk.receiver ≠ .blanked ∧ (5 : Byte) = station5.lnk.address ∧ (6 : Byte) ≠ station5.lnk.address ∧ (6 : Byte) ≠ 0)
    ∧ station5.lnk.receiver = .idle ∧ addressed.lnk.receiver = .receiving
    ∧ (addressed.lnk.buffer.length = 1 ∧ 250 < (251 : Byte).toNat ∧ 1 ≤ (250 : Byte).toNat ∧ (250 : Byte).toNat ≤ 250)
    ∧ (receiving.lnk.buffer = 5 :: 1 :: [] ∧ receiving.lnk.buffer.length + 1 ≠ (1 : Byte).toNat + 4) := by
  and_intros <;> decide +kernel

theorem witness_FramesAreChecked :
    (List.replicate 249 (0 : Byte)).length ≤ 249 ∧ station5.lnk.receiver ≠ .blanked
    ∧ ((⟨5, 0x02, []⟩ : Frame).address = station5.lnk.address ∧ (⟨5, 0x02, []⟩ : Frame).address ≠ 0)
    ∧ crc16 [1, 0x02] ≠ crc16 [1, 0x02] + 1
    ∧ station5.lnk.replyState = .none ∧ (replied.map (·.lnk.replyState)) = some .pending
    ∧ ((⟨0, 0x02, []⟩ : Frame).kind ∉ [0x03, 0x04, 0x09] ∧ (⟨0, 0x09, []⟩ : Frame).kind ∈ [0x03, 0x04, 0x09])
    ∧ ((⟨0, 0x04, [3]⟩ : Frame).kind = 0x04 ∧ (⟨0, 0x04, [3]⟩ : Frame).payload = [3]
      ∧ ¬ ((⟨0, 0x04, [1]⟩ : Frame).kind = 0x04 ∧ (⟨0, 0x04, [1]⟩ : Frame).payload = [3])) := by
  and_intros <;> decide +kernel

theorem witness_RepliesAreSent :
    (List.replicate 246 (0 : Byte)).length ≤ 246
    ∧ (replied.map fun t => (t.lnk.replyState, t.lnk.reply.isSome, t.lnk.receiver)) = some (.pending, true, .idle)
    ∧ (replied.map fun t => decide (({ t.lnk with receiver := .receiving, buffer := [5] } : Lnk).receiver = .receiving)) = some true
    ∧ station5.lnk.replyState ≠ .pending
    ∧ ((replied.bind (after .replyStart)).map fun t => (t.lnk.replyState, t.lnk.restartAtEnd)) = some (.sending, false)
    ∧ (((replied.bind (after .replyStart)).bind (after .replyEnd)).map fun t => (t.lnk.receiver, t.lnk.replyState))
      = some (.blanked, .none)
    ∧ station5.lnk.receiver ≠ .blanked ∧ restarting.lnk.replyState = .sending := by
  and_intros <;> decide +kernel

end Sys2Proof.Tests
end

section
/-! SUPPORT. Handing a close on (R17) and reckoning a part-interval (R32): what the ITU's operations read, which notices a
hand-on posts, and what it does at the WAU and at the ITU. -/

namespace Sys2Proof.Machine

/-! ### What the ITU reads -/

/-- Two states that the ITU cannot tell apart: the same items and the same definitions. -/
def SameItems (s u : State) : Prop := u.itu = s.itu ∧ ∀ g, u.defn g = s.defn g

section SameItems

variable {s u : State}

theorem SameItems.track (h : SameItems s u) (g : SegNo) : u.track g = s.track g := by
  simp only [State.track, h.1]

theorem SameItems.takesItems (h : SameItems s u) : u.takesItems = s.takesItems := by
  funext g
  simp only [State.takesItems, h.2]

theorem SameItems.setTrack (h : SameItems s u) (g : SegNo) (x : Tracking) :
    SameItems (s.setTrack g x) (u.setTrack g x) :=
  ⟨by simp only [State.setTrack, h.1], h.2⟩

theorem SameItems.giveFree (h : SameItems s u) (n : Nat) : SameItems (s.giveFree n) (u.giveFree n) :=
  ⟨by simp only [State.giveFree, h.1], h.2⟩

theorem SameItems.post (h : SameItems s u) (k : NoticeKind) (x v : Nat) : SameItems (s.post k x v) (u.post k x v) := h

theorem SameItems.resync (h : SameItems s u) (g : SegNo) : SameItems (s.resync g) (u.resync g) := by
  have hf : SameItems (s.flush g) (u.flush g) := by
    simp only [State.flush, h.track]
    exact (h.setTrack _ _).giveFree _
  simp only [State.resync, h.track, hf.track]
  exact (hf.setTrack _ _).post _ _ _

theorem SameItems.trackingError (h : SameItems s u) (g : SegNo) (d : SegDef) :
    SameItems (s.trackingError g d) (u.trackingError g d) := by
  simp only [State.trackingError, h.track]
  split
  · exact h
  · split
    · exact h.resync g
    · exact h.setTrack _ _

theorem SameItems.dropItem (h : SameItems s u) (g : SegNo) (cause : Nat) :
    SameItems (s.dropItem g cause) (u.dropItem g cause) := by
  simp only [State.dropItem, h.track]
  exact (h.setTrack _ _).post _ _ _

theorem SameItems.handOnItem (h : SameItems s u) (g : SegNo) (d : SegDef) (item : Item) :
    SameItems (s.handOnItem g d item) (u.handOnItem g d item) := by
  simp only [State.handOnItem, h.track, h.takesItems]
  split
  · exact (h.setTrack _ _).giveFree _
  · split
    · exact h.setTrack _ _
    · exact (h.giveFree _).dropItem _ _

theorem SameItems.cleanExit (h : SameItems s u) (g : SegNo) (d : SegDef) (item : Item) (rest : List Item) :
    SameItems (s.cleanExit g d item rest) (u.cleanExit g d item rest) := by
  simp only [State.cleanExit, h.track]
  exact (h.setTrack _ _).handOnItem _ _ _

theorem SameItems.removeStale (d : SegDef) (g : SegNo) (n : Nat) {s u : State} (h : SameItems s u) :
    SameItems (State.removeStale d g n s) (State.removeStale d g n u) := by
  induction n generalizing s u with
  | zero => exact h
  | succ n ih =>
    simp only [State.removeStale, h.track]
    split
    · exact h
    · split
      · exact ih (((h.setTrack _ _).giveFree _).trackingError _ _)
      · exact h

theorem SameItems.exitByTravel (d : SegDef) (g : SegNo) (n : Nat) {s u : State} (h : SameItems s u) :
    SameItems (State.exitByTravel d g n s) (State.exitByTravel d g n u) := by
  induction n generalizing s u with
  | zero => exact h
  | succ n ih =>
    simp only [State.exitByTravel, h.track]
    split
    · exact h
    · split
      · exact ih (h.cleanExit _ _ _ _)
      · exact h

theorem SameItems.ageItems (h : SameItems s u) (g : SegNo) (d : SegDef) (mm : Nat) :
    SameItems (s.ageItems g d mm) (u.ageItems g d mm) := by
  simp only [State.ageItems, h.track]
  split
  · exact h.setTrack _ _
  · split
    · exact (h.setTrack _ _).removeStale _ _ _
    · exact (h.setTrack _ _).exitByTravel _ _ _

/-- What a close does at the ITU depends on the items and the definitions alone. -/
theorem SameItems.ageAt (h : SameItems s u) (g : SegNo) (d : SegDef) (mm : Nat) :
    SameItems (s.ageAt g d mm) (u.ageAt g d mm) := by
  simp only [State.ageAt, State.storeLoad, h.track]
  exact (h.setTrack _ _).ageItems _ _ _

end SameItems

/-! ### The notices of a hand-on -/

/-- From `s` to `t`, in one epoch and tick, nothing but notices of the kinds of a hand-on was posted. -/
def PostsHandOn (s t : State) : Prop :=
  t.etm = s.etm ∧ ∃ notes, (∀ n ∈ notes, n.1 ∈ handOnKinds) ∧ Posts notes s t

theorem PostsHandOn.postsAround {s t : State} (h : PostsHandOn s t) : PostsAround [] [] s t := by
  obtain ⟨-, notes, hk, hp⟩ := h
  exact ⟨notes, hk, by simpa using hp⟩

theorem PostsHandOn.of_eq {s t : State} (he : t.etm = s.etm) (hn : t.nq = s.nq) : PostsHandOn s t :=
  ⟨he, [], by simp, hn⟩

theorem PostsHandOn.refl (s : State) : PostsHandOn s s := .of_eq rfl rfl

theorem PostsHandOn.trans {s t u : State} (h : PostsHandOn s t) (h' : PostsHandOn t u) : PostsHandOn s u := by
  obtain ⟨he, notes, hk, hp⟩ := h
  obtain ⟨he', notes', hk', hp'⟩ := h'
  refine ⟨he'.trans he, notes ++ notes', fun n hn => (List.mem_append.1 hn).elim (hk n) (hk' n), ?_⟩
  simp only [Posts] at hp hp' ⊢
  rw [List.foldl_append, ← hp, hp', he]

theorem PostsHandOn.post {s u : State} (h : PostsHandOn s u) {k : NoticeKind} (hk : k ∈ handOnKinds) (x v : Nat) :
    PostsHandOn s (u.post k x v) :=
  h.trans ⟨rfl, [(k, x, v)], by simpa using hk, rfl⟩

theorem postsHandOn_foldl {α : Type} {f : State → α → State} {l : List α} (h : ∀ a ∈ l, ∀ s, PostsHandOn s (f s a))
    (s : State) : PostsHandOn s (l.foldl f s) := by
  induction l generalizing s with
  | nil => exact .refl s
  | cons a l ih =>
    exact (h a List.mem_cons_self s).trans (ih (fun b hb => h b (List.mem_cons_of_mem _ hb)) (f s a))

section

variable (s : State)

theorem State.resync_posts (g : SegNo) : PostsHandOn s (s.resync g) :=
  PostsHandOn.post (.of_eq (by simp) (by simp)) (by decide) _ _

theorem State.trackingError_posts (g : SegNo) (d : SegDef) : PostsHandOn s (s.trackingError g d) := by
  unfold State.trackingError
  dsimp only
  split
  · exact .refl s
  · split
    · exact s.resync_posts g
    · exact .of_eq rfl rfl

theorem State.dropItem_posts (g : SegNo) (cause : Nat) : PostsHandOn s (s.dropItem g cause) :=
  PostsHandOn.post (.of_eq rfl rfl) (by decide) _ _

theorem State.handOnItem_posts (g : SegNo) (d : SegDef) (item : Item) : PostsHandOn s (s.handOnItem g d item) := by
  unfold State.handOnItem
  dsimp only
  split
  · exact .of_eq rfl rfl
  · split
    · exact .of_eq rfl rfl
    · exact (PostsHandOn.of_eq rfl rfl).trans (State.dropItem_posts _ _ _)

theorem State.cleanExit_posts (g : SegNo) (d : SegDef) (item : Item) (rest : List Item) :
    PostsHandOn s (s.cleanExit g d item rest) :=
  (PostsHandOn.of_eq rfl rfl).trans (State.handOnItem_posts _ _ _ _)

theorem State.removeStale_posts (d : SegDef) (g : SegNo) (n : Nat) : PostsHandOn s (State.removeStale d g n s) := by
  induction n generalizing s with
  | zero => exact .refl s
  | succ n ih =>
    unfold State.removeStale
    split
    · exact .refl s
    · split
      · refine PostsHandOn.trans (PostsHandOn.trans ?_ (State.trackingError_posts _ g d)) (ih _)
        exact .of_eq rfl rfl
      · exact .refl s

theorem State.exitByTravel_posts (d : SegDef) (g : SegNo) (n : Nat) : PostsHandOn s (State.exitByTravel d g n s) := by
  induction n generalizing s with
  | zero => exact .refl s
  | succ n ih =>
    unfold State.exitByTravel
    split
    · exact .refl s
    · split
      · exact (s.cleanExit_posts _ _ _ _).trans (ih _)
      · exact .refl s

theorem State.ageItems_posts (g : SegNo) (d : SegDef) (mm : Nat) : PostsHandOn s (s.ageItems g d mm) := by
  unfold State.ageItems
  dsimp only
  split
  · exact .of_eq rfl rfl
  · split
    · exact (PostsHandOn.of_eq rfl rfl).trans (State.removeStale_posts _ _ _ _)
    · exact (PostsHandOn.of_eq rfl rfl).trans (State.exitByTravel_posts _ _ _ _)

end

theorem passedLevels_handOn (a b : WearState) : ∀ k ∈ passedLevels a b, k ∈ handOnKinds := by
  cases a <;> cases b <;> decide

theorem Member.takeWear_notes (m : Member) (dW : Nat) : ∀ n ∈ (m.takeWear dW).2, n.1 ∈ handOnKinds := by
  unfold Member.takeWear
  split
  · unfold Member.defer
    split
    · simp
    · dsimp only
      split
      · simp
      · simp [handOnKinds]
  · unfold Member.evalUpward
    split
    · intro n hn
      obtain ⟨k, hk, rfl⟩ := List.mem_map.1 hn
      exact passedLevels_handOn _ _ k hk
    · simp

theorem Member.testCheckpoint_notes (m : Member) (threshold : Nat) :
    ∀ n ∈ (m.testCheckpoint threshold).2, n.1 ∈ handOnKinds := by
  unfold Member.testCheckpoint
  split <;> simp [handOnKinds]

/-- An accrual posts notices of wear alone (R79, R81, R86). -/
theorem Member.accrue_notes (m : Member) (rep : CloseReport) (load threshold : Nat) :
    ∀ n ∈ (m.accrue rep load threshold).2, n.1 ∈ handOnKinds := fun n hn =>
  (List.mem_append.1 hn).elim (Member.takeWear_notes _ _ n) (Member.testCheckpoint_notes _ _ n)

section

variable (s : State)

theorem State.postAll_posts (x : Nat) {notes : List (NoticeKind × Nat)} (h : ∀ n ∈ notes, n.1 ∈ handOnKinds) :
    PostsHandOn s (s.postAll x notes) :=
  postsHandOn_foldl (fun n hn s => (PostsHandOn.refl s).post (h n hn) _ _) s

theorem State.accrueMember_posts (rep : CloseReport) (load : Nat) (n : MemberNo) :
    PostsHandOn s (State.accrueMember rep load s n) := by
  unfold State.accrueMember
  split
  · exact .refl s
  · exact (PostsHandOn.of_eq rfl rfl).trans (State.postAll_posts _ _ (Member.accrue_notes _ _ _ _))

theorem State.handOn_posts (g : SegNo) (d : SegDef) (kind : CloseKind) (mm : Nat) :
    PostsHandOn s (s.handOn g d kind mm) := by
  have hAge : PostsHandOn s (s.ageAt g d mm) := (PostsHandOn.of_eq rfl rfl).trans (State.ageItems_posts _ _ _ _)
  exact hAge.trans (postsHandOn_foldl (fun n _ s => s.accrueMember_posts _ _ n) _)

/-! ### The accrual of a close to the members of its segment -/

theorem State.member_accrueMember_self (rep : CloseReport) (load : Nat) (n : MemberNo) :
    (State.accrueMember rep load s n).member n
      = (s.member n).map fun m => (m.accrue rep load s.etm.settings.checkpoint).1 := by
  unfold State.accrueMember
  split
  · next h => simp [h]
  · next h => simp [h]

theorem State.member_accrueMember_ne (rep : CloseReport) (load : Nat) {n j : MemberNo} (h : j ≠ n) :
    (State.accrueMember rep load s n).member j = s.member j := by
  unfold State.accrueMember
  split
  · rfl
  · simp [State.member_setMember_ne, h]

theorem State.pass_accrueMember (rep : CloseReport) (load : Nat) (n : MemberNo) :
    (State.accrueMember rep load s n).wau.pass = s.wau.pass := by
  unfold State.accrueMember
  split <;> simp

/-- Accruing to each member of a list once accrues to those in the list, and to no other. -/
theorem State.member_foldl_accrueMember (rep : CloseReport) (load : Nat) {l : List MemberNo} (hl : l.Nodup)
    (n : MemberNo) :
    (l.foldl (State.accrueMember rep load) s).member n
      = if n ∈ l then (s.member n).map fun m => (m.accrue rep load s.etm.settings.checkpoint).1 else s.member n := by
  induction l generalizing s with
  | nil => simp
  | cons a l ih =>
    obtain ⟨ha, hl⟩ := List.nodup_cons.1 hl
    rw [List.foldl_cons, ih _ hl, State.accrueMember_etm]
    by_cases e : n = a
    · subst e
      simp [ha, State.member_accrueMember_self]
    · simp [e, State.member_accrueMember_ne]

theorem State.pass_foldl_accrueMember (rep : CloseReport) (load : Nat) (l : List MemberNo) :
    (l.foldl (State.accrueMember rep load) s).wau.pass = s.wau.pass := by
  induction l generalizing s with
  | nil => rfl
  | cons a l ih => rw [List.foldl_cons, ih, State.pass_accrueMember]

theorem State.mem_boundMembers {g : SegNo} {n : MemberNo} :
    n ∈ s.boundMembers g ↔ ∃ m, s.member n = some m ∧ m.segment = some g := by
  cases h : s.member n <;> simp [State.boundMembers, allMembers, h]

/-- The WAU accrues a report to the members bound to its segment, and to no other (R69). -/
theorem State.member_accrueAll (rep : CloseReport) (load : Nat) (n : MemberNo) :
    (s.accrueAll rep load).member n = (s.member n).map fun m =>
      if m.segment = some rep.segment then (m.accrue rep load s.etm.settings.checkpoint).1 else m := by
  have hl : (arrange s.arbiter.members (s.boundMembers rep.segment)).Nodup :=
    arrange_nodup _ ((List.nodup_finRange 192).filter _)
  unfold State.accrueAll
  rw [s.member_foldl_accrueMember rep load hl]
  simp only [mem_arrange, s.mem_boundMembers]
  cases s.member n with
  | none => simp
  | some m => by_cases hm : m.segment = some rep.segment <;> simp [hm]

theorem State.pass_accrueAll (rep : CloseReport) (load : Nat) : (s.accrueAll rep load).wau.pass = s.wau.pass :=
  s.pass_foldl_accrueMember _ _ _

/-! ### Handing on -/

/-- A hand-on is what `HandedOn` says: the ITU's share, and the WAU's with the load as it stood before (R17, R69). -/
theorem State.handOn_handedOn (g : SegNo) (d : SegDef) (kind : CloseKind) (mm : Nat) :
    HandedOn g d kind mm (s.run g).slip s (s.handOn g d kind mm) := by
  refine ⟨by simp [State.handOn], by simp [State.handOn, State.pass_accrueAll], fun n => ?_⟩
  have hn : (s.handOn g d kind mm).member n = (s.member n).map fun m =>
      if m.segment = some g then
        (m.accrue { segment := g, kind, travel := mm, slip := (s.run g).slip } ((s.track g).load d)
          s.etm.settings.checkpoint).1
      else m := by
    simp [State.handOn, State.member_accrueAll]
  cases hs : s.member n with
  | none => simp [hn, hs]
  | some m => by_cases hm : m.segment = some g <;> simp [hn, hs, hm]

end

/-- What was handed on since a state was handed on since any other with the same items, definitions, members and settings. -/
theorem HandedOn.of_same {s u t : State} {g : SegNo} {d : SegDef} {kind : CloseKind} {mm slip : Nat}
    (hi : SameItems s u) (hw : u.wau = s.wau) (he : u.etm = s.etm) (h : HandedOn g d kind mm slip u t) :
    HandedOn g d kind mm slip s t := by
  obtain ⟨hItu, hPass, hMember⟩ := h
  refine ⟨hItu.trans (hi.ageAt g d mm).1, hPass.trans (by rw [hw]), fun n => ?_⟩
  have hn := hMember n
  simp only [State.member, hw, he, hi.track] at hn ⊢
  exact hn

theorem PartReckoned.of_same {s u t : State} {g : SegNo} {d : SegDef} {ms : Nat}
    (hi : SameItems s u) (hw : u.wau = s.wau) (he : u.etm = s.etm) (hr : u.run g = s.run g)
    (h : PartReckoned g d ms u t) : PartReckoned g d ms s t := by
  unfold PartReckoned at h ⊢
  split_ifs at h ⊢
  · exact ⟨h.1.trans hi.1, h.2.trans hw⟩
  · rw [hr] at h
    exact h.of_same hi hw he

/-! ### Part-intervals (R32) -/

section

variable (s : State)

theorem SameItems.setRun (g : SegNo) (r : SegRun) : SameItems s (s.setRun g r) := ⟨rfl, fun j => s.defn_setRun g j r⟩

theorem State.reckon_posts (g : SegNo) (d : SegDef) (ms : Nat) : PostsHandOn s (s.reckon g d ms) := by
  unfold State.reckon
  exact PostsHandOn.trans (.of_eq (s.setRun_etm g _) (s.setRun_nq g _)) (State.handOn_posts _ _ _ _ _)

theorem State.reckon_handedOn (g : SegNo) (d : SegDef) (ms : Nat) :
    HandedOn g d .reckoning ((s.run g).reckonedTravel ms) (s.run g).slip s (s.reckon g d ms) := by
  have h := State.handOn_handedOn (s.setRun g { s.run g with
    residue := travelResidue ((s.run g).speed * ms) (s.run g).residue }) g d .reckoning ((s.run g).reckonedTravel ms)
  rw [State.run_setRun_self] at h
  exact h.of_same (.setRun s g _) rfl rfl

@[simp] theorem State.run_reckon_self (g : SegNo) (d : SegDef) (ms : Nat) :
    (s.reckon g d ms).run g
      = { s.run g with residue := ((s.run g).speed * ms + (s.run g).residue) % 1000 } := by
  simp [State.reckon, travelResidue]

@[simp] theorem State.defn_reckon (g j : SegNo) (d : SegDef) (ms : Nat) : (s.reckon g d ms).defn j = s.defn j := by
  simp [State.reckon]

theorem State.segment_reckon_ne {g j : SegNo} (h : j ≠ g) (d : SegDef) (ms : Nat) :
    (s.reckon g d ms).segment j = s.segment j := by
  simp [State.reckon, State.segment_setRun_ne, h]

/-- A part-interval of 0 ms makes no interval; any other is a reckoning interval (R32). -/
theorem State.reckonPart_cases (g : SegNo) (d : SegDef) (tick : Tick) :
    ((tick - (s.run g).timingRef).toNat = 0 ∧ s.reckonPart g d tick = s)
    ∨ ((tick - (s.run g).timingRef).toNat ≠ 0
      ∧ s.reckonPart g d tick = s.reckon g d (tick - (s.run g).timingRef).toNat) := by
  by_cases h : (tick - (s.run g).timingRef).toNat = 0
  · exact .inl ⟨h, if_pos h⟩
  · exact .inr ⟨h, if_neg h⟩

theorem State.reckonPart_posts (g : SegNo) (d : SegDef) (tick : Tick) : PostsHandOn s (s.reckonPart g d tick) := by
  obtain ⟨-, e⟩ | ⟨-, e⟩ := s.reckonPart_cases g d tick <;> rw [e]
  · exact .refl s
  · exact s.reckon_posts g d _

theorem State.reckonPart_partReckoned (g : SegNo) (d : SegDef) (tick : Tick) :
    PartReckoned g d (tick - (s.run g).timingRef).toNat s (s.reckonPart g d tick) := by
  obtain ⟨h, e⟩ | ⟨h, e⟩ := s.reckonPart_cases g d tick <;> rw [e, PartReckoned]
  · rw [if_pos h]
    exact ⟨rfl, rfl⟩
  · rw [if_neg h]
    exact s.reckon_handedOn g d _

theorem State.run_reckonPart_self {g : SegNo} (hw : (s.run g).window = none) (d : SegDef) (tick : Tick) :
    (s.reckonPart g d tick).run g = (s.run g).partReckoned (tick - (s.run g).timingRef).toNat := by
  obtain ⟨h, e⟩ | ⟨h, e⟩ := s.reckonPart_cases g d tick <;> rw [e, SegRun.partReckoned]
  · rw [if_pos h, ← hw]
  · rw [if_neg h, State.run_reckon_self, SegRun.reckoned, ← hw]

@[simp] theorem State.defn_reckonPart (g j : SegNo) (d : SegDef) (tick : Tick) :
    (s.reckonPart g d tick).defn j = s.defn j := by
  obtain ⟨-, e⟩ | ⟨-, e⟩ := s.reckonPart_cases g d tick <;> simp [e]

theorem State.segment_reckonPart_ne {g j : SegNo} (h : j ≠ g) (d : SegDef) (tick : Tick) :
    (s.reckonPart g d tick).segment j = s.segment j := by
  obtain ⟨-, e⟩ | ⟨-, e⟩ := s.reckonPart_cases g d tick <;> simp [e, State.segment_reckon_ne, h]

end

end Sys2Proof.Machine
end

section
/-! SUPPORT. A drive pulse at a lost drive (R34), and SEGMENT_REARM (R37): O15. -/

namespace Sys2Proof.Machine

section

variable (s : State)

/-! ### A pulse of a line that drives one segment (R3, R4) -/

theorem State.mem_segmentsThat {test : SegDef → Bool} {g : SegNo} :
    g ∈ s.segmentsThat test ↔ ∃ d, s.defn g = some d ∧ test d = true := by
  cases h : s.defn g <;> simp [State.segmentsThat, allSegments, h]

theorem State.segmentsThat_nodup (test : SegDef → Bool) : (s.segmentsThat test).Nodup :=
  arrange_nodup _ ((List.nodup_finRange 24).filter _)

/-- Where one segment alone passes the test, it alone is taken. -/
theorem State.segmentsThat_eq_singleton {test : SegDef → Bool} {g : SegNo}
    (h : ∀ j, (∃ d, s.defn j = some d ∧ test d = true) ↔ j = g) : s.segmentsThat test = [g] := by
  refine List.perm_singleton.1 ((List.perm_ext_iff_of_nodup (s.segmentsThat_nodup _) (List.nodup_singleton g)).2 ?_)
  intro j
  rw [State.mem_segmentsThat, h, List.mem_singleton]

/-- A pulse of a line that drives one segment, and is no idler line, is a drive pulse there and nothing else. -/
theorem State.pulseEvent_of_drivesOnly {l : LineNo} {g : SegNo} {d : SegDef} (h : DrivesOnly s l g d) :
    s.pulseEvent l = s.drivePulse g d := by
  obtain ⟨hd, hl, hi, hOnly⟩ := h
  have hg : s.segmentsThat (fun d => d.driveLine = l || d.idlerLine = some l) = [g] := by
    refine s.segmentsThat_eq_singleton fun j => ⟨?_, ?_⟩
    · rintro ⟨e, he, ht⟩
      exact hOnly j e he (by simpa using ht)
    · rintro rfl
      exact ⟨d, hd, by simp [hl]⟩
  simp [State.pulseEvent, hg, State.pulseAt, hd, hl, hi]

/-- The SIU with the other level of line `l` accepted, its event not yet delivered (R2). -/
def State.flipLine (l : LineNo) : State :=
  let x := s.line l
  let level := x.level.flip
  let s := s.setLine l { x with level := level, runCount := 0, changed := true }
  { s with siu := { s.siu with pins := setPin s.siu.pins l x.polarity level } }

theorem State.line_flipLine_self (l : LineNo) : (s.flipLine l).line l
    = { s.line l with level := (s.line l).level.flip, runCount := 0, changed := true } :=
  s.line_setLine_self l { s.line l with level := (s.line l).level.flip, runCount := 0, changed := true }

/-- An accepted transition is the line flipped, then its role's event (R2, R3). -/
theorem State.acceptTransition_eq (l : LineNo) :
    s.acceptTransition l = (s.flipLine l).lineEvent l (s.line l).level.flip := rfl

/-- The ACTIVE edge of a pulse line is a pulse event (R3). -/
theorem State.acceptTransition_of_readyToRise {l : LineNo} (h : ReadyToRise s l .pulse) :
    s.acceptTransition l = (s.flipLine l).pulseEvent l := by
  have hrole : ((s.flipLine l).line l).role = .pulse := by rw [s.line_flipLine_self, h.1]
  have hlevel : (s.line l).level.flip = .active := by rw [h.2]; rfl
  rw [s.acceptTransition_eq, hlevel]
  simp only [State.lineEvent, hrole]

theorem DrivesOnly.flipLine {s : State} {l : LineNo} {g : SegNo} {d : SegDef} (h : DrivesOnly s l g d) :
    DrivesOnly (s.flipLine l) l g d := h

/-- A drive pulse at a lost drive with no window open reckons the part-interval, then opens a window (R34). -/
theorem State.drivePulse_of_driveLost {g : SegNo} (hs : (s.run g).supervision = .driveLost)
    (hw : (s.run g).window = none) (d : SegDef) :
    s.drivePulse g d = (s.reckonPart g d s.etm.tick).openWindow g s.etm.tick := by
  simp [State.drivePulse, hs, hw]

/-! ### SEGMENT_REARM (R37) -/

theorem State.runLineActive_iff (d : SegDef) : s.runLineActive d = true ↔ RunsNow s d := by
  unfold State.runLineActive RunsNow
  cases d.runLine <;> simp

/-- A FAILED segment whose run line is ACTIVE has the part-interval reckoned, and stops. -/
theorem State.rearm_of_runsNow {g : SegNo} {d : SegDef} (hd : s.defn g = some d)
    (hs : (s.run g).supervision = .failed) (h : RunsNow s d) :
    s.rearm g = (s.reckonPart g d s.etm.tick).setRun g { (s.reckonPart g d s.etm.tick).run g with
      supervision := .stopped, timingRef := s.etm.tick, intervals := 0 } := by
  simp [State.rearm, hd, hs, (s.runLineActive_iff d).2 h, State.enter]

/-- One whose run line is not ACTIVE stops, and nothing is reckoned. -/
theorem State.rearm_of_not_runsNow {g : SegNo} {d : SegDef} (hd : s.defn g = some d)
    (hs : (s.run g).supervision = .failed) (h : ¬ RunsNow s d) :
    s.rearm g = s.setRun g { s.run g with supervision := .stopped, timingRef := s.etm.tick, intervals := 0 } := by
  rw [← s.runLineActive_iff] at h
  simp [State.rearm, hd, hs, h, State.enter]

/-- In every other state, and undefined, a segment is left as it is. -/
theorem State.rearm_of_not_failed {g : SegNo} (h : (s.run g).supervision ≠ .failed ∨ s.defn g = none) :
    s.rearm g = s := by
  unfold State.rearm
  split
  · rfl
  · next d hd => exact if_neg (h.resolve_right (by simp [hd]))

end

/-! ### O15 -/

/-- A drive pulse at a lost drive with no window open: the part-interval is reckoned and a window opened (R32, R34). -/
theorem drivePulse_reckons {l : LineNo} {g : SegNo} {d : SegDef} {s : State} (hReady : ReadyToRise s l .pulse)
    (hDrives : DrivesOnly s l g d) (hLost : (s.run g).supervision = .driveLost) (hw : (s.run g).window = none) :
    let ms := (s.etm.tick - (s.run g).timingRef).toNat
    ∃ t, exec (.acceptedTransition l) s = .next t
      ∧ t.run g = { (s.run g).partReckoned ms with
          window := some { openTick := s.etm.tick, drive := 0, idler := 0 }, timingRef := s.etm.tick }
      ∧ PartReckoned g d ms s t ∧ KeepsOtherSegments g s t ∧ PostsAround [] [] s t := by
  intro ms
  let u := s.flipLine l
  have hAccept : s.acceptTransition l = (u.reckonPart g d s.etm.tick).openWindow g s.etm.tick :=
    (s.acceptTransition_of_readyToRise hReady).trans
      ((u.pulseEvent_of_drivesOnly hDrives.flipLine).trans (u.drivePulse_of_driveLost hLost hw d))
  refine ⟨_, congrArg Host.Outcome.next hAccept, ?_, ?_, fun j hj => ?_, ?_⟩
  · rw [State.openWindow, State.run_setRun_self, u.run_reckonPart_self hw]
    rfl
  · have h : PartReckoned g d ms u (u.reckonPart g d s.etm.tick) := u.reckonPart_partReckoned g d s.etm.tick
    exact h.of_same (u := u) ⟨rfl, fun _ => rfl⟩ rfl rfl rfl
  · rw [State.openWindow, State.segment_setRun_ne _ hj, u.segment_reckonPart_ne hj]
    rfl
  · exact (u.reckonPart_posts g d s.etm.tick).postsAround

theorem exec_segmentRearm_ok {segment : Byte} {g : SegNo} (h : segment.toNat = g.val) (s : State) :
    exec (.segmentRearm segment) s = .next ((s.rearm g).answer .segmentRearm .ok []) := by
  show execSegmentRearm segment s = _
  simp only [execSegmentRearm, segmentOf_eq_some.2 h]

theorem exec_segmentRearm_badValue {segment : Byte} (h : 23 < segment.toNat) (s : State) :
    exec (.segmentRearm segment) s = .next (s.answer .segmentRearm .badValue []) := by
  show execSegmentRearm segment s = _
  simp only [execSegmentRearm, segmentOf_eq_none.2 h]

theorem rearm_answers (s : State) (g : SegNo) :
    Answers [.smu, .itu, .wau, .nq] 0x14 .ok [] s ((s.rearm g).answer .segmentRearm .ok []) :=
  answers_of_keeps s (s.rearm_keeps g) (s.rearm_lnk g) (s.rearm_rqd g)

/-- A FAILED segment rearmed: the part-interval is reckoned while the run line is ACTIVE, and the segment stops (R37). -/
theorem rearm_stops {g : SegNo} {d : SegDef} {s : State} (hd : s.defn g = some d)
    (hs : (s.run g).supervision = .failed) (hw : (s.run g).window = none) :
    let ms := (s.etm.tick - (s.run g).timingRef).toNat
    let t := s.rearm g
    KeepsOtherSegments g s t ∧ t.defn g = s.defn g ∧ PostsAround [] [] s t
      ∧ (RunsNow s d →
          t.run g = { (s.run g).partReckoned ms with
            supervision := .stopped, timingRef := s.etm.tick, intervals := 0 }
          ∧ PartReckoned g d ms s t)
      ∧ (¬ RunsNow s d →
          t.run g = { s.run g with supervision := .stopped, timingRef := s.etm.tick, intervals := 0 }
          ∧ NothingHandedOn s t) := by
  intro ms t
  by_cases hr : RunsNow s d
  · have ht : t = _ := s.rearm_of_runsNow hd hs hr
    rw [ht]
    refine ⟨fun j hj => ?_, ?_, ?_, fun _ => ⟨?_, ?_⟩, fun h => absurd hr h⟩
    · rw [State.segment_setRun_ne _ hj, s.segment_reckonPart_ne hj]
    · rw [State.defn_setRun, s.defn_reckonPart]
    · exact (s.reckonPart_posts g d s.etm.tick).postsAround
    · rw [State.run_setRun_self, s.run_reckonPart_self hw]
    · exact s.reckonPart_partReckoned g d s.etm.tick
  · have ht : t = _ := s.rearm_of_not_runsNow hd hs hr
    rw [ht]
    exact ⟨fun j hj => s.segment_setRun_ne hj _, s.defn_setRun g g _, (PostsHandOn.refl s).postsAround,
      fun h => absurd h hr, fun _ => ⟨s.run_setRun_self g _, rfl, rfl⟩⟩

/-- Settles O15: the pulse by `drivePulse_reckons`, SEGMENT_REARM by its two answers and `rearm_stops`. -/
theorem partIntervalsAreReckoned : Obligations.PartIntervalsAreReckoned := by
  unfold Obligations.PartIntervalsAreReckoned
  refine ⟨fun l g d s => drivePulse_reckons, fun segment s => ⟨fun h => ?_, fun g h => ⟨fun hg => ?_, ?_⟩⟩⟩
  · exact ⟨_, exec_segmentRearm_badValue h s, refuses_answer s .segmentRearm .badValue []⟩
  · refine ⟨_, exec_segmentRearm_ok h s, ?_⟩
    rw [s.rearm_of_not_failed hg]
    exact refuses_answer s .segmentRearm .ok []
  · intro d hd hs hw
    exact ⟨_, exec_segmentRearm_ok h s, rearm_answers s g, rearm_stops hd hs hw⟩

end Sys2Proof.Machine
end

section
/-! SUPPORT. What each operation of the ITU does to the segment it is at (03): the record it leaves, the free list, the notices
it posts, and the other segments, which stand. -/

namespace Sys2Proof.Machine

/-! ### Postings, one after another -/

theorem Posts.of_eq {s t : State} (h : t.nq = s.nq) : Posts [] s t := h

theorem Posts.trans {before after : List (NoticeKind × Nat × Nat)} {s t u : State} (h : Posts before s t)
    (he : t.etm = s.etm) (h' : Posts after t u) : Posts (before ++ after) s u := by
  simp only [Posts] at h h' ⊢
  rw [List.foldl_append, ← h, h', he]

/-! ### The effect of an operation at one segment -/

/-- From `s` to `t` the record of segment `g` became `x` and the free list `free`, with these notices posted in one epoch and
tick; the other segments' records stand. -/
structure MovesTo (g : SegNo) (x : Tracking) (free : Nat) (notes : List (NoticeKind × Nat × Nat)) (s t : State) : Prop where
  track : t.track g = x
  others : KeepsOtherTracks g s t
  free : t.itu.free = free
  posts : Posts notes s t
  etm : t.etm = s.etm

theorem MovesTo.trans {g : SegNo} {x y : Tracking} {n k : Nat} {before after : List (NoticeKind × Nat × Nat)}
    {s t u : State} (h : MovesTo g x n before s t) (h' : MovesTo g y k after t u) :
    MovesTo g y k (before ++ after) s u :=
  ⟨h'.track, fun j hj => (h'.others j hj).trans (h.others j hj), h'.free, h.posts.trans h.etm h'.posts,
    h'.etm.trans h.etm⟩

section

variable (s : State)

theorem State.setTrack_movesTo (g : SegNo) (x : Tracking) : MovesTo g x s.itu.free [] s (s.setTrack g x) :=
  ⟨s.track_setTrack_self g x, fun _ hj => s.track_setTrack_ne hj x, rfl, rfl, rfl⟩

theorem State.giveFree_movesTo (g : SegNo) (n : Nat) : MovesTo g (s.track g) (s.itu.free + n) [] s (s.giveFree n) :=
  ⟨rfl, fun _ _ => rfl, rfl, rfl, rfl⟩

theorem State.takeFree_movesTo (g : SegNo) : MovesTo g (s.track g) (s.itu.free - 1) [] s s.takeFree :=
  ⟨rfl, fun _ _ => rfl, rfl, rfl, rfl⟩

theorem State.post_movesTo (g : SegNo) (k : NoticeKind) (x v : Nat) :
    MovesTo g (s.track g) s.itu.free [(k, x, v)] s (s.post k x v) :=
  ⟨rfl, fun _ _ => rfl, rfl, rfl, rfl⟩

/-- Both lists go to the free list (R42). -/
theorem State.flush_movesTo (g : SegNo) :
    MovesTo g { s.track g with arrival := [], transit := [] } (s.itu.free + (s.track g).count) [] s (s.flush g) := by
  have h := (s.setTrack_movesTo g { s.track g with arrival := [], transit := [] }).trans
    (State.giveFree_movesTo _ g (s.track g).count)
  rwa [State.track_setTrack_self] at h

theorem State.resync_movesTo (g : SegNo) :
    MovesTo g
      { s.track g with
        arrival := [], transit := [], resync := true, errors := 0, resyncs := min ((s.track g).resyncs + 1) 65535 }
      (s.itu.free + (s.track g).count) [(.trackResync, g.val, (s.track g).count)] s (s.resync g) := by
  have hFlush := s.flush_movesTo g
  have h := (hFlush.trans (State.setTrack_movesTo (s.flush g) g
    { (s.flush g).track g with resync := true, errors := 0, resyncs := bump16 (s.track g).resyncs })).trans
      (State.post_movesTo _ g .trackResync g.val (s.track g).count)
  rw [State.track_setTrack_self, State.free_setTrack, hFlush.track, hFlush.free] at h
  rw [State.resync, hFlush.track]
  exact h

/-- A tracking error counts, resyncs at the threshold, and does nothing while RESYNC is set (R59, R60). -/
theorem State.trackingError_movesTo (g : SegNo) (d : SegDef) :
    MovesTo g ((s.track g).erred d.resyncThreshold) (s.itu.free + (s.track g).flushedAt d.resyncThreshold)
      ((s.track g).resyncNotes g d.resyncThreshold) s (s.trackingError g d) := by
  unfold State.trackingError Tracking.erred Tracking.flushedAt Tracking.resyncNotes Tracking.resyncsAt
  by_cases hr : (s.track g).resync = true
  · simp only [hr, Bool.not_true, Bool.false_and, Bool.false_eq_true, if_true, if_false]
    exact ⟨rfl, fun _ _ => rfl, rfl, rfl, rfl⟩
  · by_cases he : (s.track g).errors + 1 = d.resyncThreshold
    · simpa [hr, he] using s.resync_movesTo g
    · simpa [hr, he] using s.setTrack_movesTo g { s.track g with errors := (s.track g).errors + 1 }

theorem State.dropItem_movesTo (g : SegNo) (cause : Nat) :
    MovesTo g { s.track g with dropped := min ((s.track g).dropped + 1) 65535 } s.itu.free
      [(.trackOverflow, g.val, cause)] s (s.dropItem g cause) := by
  have h := (s.setTrack_movesTo g { s.track g with dropped := bump16 (s.track g).dropped }).trans
    (State.post_movesTo _ g .trackOverflow g.val cause)
  rwa [State.track_setTrack_self] at h

end

end Sys2Proof.Machine
end

section
/-! SUPPORT. Entries and exits of items (R45 to R51): what an entry event, a clean exit and an exit event do. -/

namespace Sys2Proof.Machine

section

variable (s : State)

/-! ### Entries (R45 to R47) -/

theorem State.enterAnnounced_of_room {g : SegNo} (h : (s.track g).transit.length < 64) (item : Item) (rest : List Item) :
    MovesTo g { s.track g with arrival := rest, transit := (s.track g).transit ++ [{ item with travel := 0 }] } s.itu.free []
      s (s.enterAnnounced g item rest) := by
  have e : s.enterAnnounced g item rest = _ := if_pos h
  rw [e]
  exact s.setTrack_movesTo g _

theorem State.enterAnnounced_of_full {g : SegNo} (h : 64 ≤ (s.track g).transit.length) (item : Item) (rest : List Item) :
    MovesTo g { s.track g with arrival := rest, dropped := min ((s.track g).dropped + 1) 65535 } (s.itu.free + 1)
      [(.trackOverflow, g.val, 1)] s (s.enterAnnounced g item rest) := by
  have e : s.enterAnnounced g item rest = _ := if_neg (Nat.not_lt.2 h)
  rw [e]
  have hGive := (s.setTrack_movesTo g { s.track g with arrival := rest }).trans (State.giveFree_movesTo _ g 1)
  have hDrop := hGive.trans (State.dropItem_movesTo _ g 1)
  rwa [State.track_giveFree, State.free_giveFree, State.track_setTrack_self] at hDrop

/-- The record of a segment whose unannounced entry is counted, its tracking error not yet (R46). -/
def Tracking.countEntry (t : Tracking) : Tracking := { t with unannounced := min (t.unannounced + 1) 65535 }

/-- The state in which an unannounced entry's item looks for its place: the entry and its tracking error are counted (R46). -/
def State.countEntry (s : State) (g : SegNo) (d : SegDef) : State :=
  (s.setTrack g (s.track g).countEntry).trackingError g d

theorem State.countEntry_movesTo (g : SegNo) (d : SegDef) :
    MovesTo g ((s.track g).countEntry.erred d.resyncThreshold)
      (s.itu.free + (s.track g).countEntry.flushedAt d.resyncThreshold)
      ((s.track g).countEntry.resyncNotes g d.resyncThreshold) s (s.countEntry g d) := by
  have h := (s.setTrack_movesTo g (s.track g).countEntry).trans (State.trackingError_movesTo _ g d)
  rwa [State.track_setTrack_self] at h

theorem State.enterUnannounced_of_room {g : SegNo} {d : SegDef}
    (h : ((s.countEntry g d).track g).transit.length < 64) (hf : 0 < (s.countEntry g d).itu.free) :
    MovesTo g
      { (s.countEntry g d).track g with transit := ((s.countEntry g d).track g).transit ++ [unknownItem d] }
      ((s.countEntry g d).itu.free - 1) [] (s.countEntry g d) (s.enterUnannounced g d) := by
  have e : s.enterUnannounced g d = (s.countEntry g d).takeFree.setTrack g
      { (s.countEntry g d).track g with transit := ((s.countEntry g d).track g).transit ++ [unknownItem d] } :=
    (if_pos h).trans (if_pos hf)
  rw [e]
  exact ((s.countEntry g d).takeFree_movesTo g).trans (State.setTrack_movesTo (s.countEntry g d).takeFree g _)

theorem State.enterUnannounced_of_noFree {g : SegNo} {d : SegDef}
    (h : ((s.countEntry g d).track g).transit.length < 64) (hf : (s.countEntry g d).itu.free = 0) :
    s.enterUnannounced g d = (s.countEntry g d).dropItem g 2 :=
  (if_pos h).trans (if_neg (Nat.not_lt.2 hf.le))

theorem State.enterUnannounced_of_full {g : SegNo} {d : SegDef}
    (h : 64 ≤ ((s.countEntry g d).track g).transit.length) :
    s.enterUnannounced g d = (s.countEntry g d).dropItem g 1 :=
  if_neg (Nat.not_lt.2 h)

theorem State.entryEvent_of_arrival {g : SegNo} {item : Item} {rest : List Item} (h : (s.track g).arrival = item :: rest)
    (d : SegDef) : s.entryEvent g d = s.enterAnnounced g item rest := by
  simp only [State.entryEvent, h]

theorem State.entryEvent_of_noArrival {g : SegNo} (h : (s.track g).arrival = []) (d : SegDef) :
    s.entryEvent g d = s.enterUnannounced g d := by
  simp only [State.entryEvent, h]

/-- An entry event moves records and notices of its own segment alone. -/
theorem State.entryEvent_movesTo (g : SegNo) (d : SegDef) : ∃ x n notes, MovesTo g x n notes s (s.entryEvent g d) := by
  cases ha : (s.track g).arrival with
  | cons item rest =>
    rw [s.entryEvent_of_arrival ha]
    by_cases ht : (s.track g).transit.length < 64
    · exact ⟨_, _, _, s.enterAnnounced_of_room ht item rest⟩
    · exact ⟨_, _, _, s.enterAnnounced_of_full (Nat.le_of_not_lt ht) item rest⟩
  | nil =>
    have hc := s.countEntry_movesTo g d
    rw [s.entryEvent_of_noArrival ha]
    by_cases ht : ((s.countEntry g d).track g).transit.length < 64
    · by_cases hf : 0 < (s.countEntry g d).itu.free
      · exact ⟨_, _, _, hc.trans (s.enterUnannounced_of_room ht hf)⟩
      · rw [s.enterUnannounced_of_noFree ht (Nat.eq_zero_of_not_pos hf)]
        exact ⟨_, _, _, hc.trans (State.dropItem_movesTo _ g 2)⟩
    · rw [s.enterUnannounced_of_full (Nat.le_of_not_lt ht)]
      exact ⟨_, _, _, hc.trans (State.dropItem_movesTo _ g 1)⟩

/-- An entry event is what `ItemEnters` says (R45 to R47). -/
theorem State.entryEvent_itemEnters (g : SegNo) (d : SegDef) : ItemEnters g d s (s.entryEvent g d) := by
  obtain ⟨_, _, _, hMove⟩ := s.entryEvent_movesTo g d
  have hc := s.countEntry_movesTo g d
  refine ⟨hMove.others, fun item rest ha ht => ?_, fun item rest ha ht => ?_, fun ha ht hf => ?_, fun ha ht hf => ?_,
    fun ha ht => ?_⟩
  · rw [s.entryEvent_of_arrival ha]
    have h := s.enterAnnounced_of_room ht item rest
    exact ⟨h.track, h.free, h.posts⟩
  · rw [s.entryEvent_of_arrival ha]
    have h := s.enterAnnounced_of_full ht item rest
    exact ⟨h.track, h.free, h.posts⟩
  · rw [s.entryEvent_of_noArrival ha]
    have h := hc.trans (s.enterUnannounced_of_room (hc.track ▸ ht) (hc.free ▸ hf))
    rw [hc.track, hc.free, List.append_nil] at h
    exact ⟨h.track, h.free, h.posts⟩
  · rw [s.entryEvent_of_noArrival ha, s.enterUnannounced_of_noFree (hc.track ▸ ht) (hc.free ▸ hf)]
    have h := hc.trans (State.dropItem_movesTo _ g 2)
    rw [hc.track] at h
    exact ⟨h.track, h.free.trans (hc.free.trans hf), h.posts⟩
  · rw [s.entryEvent_of_noArrival ha, s.enterUnannounced_of_full (hc.track ▸ ht)]
    have h := hc.trans (State.dropItem_movesTo _ g 1)
    rw [hc.track] at h
    exact ⟨h.track, h.free.trans hc.free, h.posts⟩

/-! ### Clean exits (R49 to R51) -/

theorem State.takesItems_iff (b : SegNo) : s.takesItems b = true ↔ Takes s b := by
  unfold State.takesItems Takes
  cases s.defn b <;> simp

/-- An item without a successor that takes items is delivered (R51). -/
theorem State.handOnItem_delivers {g : SegNo} {d : SegDef} {item : Item}
    (h : ∀ b, (chooseSuccessor d item.route).1 = some b → ¬ Takes s b) :
    MovesTo g { s.track g with delivered := min ((s.track g).delivered + 1) 65535 } (s.itu.free + 1) []
      s (s.handOnItem g d item) := by
  have hNone : (chooseSuccessor d item.route).1.filter s.takesItems = none :=
    Option.filter_eq_none_iff.2 fun b hb ht => h b hb ((s.takesItems_iff b).1 ht)
  have e : s.handOnItem g d item
      = (s.setTrack g { s.track g with delivered := bump16 (s.track g).delivered }).giveFree 1 := by
    simp only [State.handOnItem, hNone]
  have hMove := (s.setTrack_movesTo g { s.track g with delivered := bump16 (s.track g).delivered }).trans
    (State.giveFree_movesTo _ g 1)
  rw [State.track_setTrack_self] at hMove
  rw [e]
  exact hMove

/-- One with a successor that takes items is handed on to its arrival list, or dropped when that is full (R51). -/
theorem State.handOnItem_of_takes {b : SegNo} {d : SegDef} {item : Item}
    (hb : (chooseSuccessor d item.route).1 = some b) (h : Takes s b) (g : SegNo) :
    s.handOnItem g d item =
      if (s.track b).arrival.length < 32 then
        s.setTrack b { s.track b with
          arrival := (s.track b).arrival ++ [{ item with route := (chooseSuccessor d item.route).2, travel := 0 }] }
      else (s.giveFree 1).dropItem g 3 := by
  have hSome : (chooseSuccessor d item.route).1.filter s.takesItems = some b :=
    Option.filter_eq_some_iff.2 ⟨hb, (s.takesItems_iff b).2 h⟩
  simp only [State.handOnItem, hSome]
  rfl

theorem State.dropAtSuccessor_movesTo (g : SegNo) :
    MovesTo g { s.track g with dropped := min ((s.track g).dropped + 1) 65535 } (s.itu.free + 1)
      [(.trackOverflow, g.val, 3)] s ((s.giveFree 1).dropItem g 3) :=
  (s.giveFree_movesTo g 1).trans (State.dropItem_movesTo (s.giveFree 1) g 3)

/-- What handing an item on can do: it is delivered, or dropped, and its entry freed, or it joins an arrival list with room
(R51). -/
theorem State.handOnItem_cases (g : SegNo) (d : SegDef) (item : Item) :
    MovesTo g { s.track g with delivered := min ((s.track g).delivered + 1) 65535 } (s.itu.free + 1) []
        s (s.handOnItem g d item)
      ∨ MovesTo g { s.track g with dropped := min ((s.track g).dropped + 1) 65535 } (s.itu.free + 1)
        [(.trackOverflow, g.val, 3)] s (s.handOnItem g d item)
      ∨ ∃ b i, (s.track b).arrival.length < 32
        ∧ s.handOnItem g d item = s.setTrack b { s.track b with arrival := (s.track b).arrival ++ [i] } := by
  by_cases h : ∃ b, (chooseSuccessor d item.route).1 = some b ∧ Takes s b
  · obtain ⟨b, hb, ht⟩ := h
    rw [s.handOnItem_of_takes hb ht]
    by_cases hRoom : (s.track b).arrival.length < 32
    · rw [if_pos hRoom]
      exact .inr (.inr ⟨b, _, hRoom, rfl⟩)
    · rw [if_neg hRoom]
      exact .inr (.inl (s.dropAtSuccessor_movesTo g))
  · exact .inl (s.handOnItem_delivers fun b hb ht => h ⟨b, hb, ht⟩)

theorem State.cleanExit_eq (g : SegNo) (d : SegDef) (item : Item) (rest : List Item) :
    s.cleanExit g d item rest = (s.setTrack g ((s.track g).left rest)).handOnItem g d item := rfl

/-- A clean exit is what `Departs` says (R49 to R51). -/
theorem State.cleanExit_departs (g : SegNo) (d : SegDef) (item : Item) (rest : List Item) :
    Departs g d item rest s (s.cleanExit g d item rest) := by
  have hLeave := s.setTrack_movesTo g ((s.track g).left rest)
  rw [s.cleanExit_eq]
  refine ⟨fun h => ?_, fun b hb hTakes hne => ?_⟩
  · have hMove := hLeave.trans (State.handOnItem_delivers _ (g := g) h)
    rw [State.track_setTrack_self] at hMove
    exact ⟨hMove.track, hMove.others, hMove.free, hMove.posts⟩
  · rw [State.handOnItem_of_takes (s.setTrack g _) hb hTakes, s.track_setTrack_ne hne]
    refine ⟨fun hRoom => ?_, fun hFull => ?_⟩
    · rw [if_pos hRoom]
      refine ⟨?_, State.track_setTrack_self _ b _, fun j hg hjb => ?_, rfl, rfl⟩
      · rw [State.track_setTrack_ne _ hne.symm, State.track_setTrack_self]
      · rw [State.track_setTrack_ne _ hjb, State.track_setTrack_ne _ hg]
    · rw [if_neg (Nat.not_lt.2 hFull)]
      have hMove := hLeave.trans (State.dropAtSuccessor_movesTo _ g)
      rw [State.track_setTrack_self] at hMove
      exact ⟨hMove.track, hMove.others, hMove.free, hMove.posts⟩

/-! ### Exit events (R48, R49) -/

theorem State.exitEvent_of_transit {g : SegNo} {item : Item} {rest : List Item} (h : (s.track g).transit = item :: rest)
    (d : SegDef) : s.exitEvent g d = s.cleanExit g d item rest := by
  simp only [State.exitEvent, h]

theorem State.exitEvent_of_empty {g : SegNo} (h : (s.track g).transit = []) (d : SegDef) :
    s.exitEvent g d
      = (s.setTrack g { s.track g with phantom := bump16 (s.track g).phantom }).trackingError g d := by
  simp only [State.exitEvent, h]

/-- An exit event is what `ItemExits` says (R48, R49). -/
theorem State.exitEvent_itemExits (g : SegNo) (d : SegDef) : ItemExits g d s (s.exitEvent g d) := by
  refine ⟨fun h => ?_, fun item rest h => ?_⟩
  · rw [s.exitEvent_of_empty h]
    have hMove := (s.setTrack_movesTo g { s.track g with phantom := bump16 (s.track g).phantom }).trans
      (State.trackingError_movesTo _ g d)
    rw [State.track_setTrack_self] at hMove
    exact ⟨hMove.track, hMove.others, hMove.free, hMove.posts⟩
  · rw [s.exitEvent_of_transit h]
    exact s.cleanExit_departs g d item rest

end

end Sys2Proof.Machine
end

section
/-! SUPPORT. ITEM_ANNOUNCE and the gate events (R43 to R53): O18 to O22. -/

namespace Sys2Proof.Machine

/-! ### O19 -/

/-- Settles O19, by the front of the route. -/
theorem successorChosen : Obligations.SuccessorChosen := by
  unfold Obligations.SuccessorChosen
  refine fun d route => ⟨fun a v hs hd => ⟨fun rest h => ?_, fun rest h => ?_, fun h => ?_⟩, fun a hs hd => ?_,
    fun hs _ => ?_⟩
  · simp only [chooseSuccessor, hs, hd, h]
  · simp only [chooseSuccessor, hs, hd, h]
  · simp only [chooseSuccessor, hs, hd, h]
  · simp only [chooseSuccessor, hs, hd]
  · simp only [chooseSuccessor, hs]

section

variable (s : State)

/-! ### O18 -/

theorem State.announceTarget_eq_some {segment : Byte} {g : SegNo} (hg : segment.toNat = g.val) (h : Takes s g) :
    s.announceTarget segment = some g := by
  rw [State.announceTarget, segmentOf_eq_some.2 hg]
  exact Option.filter_eq_some_iff.2 ⟨rfl, (s.takesItems_iff g).2 h⟩

theorem State.announceTarget_eq_none {segment : Byte} (h : ∀ g : SegNo, segment.toNat = g.val → ¬ Takes s g) :
    s.announceTarget segment = none :=
  Option.filter_eq_none_iff.2 fun g hg ht => h g (segmentOf_eq_some.1 hg) ((s.takesItems_iff g).1 ht)

variable (segment : Byte) (tag mass : BitVec 16) (routeLength : Byte) (route : BitVec 16)

theorem exec_itemAnnounce_badValue
    (h : (∀ g : SegNo, segment.toNat = g.val → ¬ Takes s g) ∨ 12 < routeLength.toNat) :
    exec (.itemAnnounce segment tag mass routeLength route) s = .next (s.answer .itemAnnounce .badValue []) := by
  show execItemAnnounce segment tag mass routeLength route s = _
  unfold execItemAnnounce
  obtain h | h := h
  · rw [s.announceTarget_eq_none h]
  · split
    · rfl
    · rw [if_pos h]

variable {segment routeLength} {g : SegNo}

theorem exec_itemAnnounce_noRoom (hg : segment.toNat = g.val) (ht : Takes s g) (hr : routeLength.toNat ≤ 12)
    (h : 32 ≤ (s.track g).arrival.length ∨ s.itu.free = 0) :
    exec (.itemAnnounce segment tag mass routeLength route) s = .next (s.answer .itemAnnounce .noRoom []) := by
  show execItemAnnounce segment tag mass routeLength route s = _
  unfold execItemAnnounce
  rw [s.announceTarget_eq_some hg ht]
  exact (if_neg (Nat.not_lt.2 hr)).trans (if_pos h)

/-- `s` with an announced item at the tail of segment `g`'s arrival list, taken from the free list (R44). -/
def State.announced (s : State) (g : SegNo) (item : Item) : State :=
  s.takeFree.setTrack g { s.track g with arrival := (s.track g).arrival ++ [item] }

theorem State.announced_movesTo (g : SegNo) (item : Item) :
    MovesTo g { s.track g with arrival := (s.track g).arrival ++ [item] } (s.itu.free - 1) [] s (s.announced g item) :=
  (s.takeFree_movesTo g).trans (State.setTrack_movesTo s.takeFree g _)

theorem exec_itemAnnounce_ok (hg : segment.toNat = g.val) (ht : Takes s g) (hr : routeLength.toNat ≤ 12)
    (ha : (s.track g).arrival.length < 32) (hf : 0 < s.itu.free) :
    exec (.itemAnnounce segment tag mass routeLength route) s =
      .next ((s.announced g (announcedItem tag mass routeLength route)).answer .itemAnnounce .ok
        (be 1 ((s.track g).arrival.length + 1) ++ be 2 (s.itu.free - 1))) := by
  have hMove := s.announced_movesTo g (announcedItem tag mass routeLength route)
  have hLength : ((s.announced g (announcedItem tag mass routeLength route)).track g).arrival.length
      = (s.track g).arrival.length + 1 := by rw [hMove.track, List.length_append, List.length_singleton]
  have hRoom : ¬ (Config.arrivalCapacity ≤ (s.track g).arrival.length ∨ s.itu.free = 0) :=
    not_or.2 ⟨Nat.not_le.2 ha, hf.ne'⟩
  show execItemAnnounce segment tag mass routeLength route s = _
  unfold execItemAnnounce
  rw [s.announceTarget_eq_some hg ht, ← hLength, ← hMove.free]
  exact (if_neg (Nat.not_lt.2 hr)).trans (if_neg hRoom)

end

/-- Settles O18: each check by its own answer, then the item appended. -/
theorem itemAnnounceRule : Obligations.ItemAnnounceRule := by
  unfold Obligations.ItemAnnounceRule
  intro segment tag mass routeLength route s i
  refine ⟨fun h => ?_, fun g hg ht hr => ⟨fun h => ?_, fun ha hf => ?_⟩⟩
  · exact ⟨_, exec_itemAnnounce_badValue s segment tag mass routeLength route h, refuses_answer s .itemAnnounce .badValue []⟩
  · exact ⟨_, exec_itemAnnounce_noRoom s tag mass route hg ht hr h, refuses_answer s .itemAnnounce .noRoom []⟩
  · let u := s.announced g (announcedItem tag mass routeLength route)
    have hMove := s.announced_movesTo g (announcedItem tag mass routeLength route)
    have hKeeps : KeepsAllBut [.itu] s u := by simp [u, State.announced, keepsAllBut_iff]
    exact ⟨_, exec_itemAnnounce_ok s tag mass route hg ht hr ha hf,
      answers_of_keeps s (k := .itemAnnounce) hKeeps rfl rfl, hMove.free, hMove.others, hMove.track⟩

section

variable (s : State)

/-! ### The gate event of a line (R4, R52, R53) -/

theorem State.flipLine_keeps (l : LineNo) : KeepsAllBut [.siu] s (s.flipLine l) := by
  simp [State.flipLine, keepsAllBut_iff]

/-- The ACTIVE edge of a gate line is a gate event (R3). -/
theorem State.acceptTransition_of_gate {l : LineNo} (h : ReadyToRise s l .gate) :
    s.acceptTransition l = (s.flipLine l).gateEvent l := by
  have hrole : ((s.flipLine l).line l).role = .gate := by rw [s.line_flipLine_self, h.1]
  have hlevel : (s.line l).level.flip = .active := by rw [h.2]; rfl
  rw [s.acceptTransition_eq, hlevel]
  simp only [State.lineEvent, hrole]

theorem State.segmentWithGate_eq_some {gate : SegDef → Option LineNo} {l : LineNo} {g : SegNo} {d : SegDef}
    (hd : s.defn g = some d) (hg : gate d = some l) (h : ∀ j e, s.defn j = some e → gate e = some l → j = g) :
    s.segmentWithGate gate l = some g := by
  unfold State.segmentWithGate allSegments
  rw [find?_finRange_eq_some]
  refine ⟨by simp [hd, hg], fun j hj => ?_⟩
  cases he : s.defn j with
  | none => simp [he] at hj
  | some e => exact (h j e he (by simpa [he] using hj)).ge

theorem State.segmentWithGate_eq_none {gate : SegDef → Option LineNo} {l : LineNo}
    (h : ∀ j e, s.defn j = some e → gate e ≠ some l) : s.segmentWithGate gate l = none := by
  unfold State.segmentWithGate allSegments
  rw [find?_finRange_eq_none]
  intro j
  cases he : s.defn j with
  | none => rfl
  | some e => simpa using h j e he

theorem State.defn_of_segmentWithGate {gate : SegDef → Option LineNo} {l : LineNo} {g : SegNo}
    (h : s.segmentWithGate gate l = some g) : ∃ d, s.defn g = some d ∧ gate d = some l := by
  have ht := List.find?_some h
  cases hd : s.defn g with
  | none => simp [hd] at ht
  | some d => exact ⟨d, rfl, by simpa [hd] using ht⟩

theorem State.gateEvent_of_setup {l : LineNo} (h : s.rqd.mode = .setup) : s.gateEvent l = s := by
  simp only [State.gateEvent, h]

/-- In COUNTING the exit, where the line is an exit gate, comes before the entry, where it is an entry gate (R52). -/
theorem State.gateEvent_of_counting {l : LineNo} (h : s.rqd.mode = .counting) :
    let m := (s.segmentWithGate (·.exitGate) l).elim s s.exitHalf
    s.gateEvent l = (s.segmentWithGate (·.entryGate) l).elim m m.entryHalf := by
  simp only [State.gateEvent, h]
  cases s.segmentWithGate (·.exitGate) l <;> cases s.segmentWithGate (·.entryGate) l <;> rfl

theorem State.exitHalf_of_tracked {g : SegNo} {d : SegDef} (hd : s.defn g = some d) (h : d.entryGate.isSome = true) :
    s.exitHalf g = s.exitEvent g d := by
  simp only [State.exitHalf, hd, if_pos h]

theorem State.exitHalf_of_untracked {g : SegNo} {d : SegDef} (hd : s.defn g = some d) (h : d.entryGate = none) :
    s.exitHalf g = s := by
  simp [State.exitHalf, hd, h]

theorem State.entryHalf_of_defn {g : SegNo} {d : SegDef} (hd : s.defn g = some d) :
    s.entryHalf g = s.entryEvent g d := by
  simp only [State.entryHalf, hd]

/-- A gate event at the ACTIVE edge leaves all but the SIU, the ITU and the NQ alone, and in SETUP all but the SIU (R53). -/
theorem exec_gate_keeps {l : LineNo} (h : ReadyToRise s l .gate) :
    let t := (s.flipLine l).gateEvent l
    exec (.acceptedTransition l) s = .next t ∧ KeepsAllBut [.siu, .itu, .nq] s t
      ∧ (s.rqd.mode = .setup → KeepsAllBut [.siu] s t) := by
  refine ⟨congrArg Host.Outcome.next (s.acceptTransition_of_gate h), ?_, fun hm => ?_⟩
  · exact ((s.flipLine_keeps l).mono (by decide)).trans (((s.flipLine l).gateEvent_keeps l).mono (by decide))
  · rw [State.gateEvent_of_setup (s.flipLine l) hm]
    exact s.flipLine_keeps l

theorem State.gateEvent_of_entersOnly {l : LineNo} {g : SegNo} {d : SegDef} (h : EntersOnly s l g d)
    (hm : s.rqd.mode = .counting) : s.gateEvent l = s.entryEvent g d := by
  obtain ⟨hd, hl, hOnly⟩ := h
  rw [s.gateEvent_of_counting hm, s.segmentWithGate_eq_none fun j e he => (hOnly j e he).2,
    s.segmentWithGate_eq_some hd hl fun j e he => (hOnly j e he).1]
  exact s.entryHalf_of_defn hd

theorem State.gateEvent_of_exitsOnly {l : LineNo} {g : SegNo} {d : SegDef} (h : ExitsOnly s l g d)
    (hm : s.rqd.mode = .counting) : s.gateEvent l = s.exitEvent g d := by
  obtain ⟨hd, hl, hTracked, hOnly⟩ := h
  rw [s.gateEvent_of_counting hm, s.segmentWithGate_eq_none fun j e he => (hOnly j e he).2,
    s.segmentWithGate_eq_some hd hl fun j e he => (hOnly j e he).1]
  exact s.exitHalf_of_tracked hd hTracked

/-- At a transfer gate the event is the exit half at the one segment, then the entry at the other (R52). -/
theorem State.gateEvent_of_transfers {l : LineNo} {a b : SegNo} {da db : SegDef} (h : Transfers s l a b da db)
    (hm : s.rqd.mode = .counting) : s.gateEvent l = (s.exitHalf a).entryEvent b db := by
  obtain ⟨-, hda, hla, hdb, hlb, hOnly⟩ := h
  rw [s.gateEvent_of_counting hm, s.segmentWithGate_eq_some hda hla fun j e he => (hOnly j e he).1,
    s.segmentWithGate_eq_some hdb hlb fun j e he => (hOnly j e he).2]
  exact (s.exitHalf a).entryHalf_of_defn ((s.defn_exitHalf a b).trans hdb)

/-- A line that is no entry gate, and an exit gate of untracked segments alone, has no gate event (R43). -/
theorem State.gateEvent_of_untracked {l : LineNo} (hm : s.rqd.mode = .counting)
    (h : ∀ j e, s.defn j = some e → (e.exitGate = some l → e.entryGate = none) ∧ e.entryGate ≠ some l) :
    s.gateEvent l = s := by
  rw [s.gateEvent_of_counting hm, s.segmentWithGate_eq_none fun j e he => (h j e he).2]
  show (s.segmentWithGate (·.exitGate) l).elim s s.exitHalf = s
  cases hg : s.segmentWithGate (·.exitGate) l with
  | none => rfl
  | some g =>
    obtain ⟨d, hd, hl⟩ := s.defn_of_segmentWithGate hg
    exact s.exitHalf_of_untracked hd ((h g d hd).1 hl)

end

/-! ### O20 and O21 -/

/-- Settles O20: in COUNTING the event is the entry event of its one segment. -/
theorem entriesAreTracked : Obligations.EntriesAreTracked := by
  unfold Obligations.EntriesAreTracked
  intro l g d s hReady hOnly a e u freed notes
  obtain ⟨hExec, hKeeps, hSetup⟩ := exec_gate_keeps s hReady
  refine ⟨_, hExec, hKeeps, hSetup, fun hm => ?_⟩
  rw [(s.flipLine l).gateEvent_of_entersOnly (d := d) hOnly hm]
  exact (s.flipLine l).entryEvent_itemEnters g d

/-- Settles O21: in COUNTING the event is the exit event of its one segment. -/
theorem exitsAreTracked : Obligations.ExitsAreTracked := by
  unfold Obligations.ExitsAreTracked
  intro l g d s hReady hOnly a p
  obtain ⟨hExec, hKeeps, hSetup⟩ := exec_gate_keeps s hReady
  have hExits : s.rqd.mode = .counting → ItemExits g d s ((s.flipLine l).gateEvent l) := fun hm => by
    rw [(s.flipLine l).gateEvent_of_exitsOnly (d := d) hOnly hm]
    exact (s.flipLine l).exitEvent_itemExits g d
  exact ⟨_, hExec, hKeeps, hSetup, fun hm => (hExits hm).1, fun hm => (hExits hm).2⟩

/-! ### O22 -/

/-- A transfer at the ACTIVE edge: the exit of the one segment, where it is tracked, and the entry of the other (R52). -/
theorem transfer_exits_then_enters {l : LineNo} {a b : SegNo} {da db : SegDef} {s : State} (hReady : ReadyToRise s l .gate)
    (h : Transfers s l a b da db) (hm : s.rqd.mode = .counting) :
    ∃ m t, exec (.acceptedTransition l) s = .next t ∧ KeepsAllBut [.siu, .itu, .nq] s m
      ∧ KeepsAllBut [.siu, .itu, .nq] s t
      ∧ (da.entryGate = none → m.itu = s.itu ∧ m.nq = s.nq)
      ∧ (da.entryGate.isSome → ItemExits a da s m)
      ∧ ItemEnters b db m t := by
  let u := s.flipLine l
  obtain ⟨hExec, hKeeps, -⟩ := exec_gate_keeps s hReady
  have hda : u.defn a = some da := h.2.1
  have hMid : KeepsAllBut [.siu, .itu, .nq] s (u.exitHalf a) :=
    ((s.flipLine_keeps l).mono (by decide)).trans ((u.exitHalf_keeps a).mono (by decide))
  refine ⟨u.exitHalf a, _, hExec, hMid, hKeeps, fun hNone => ?_, fun hSome => ?_, ?_⟩
  · rw [u.exitHalf_of_untracked hda hNone]
    exact ⟨rfl, rfl⟩
  · rw [u.exitHalf_of_tracked hda hSome]
    exact u.exitEvent_itemExits a da
  · rw [u.gateEvent_of_transfers (a := a) (da := da) h hm]
    exact (u.exitHalf a).entryEvent_itemEnters b db

/-- The item that an entry event takes from an arrival list goes to the transit list's tail, and nothing is posted (R45). -/
theorem ItemEnters.of_arrival {b : SegNo} {db : SegDef} {m t : State} (h : ItemEnters b db m t)
    (hRoom : (m.track b).transit.length < 64) {x : Item} {xs : List Item} (hx : (m.track b).arrival = x :: xs) :
    KeepsOtherTracks b m t
      ∧ t.track b = { m.track b with arrival := xs, transit := (m.track b).transit ++ [{ x with travel := 0 }] }
      ∧ t.itu.free = m.itu.free ∧ Posts [] m t :=
  ⟨h.1, h.2.1 x xs hx hRoom⟩

/-- Settles O22: the event is an exit and then an entry (`transfer_exits_then_enters`); what the exit leaves decides which item
enters. -/
theorem transfersExitFirst : Obligations.TransfersExitFirst := by
  unfold Obligations.TransfersExitFirst
  refine ⟨fun l a b da db s hReady hTransfers hm hRoom => ?_, fun l a b da db s hReady hTransfers hm => ?_,
    fun l s hReady hNot => ?_⟩
  · obtain ⟨m, t, hExec, hKeepsM, hKeeps, hUntracked, hExits, hEnters⟩ := transfer_exits_then_enters hReady hTransfers hm
    obtain ⟨hab, -, -, hdb, hlb, -⟩ := hTransfers
    have hEtm : m.etm = s.etm := hKeepsM.1 .etm (by decide)
    refine ⟨t, hExec, hKeeps, fun hNone x xs hx => ?_, fun hSome hEmpty x xs hx => ?_,
      fun hSome item rest hHead hArrival route hRoute => ?_⟩
    · obtain ⟨hItu, hNq⟩ := hUntracked hNone
      have hTrack : ∀ j, m.track j = s.track j := fun j => by simp only [State.track, hItu]
      obtain ⟨hOthers, hSelf, hFree, hPosts⟩ := hEnters.of_arrival (hTrack b ▸ hRoom) ((hTrack b).symm ▸ hx)
      rw [hTrack b] at hSelf
      exact ⟨fun j hj => (hOthers j hj).trans (hTrack j), by rw [hFree, hItu], (Posts.of_eq hNq).trans hEtm hPosts, hSelf⟩
    · obtain ⟨hPhantom, hOtherTracks, -, hNotes⟩ := (hExits hSome).1 hEmpty
      have hTrack : m.track b = s.track b := hOtherTracks b hab.symm
      obtain ⟨hOthers, hSelf, -, hPosts⟩ := hEnters.of_arrival (hTrack ▸ hRoom) (hTrack.symm ▸ hx)
      rw [hTrack] at hSelf
      have hAll := hNotes.trans hEtm hPosts
      rw [List.append_nil] at hAll
      exact ⟨fun j hja hjb => (hOthers j hjb).trans (hOtherTracks j hja), (hOthers a hab).trans hPhantom, hAll, hSelf⟩
    · have hTakes : Takes s b := ⟨db, hdb, by rw [hlb]; rfl⟩
      have hDeparts := ((hExits hSome).2 item rest hHead).2 b (by rw [hRoute]) hTakes hab.symm
      obtain ⟨hLeft, hArrives, hOtherTracks, hFreeM, hPostsM⟩ := hDeparts.1 hArrival
      rw [hRoute] at hArrives
      have hRoomM : (m.track b).transit.length < 64 := by rw [hArrives]; exact hRoom
      refine ⟨fun j hja hjb => (hEnters.1 j hjb).trans (hOtherTracks j hja hjb), (hEnters.1 a hab).trans hLeft, ?_⟩
      cases hq : (s.track b).arrival with
      | nil =>
        have hx : (m.track b).arrival = { item with route := route, travel := 0 } :: [] := by rw [hArrives, hq]; rfl
        obtain ⟨-, hSelf, hFree, hPosts⟩ := hEnters.of_arrival hRoomM hx
        refine ⟨hFree.trans hFreeM, hPostsM.trans hEtm hPosts, fun _ => ?_, fun x xs h => absurd h (by simp)⟩
        rw [hSelf, hArrives, ← hq]
      | cons y ys =>
        have hx : (m.track b).arrival = y :: (ys ++ [{ item with route := route, travel := 0 }]) := by
          rw [hArrives, hq]; rfl
        obtain ⟨-, hSelf, hFree, hPosts⟩ := hEnters.of_arrival hRoomM hx
        refine ⟨hFree.trans hFreeM, hPostsM.trans hEtm hPosts, fun h => absurd h (by simp), fun x xs h => ?_⟩
        obtain ⟨rfl, rfl⟩ := List.cons.inj h
        rw [hSelf, hArrives]
  · exact transfer_exits_then_enters hReady hTransfers hm
  · obtain ⟨hExec, -, hSetup⟩ := exec_gate_keeps s hReady
    refine ⟨_, hExec, ?_⟩
    cases hm : s.rqd.mode with
    | setup => exact hSetup hm
    | counting =>
      rw [(s.flipLine l).gateEvent_of_untracked hm hNot]
      exact s.flipLine_keeps l

end Sys2Proof.Machine
end

section
/-! SUPPORT. The item pool (R40, R41): every entry stands in one place and every list fits, through each operation, each command
and each step: O24. -/

namespace Sys2Proof.Machine

/-! ### Counting the entries -/

/-- The item entries of the part: those free and those in the lists. -/
def State.entries (s : State) : Nat := s.itu.free + (allSegments.map fun g => (s.track g).count).sum

/-- Both lists of a segment are within their capacity (R41). -/
def Tracking.Fits (t : Tracking) : Prop := t.arrival.length ≤ 32 ∧ t.transit.length ≤ 64

theorem poolInv_iff (s : State) : PoolInv s ↔ s.entries = 384 ∧ ∀ g, (s.track g).Fits := Iff.rfl

/-- A change of one segment's record moves the sum over all segments by the difference of that record. -/
theorem sum_segments_of_eq_off {f f' : SegNo → Nat} {g : SegNo} (h : ∀ j, j ≠ g → f' j = f j) :
    (allSegments.map f').sum + f g = (allSegments.map f).sum + f' g := by
  have hSum : ∀ q : SegNo → Nat, (allSegments.map q).sum = q g + ∑ j ∈ Finset.univ.erase g, q j := fun q => by
    rw [Finset.add_sum_erase _ _ (Finset.mem_univ g), Fin.sum_univ_def]
    rfl
  have hOff : ∑ j ∈ Finset.univ.erase g, f' j = ∑ j ∈ Finset.univ.erase g, f j :=
    Finset.sum_congr rfl fun j hj => h j (Finset.ne_of_mem_erase hj)
  rw [hSum, hSum, hOff]
  omega

theorem MovesTo.entries_add {g : SegNo} {x : Tracking} {n : Nat} {notes : List (NoticeKind × Nat × Nat)} {s t : State}
    (h : MovesTo g x n notes s t) :
    t.entries + (s.itu.free + (s.track g).count) = s.entries + (n + x.count) := by
  have hSum := sum_segments_of_eq_off (f := fun j => (s.track j).count) (f' := fun j => (t.track j).count) (g := g)
    fun j hj => congrArg Tracking.count (h.others j hj)
  rw [h.track] at hSum
  rw [State.entries, State.entries, h.free]
  omega

theorem MovesTo.fits {g : SegNo} {x : Tracking} {n : Nat} {notes : List (NoticeKind × Nat × Nat)} {s t : State}
    (h : MovesTo g x n notes s t) (hx : (s.track g).Fits → x.Fits) (hs : ∀ j, (s.track j).Fits) (j : SegNo) :
    (t.track j).Fits := by
  by_cases hj : j = g
  · rw [hj, h.track]
    exact hx (hs g)
  · rw [h.others j hj]
    exact hs j

/-! ### Operations that keep the pool whole -/

/-- From `s` to `t` no entry is lost or made, and lists that fit still do. -/
structure KeepsPool (s t : State) : Prop where
  entries : t.entries = s.entries
  fits : (∀ g, (s.track g).Fits) → ∀ g, (t.track g).Fits

theorem KeepsPool.poolInv {s t : State} (h : KeepsPool s t) (hs : PoolInv s) : PoolInv t :=
  (poolInv_iff t).2 ⟨h.entries.trans ((poolInv_iff s).1 hs).1, h.fits ((poolInv_iff s).1 hs).2⟩

theorem KeepsPool.of_itu {s t : State} (h : t.itu = s.itu) : KeepsPool s t := by
  have hTrack : ∀ g, t.track g = s.track g := fun g => by rw [State.track, State.track, h]
  exact ⟨by simp only [State.entries, hTrack, h], fun hs g => (hTrack g).symm ▸ hs g⟩

theorem KeepsPool.refl (s : State) : KeepsPool s s := .of_itu rfl

theorem KeepsPool.trans {s t u : State} (h : KeepsPool s t) (h' : KeepsPool t u) : KeepsPool s u :=
  ⟨h'.entries.trans h.entries, fun hs => h'.fits (h.fits hs)⟩

/-- What comes after leaves the ITU alone. -/
theorem KeepsPool.then_itu {s t u : State} (h : KeepsPool s t) (hu : u.itu = t.itu) : KeepsPool s u :=
  h.trans (.of_itu hu)

/-- What comes before leaves the ITU alone. -/
theorem KeepsPool.from_itu {s t u : State} (h : KeepsPool t u) (ht : t.itu = s.itu) : KeepsPool s u :=
  (KeepsPool.of_itu ht).trans h

/-- An operation at a segment, where there is one. -/
theorem KeepsPool.elim {s : State} {f : SegNo → State} (h : ∀ g, KeepsPool s (f g)) (o : Option SegNo) :
    KeepsPool s (o.elim s f) := by
  cases o with
  | none => exact .refl s
  | some g => exact h g

theorem keepsPool_foldl {α : Type} {f : State → α → State} (h : ∀ s a, KeepsPool s (f s a)) (l : List α) (s : State) :
    KeepsPool s (l.foldl f s) := by
  induction l generalizing s with
  | nil => exact .refl s
  | cons a l ih => exact (h s a).trans (ih (f s a))

/-- An operation at one segment keeps the pool when what leaves its lists is what the free list gains. -/
theorem MovesTo.keepsPool {g : SegNo} {x : Tracking} {n : Nat} {notes : List (NoticeKind × Nat × Nat)} {s t : State}
    (h : MovesTo g x n notes s t) (hn : n + x.count = s.itu.free + (s.track g).count)
    (hx : (s.track g).Fits → x.Fits) : KeepsPool s t :=
  ⟨by have := h.entries_add; omega, h.fits hx⟩

section

variable (s : State)

/-! ### The ITU -/

theorem Tracking.erred_count (t : Tracking) (threshold : Nat) :
    (t.erred threshold).count + t.flushedAt threshold = t.count := by
  unfold Tracking.erred Tracking.flushedAt
  split
  · exact Nat.zero_add _
  · split <;> rfl

theorem Tracking.erred_fits {t : Tracking} (h : t.Fits) (threshold : Nat) : (t.erred threshold).Fits := by
  unfold Tracking.erred
  split
  · exact ⟨Nat.zero_le _, Nat.zero_le _⟩
  · split <;> exact h

theorem State.trackingError_keepsPool (g : SegNo) (d : SegDef) : KeepsPool s (s.trackingError g d) :=
  (s.trackingError_movesTo g d).keepsPool (by have := (s.track g).erred_count d.resyncThreshold; omega)
    fun h => Tracking.erred_fits h _

theorem State.dropItem_keepsPool (g : SegNo) (cause : Nat) : KeepsPool s (s.dropItem g cause) :=
  (s.dropItem_movesTo g cause).keepsPool rfl fun h => h

/-- A record rewritten with the same two lists keeps the pool. -/
theorem State.setTrack_keepsPool (g : SegNo) (x : Tracking) (ha : x.arrival = (s.track g).arrival)
    (ht : x.transit.length = (s.track g).transit.length) : KeepsPool s (s.setTrack g x) :=
  (s.setTrack_movesTo g x).keepsPool (by rw [Tracking.count, Tracking.count, ha, ht])
    fun h => ⟨ha ▸ h.1, ht ▸ h.2⟩

theorem State.countEntry_keepsPool (g : SegNo) (d : SegDef) : KeepsPool s (s.countEntry g d) :=
  (s.setTrack_keepsPool g (s.track g).countEntry rfl rfl).trans (State.trackingError_keepsPool _ g d)

theorem State.enterAnnounced_keepsPool {g : SegNo} {item : Item} {rest : List Item}
    (h : (s.track g).arrival = item :: rest) : KeepsPool s (s.enterAnnounced g item rest) := by
  have hArrival : rest.length + 1 = (s.track g).arrival.length := by rw [h, List.length_cons]
  by_cases ht : (s.track g).transit.length < 64
  · refine (s.enterAnnounced_of_room ht item rest).keepsPool ?_ fun hf => ⟨?_, ?_⟩
    · simp only [Tracking.count, List.length_append, List.length_singleton]
      omega
    · exact (Nat.le_of_succ_le hArrival.le).trans hf.1
    · simp only [List.length_append, List.length_singleton]
      omega
  · refine (s.enterAnnounced_of_full (Nat.le_of_not_lt ht) item rest).keepsPool ?_ fun hf => ⟨?_, hf.2⟩
    · simp only [Tracking.count]
      omega
    · exact (Nat.le_of_succ_le hArrival.le).trans hf.1

theorem State.enterUnannounced_keepsPool (g : SegNo) (d : SegDef) : KeepsPool s (s.enterUnannounced g d) := by
  refine (s.countEntry_keepsPool g d).trans ?_
  by_cases ht : ((s.countEntry g d).track g).transit.length < 64
  · by_cases hf : 0 < (s.countEntry g d).itu.free
    · refine (s.enterUnannounced_of_room ht hf).keepsPool ?_ fun h => ⟨h.1, ?_⟩
      · simp only [Tracking.count, List.length_append, List.length_singleton]
        omega
      · simp only [List.length_append, List.length_singleton]
        omega
    · rw [s.enterUnannounced_of_noFree ht (Nat.eq_zero_of_not_pos hf)]
      exact State.dropItem_keepsPool _ g 2
  · rw [s.enterUnannounced_of_full (Nat.le_of_not_lt ht)]
    exact State.dropItem_keepsPool _ g 1

theorem State.entryEvent_keepsPool (g : SegNo) (d : SegDef) : KeepsPool s (s.entryEvent g d) := by
  cases h : (s.track g).arrival with
  | cons item rest =>
    rw [s.entryEvent_of_arrival h]
    exact s.enterAnnounced_keepsPool h
  | nil =>
    rw [s.entryEvent_of_noArrival h]
    exact s.enterUnannounced_keepsPool g d

/-- An item handed on finds one place: the free list, or an arrival list with room. -/
theorem State.handOnItem_entries (g : SegNo) (d : SegDef) (item : Item) :
    (s.handOnItem g d item).entries = s.entries + 1
      ∧ ((∀ j, (s.track j).Fits) → ∀ j, ((s.handOnItem g d item).track j).Fits) := by
  obtain h | h | ⟨b, i, hRoom, e⟩ := s.handOnItem_cases g d item
  · have hAdd := h.entries_add
    exact ⟨by simp only [Tracking.count] at hAdd; omega, h.fits fun hf => hf⟩
  · have hAdd := h.entries_add
    exact ⟨by simp only [Tracking.count] at hAdd; omega, h.fits fun hf => hf⟩
  · have hMove := s.setTrack_movesTo b { s.track b with arrival := (s.track b).arrival ++ [i] }
    rw [← e] at hMove
    have hAdd := hMove.entries_add
    simp only [Tracking.count, List.length_append, List.length_singleton] at hAdd
    exact ⟨by omega, hMove.fits fun hf => ⟨by simpa using hRoom, hf.2⟩⟩

theorem State.cleanExit_keepsPool {g : SegNo} {item : Item} {rest : List Item} (h : (s.track g).transit = item :: rest)
    (d : SegDef) : KeepsPool s (s.cleanExit g d item rest) := by
  have hTransit : rest.length + 1 = (s.track g).transit.length := by rw [h, List.length_cons]
  have hMove := s.setTrack_movesTo g ((s.track g).left rest)
  have hAdd := hMove.entries_add
  simp only [Tracking.count, Tracking.left] at hAdd
  obtain ⟨hEntries, hFits⟩ := State.handOnItem_entries (s.setTrack g ((s.track g).left rest)) g d item
  rw [s.cleanExit_eq]
  refine ⟨?_, fun hs => hFits (hMove.fits (fun hf => ⟨hf.1, ?_⟩) hs)⟩
  · rw [hEntries]
    simp only [Tracking.left]
    omega
  · exact (Nat.le_of_succ_le hTransit.le).trans hf.2

theorem State.exitEvent_keepsPool (g : SegNo) (d : SegDef) : KeepsPool s (s.exitEvent g d) := by
  cases h : (s.track g).transit with
  | cons item rest =>
    rw [s.exitEvent_of_transit h]
    exact s.cleanExit_keepsPool h d
  | nil =>
    rw [s.exitEvent_of_empty h]
    exact (s.setTrack_keepsPool g { s.track g with phantom := bump16 (s.track g).phantom } rfl rfl).trans
      (State.trackingError_keepsPool _ g d)

theorem State.exitHalf_keepsPool (g : SegNo) : KeepsPool s (s.exitHalf g) := by
  unfold State.exitHalf
  split
  · split
    · exact s.exitEvent_keepsPool g _
    · exact .refl s
  · exact .refl s

theorem State.entryHalf_keepsPool (g : SegNo) : KeepsPool s (s.entryHalf g) := by
  unfold State.entryHalf
  split
  · exact s.entryEvent_keepsPool g _
  · exact .refl s

theorem State.gateEvent_keepsPool (l : LineNo) : KeepsPool s (s.gateEvent l) := by
  cases hm : s.rqd.mode with
  | setup =>
    rw [s.gateEvent_of_setup hm]
    exact .refl s
  | counting =>
    rw [s.gateEvent_of_counting hm]
    exact (KeepsPool.elim s.exitHalf_keepsPool _).trans (KeepsPool.elim (State.entryHalf_keepsPool _) _)

/-! ### Closes at the ITU -/

/-- The head of the transit list is removed as stale (R56). -/
def State.removeHead (s : State) (g : SegNo) (rest : List Item) : State :=
  (s.setTrack g { s.track g with transit := rest, stale := bump16 (s.track g).stale }).giveFree 1

theorem State.removeHead_movesTo (g : SegNo) (rest : List Item) :
    MovesTo g { s.track g with transit := rest, stale := min ((s.track g).stale + 1) 65535 } (s.itu.free + 1) [] s
      (s.removeHead g rest) := by
  have h := (s.setTrack_movesTo g { s.track g with transit := rest, stale := bump16 (s.track g).stale }).trans
    (State.giveFree_movesTo _ g 1)
  rwa [State.track_setTrack_self] at h

theorem State.removeHead_keepsPool {g : SegNo} {item : Item} {rest : List Item}
    (h : (s.track g).transit = item :: rest) : KeepsPool s (s.removeHead g rest) := by
  have hTransit : rest.length + 1 = (s.track g).transit.length := by rw [h, List.length_cons]
  refine (s.removeHead_movesTo g rest).keepsPool ?_ fun hf => ⟨hf.1, (Nat.le_of_succ_le hTransit.le).trans hf.2⟩
  simp only [Tracking.count]
  omega

theorem State.removeStale_keepsPool (d : SegDef) (g : SegNo) (n : Nat) : KeepsPool s (State.removeStale d g n s) := by
  induction n generalizing s with
  | zero => exact .refl s
  | succ n ih =>
    unfold State.removeStale
    split
    · exact .refl s
    · next item rest h =>
      split
      · exact ((s.removeHead_keepsPool h).trans (State.trackingError_keepsPool _ g d)).trans (ih _)
      · exact .refl s

theorem State.exitByTravel_keepsPool (d : SegDef) (g : SegNo) (n : Nat) : KeepsPool s (State.exitByTravel d g n s) := by
  induction n generalizing s with
  | zero => exact .refl s
  | succ n ih =>
    unfold State.exitByTravel
    split
    · exact .refl s
    · next item rest h =>
      split
      · exact (s.cleanExit_keepsPool h d).trans (ih _)
      · exact .refl s

theorem State.ageItems_keepsPool (g : SegNo) (d : SegDef) (mm : Nat) : KeepsPool s (s.ageItems g d mm) := by
  have hAge : KeepsPool s (s.setTrack g { s.track g with transit := (s.track g).transit.map (Item.age mm) }) :=
    s.setTrack_keepsPool g _ rfl (List.length_map _)
  unfold State.ageItems
  dsimp only
  split
  · exact hAge
  · split
    · exact hAge.trans (State.removeStale_keepsPool _ d g _)
    · exact hAge.trans (State.exitByTravel_keepsPool _ d g _)

theorem State.handOn_keepsPool (g : SegNo) (d : SegDef) (kind : CloseKind) (mm : Nat) :
    KeepsPool s (s.handOn g d kind mm) := by
  have hLoad : KeepsPool s (s.storeLoad g ((s.track g).load d)) := s.setTrack_keepsPool g _ rfl rfl
  exact (hLoad.trans (State.ageItems_keepsPool _ g d mm)).then_itu (State.accrueAll_itu _ _ _)

end

end Sys2Proof.Machine
end

section
/-! SUPPORT. The item pool through the SMU's operations, boundaries, requests and every command: O24. -/

namespace Sys2Proof.Machine

section

variable (s : State)

/-! ### Reckoning and closes -/

theorem State.reckon_keepsPool (g : SegNo) (d : SegDef) (ms : Nat) : KeepsPool s (s.reckon g d ms) :=
  (KeepsPool.of_itu (s.setRun_itu g _)).trans (State.handOn_keepsPool _ g d _ _)

theorem State.reckonPart_keepsPool (g : SegNo) (d : SegDef) (tick : Tick) : KeepsPool s (s.reckonPart g d tick) := by
  obtain ⟨-, e⟩ | ⟨-, e⟩ := s.reckonPart_cases g d tick <;> rw [e]
  · exact .refl s
  · exact s.reckon_keepsPool g d _

theorem State.partialClose_keepsPool (g : SegNo) (d : SegDef) (w : MeasWindow) : KeepsPool s (s.partialClose g d w) :=
  (KeepsPool.of_itu (s.setRun_itu g _)).trans (State.handOn_keepsPool _ g d _ _)

theorem State.closeOnBehalf_keepsPool (g : SegNo) (d : SegDef) (tick : Tick) (reckons : Bool) :
    KeepsPool s (s.closeOnBehalf g d tick reckons) := by
  have hAbandon : KeepsPool s (s.abandonWindow g) := .of_itu (s.abandonWindow_itu g)
  have hWithout : KeepsPool s (if reckons then (s.abandonWindow g).reckonPart g d tick else s.abandonWindow g) := by
    split
    · exact hAbandon.trans (State.reckonPart_keepsPool _ g d tick)
    · exact hAbandon
  unfold State.closeOnBehalf
  dsimp only
  split
  · split
    · exact s.partialClose_keepsPool g d _
    · exact hWithout
  · exact hWithout

theorem State.countPulse_keepsPool (g : SegNo) (d : SegDef) (w : MeasWindow) : KeepsPool s (s.countPulse g d w) := by
  unfold State.countPulse
  dsimp only
  split
  · exact .of_itu (s.setRun_itu g _)
  · refine KeepsPool.then_itu (KeepsPool.trans ?_ (State.handOn_keepsPool _ g d _ _)) (State.afterFullClose_itu _ g d _)
    exact .of_itu (by simp)

/-! ### Events of lines -/

theorem State.drivePulse_keepsPool (g : SegNo) (d : SegDef) : KeepsPool s (s.drivePulse g d) := by
  unfold State.drivePulse
  dsimp only
  split
  case h_1 => exact .refl s
  case h_2 =>
    split
    · exact .of_itu (by simp)
    · exact .refl s
  case h_6 =>
    split
    · exact s.countPulse_keepsPool g d _
    · exact (s.reckonPart_keepsPool g d _).then_itu (State.openWindow_itu _ g _)
  case h_7 => exact .of_itu (s.setRun_itu g _)
  all_goals
    split
    · exact s.countPulse_keepsPool g d _
    · exact .of_itu (s.openWindow_itu g _)

theorem State.pulseAt_keepsPool (l : LineNo) (g : SegNo) : KeepsPool s (State.pulseAt l s g) := by
  unfold State.pulseAt
  split
  · next d _ =>
    have hDrive : KeepsPool s (if d.driveLine = l then s.drivePulse g d else s) := by
      split
      · exact s.drivePulse_keepsPool g d
      · exact .refl s
    dsimp only
    split
    · exact hDrive.then_itu (State.idlerPulse_itu _ g)
    · exact hDrive
  · exact .refl s

theorem State.runOff_keepsPool (g : SegNo) (d : SegDef) : KeepsPool s (s.runOff g d) := by
  unfold State.runOff
  dsimp only
  split
  case h_1 | h_2 => exact .refl s
  case h_6 => exact (s.closeOnBehalf_keepsPool g d s.etm.tick true).then_itu (by simp)
  case h_7 => exact (s.reckonPart_keepsPool g d _).then_itu (State.enter_itu _ g _ _)
  all_goals exact (s.closeOnBehalf_keepsPool g d _ false).then_itu (State.enter_itu _ g _ _)

theorem State.runAt_keepsPool (l : LineNo) (turnedOn : Bool) (g : SegNo) : KeepsPool s (State.runAt l turnedOn s g) := by
  unfold State.runAt
  split
  · split
    · split
      · exact .of_itu (s.runOn_itu g _)
      · exact s.runOff_keepsPool g _
    · exact .refl s
  · exact .refl s

theorem State.lineEvent_keepsPool (l : LineNo) (level : Level) : KeepsPool s (s.lineEvent l level) := by
  unfold State.lineEvent
  split
  case h_2 => exact keepsPool_foldl (fun u g => u.pulseAt_keepsPool l g) _ s
  case h_4 => exact s.gateEvent_keepsPool l
  case h_6 => exact keepsPool_foldl (fun u g => u.runAt_keepsPool l true g) _ s
  case h_7 => exact keepsPool_foldl (fun u g => u.runAt_keepsPool l false g) _ s
  all_goals exact .refl s

theorem State.acceptTransition_keepsPool (l : LineNo) : KeepsPool s (s.acceptTransition l) := by
  rw [s.acceptTransition_eq]
  exact (State.lineEvent_keepsPool (s.flipLine l) l _).from_itu rfl

theorem State.sampleLines_keepsPool (raw : BitVec 32) : KeepsPool s (s.sampleLines raw) := by
  unfold State.sampleLines
  dsimp only
  split
  · exact (keepsPool_foldl State.acceptTransition_keepsPool _ _).from_itu (by simp)
  · exact .of_itu (by simp)

/-! ### Expiries and SEGMENT_REARM -/

theorem State.fullInterval_keepsPool (g : SegNo) (d : SegDef) (count : Nat) : KeepsPool s (s.fullInterval g d count) :=
  (s.reckon_keepsPool g d _).then_itu (State.setRun_itu _ g _)

theorem State.emptyExpiry_keepsPool (g : SegNo) (d : SegDef) : KeepsPool s (s.emptyExpiry g d) := by
  have hFail : ∀ u : State, u.itu = s.itu → ∀ count, KeepsPool s ((u.fullInterval g d count).checkLossLimit g d) :=
    fun u hu count => ((KeepsPool.of_itu hu).trans (u.fullInterval_keepsPool g d count)).then_itu
      (State.checkLossLimit_itu _ g d)
  unfold State.emptyExpiry
  dsimp only
  split
  case h_1 =>
    split
    · exact .of_itu (s.setRun_itu g _)
    · split
      · exact .of_itu (s.setRun_itu g _)
      · exact .of_itu (by simp)
  case h_4 => exact hFail s rfl _
  case h_5 => exact s.fullInterval_keepsPool g d _
  case h_6 | h_7 => exact .refl s
  all_goals
    split
    · exact .of_itu (s.setRun_itu g _)
    · exact hFail _ (by simp) 1

theorem State.expire_keepsPool (g : SegNo) (d : SegDef) : KeepsPool s (s.expire g d) := by
  unfold State.expire
  dsimp only
  split
  · split
    · exact (KeepsPool.of_itu (s.setRun_itu g _)).trans (State.partialClose_keepsPool _ g d _)
    · exact (KeepsPool.of_itu (by simp)).trans (State.emptyExpiry_keepsPool _ g d)
  · exact (KeepsPool.of_itu (s.setRun_itu g _)).trans (State.emptyExpiry_keepsPool _ g d)

theorem State.rearm_keepsPool (g : SegNo) : KeepsPool s (s.rearm g) := by
  unfold State.rearm
  split
  · exact .refl s
  · next d _ =>
    have hPart : KeepsPool s (if s.runLineActive d then s.reckonPart g d s.etm.tick else s) := by
      split
      · exact s.reckonPart_keepsPool g d _
      · exact .refl s
    split
    · exact hPart.then_itu (by simp)
    · exact .refl s

/-! ### Boundaries -/

theorem State.setupClose_keepsPool (g : SegNo) (d : SegDef) (tick : Tick) : KeepsPool s (s.setupClose g d tick) := by
  unfold State.setupClose
  split
  case h_1 | h_2 => exact .refl s
  case h_7 =>
    split
    · exact s.reckonPart_keepsPool g d tick
    · exact .refl s
  all_goals exact s.closeOnBehalf_keepsPool g d tick _

theorem State.setupSegment_keepsPool (tick : Tick) (g : SegNo) : KeepsPool s (State.setupSegment tick s g) := by
  unfold State.setupSegment
  split
  · exact (s.setupClose_keepsPool g _ tick).then_itu (State.enterOff_itu _ g)
  · exact .of_itu (s.enterOff_itu g)

theorem State.enterSetup_keepsPool (tick : Tick) : KeepsPool s (s.enterSetup tick) :=
  (keepsPool_foldl (fun u g => u.setupSegment_keepsPool tick g) _ s).then_itu rfl

theorem State.closeAccounts_keepsPool (a k : Nat) : KeepsPool s (s.closeAccounts a k) := by
  have hSettings : KeepsPool s s.applySettings := .of_itu s.applySettings_itu
  unfold State.closeAccounts
  dsimp only
  split
  · exact (hSettings.trans (State.enterSetup_keepsPool _ s.applySettings.etm.boundaryTick)).then_itu (by simp)
  · exact hSettings.then_itu (State.takeShares_itu _ a k)

theorem State.boundaryPart_keepsPool (a k : Nat) (missed : Bool) (p : BoundaryPart) :
    KeepsPool s (State.boundaryPart a k missed s p) := by
  cases p with
  | markNotice =>
    unfold State.boundaryPart
    dsimp only
    split
    · exact .of_itu rfl
    · exact .refl s
  | accounts => exact s.closeAccounts_keepsPool a k
  | planner => exact .of_itu s.tendWindows_itu

theorem State.takeBoundary_keepsPool (number : Nat) (tick : Tick) (missed : Bool) :
    KeepsPool s (s.takeBoundary number tick missed) :=
  (keepsPool_foldl (fun u p => u.boundaryPart_keepsPool _ _ missed p) _ _).from_itu s.settle_itu

theorem State.replaceSettings_keepsPool (e : EpochSettings) : KeepsPool s (s.replaceSettings e) := by
  unfold State.replaceSettings
  dsimp only
  split
  · exact (State.takeBoundary_keepsPool _ _ _ _).from_itu rfl
  · exact .of_itu rfl

theorem State.takeMark_keepsPool (number : Nat) : KeepsPool s (s.takeMark number).1 := by
  unfold State.takeMark
  dsimp only
  split
  · exact .of_itu rfl
  · split
    · exact s.takeBoundary_keepsPool _ _ _
    · exact (State.takeBoundary_keepsPool _ _ _ _).from_itu rfl

/-! ### RESTART TRACKING and the segment requests -/

theorem State.flush_keepsPool (g : SegNo) : KeepsPool s (s.flush g) :=
  (s.flush_movesTo g).keepsPool rfl fun _ => ⟨Nat.zero_le _, Nat.zero_le _⟩

/-- A flushed segment's record may be replaced by any other with empty lists. -/
theorem State.flush_setTrack_keepsPool (g : SegNo) {x : Tracking} (ha : x.arrival = []) (ht : x.transit = []) :
    KeepsPool s ((s.flush g).setTrack g x) := by
  have h := (s.flush_movesTo g).track
  refine (s.flush_keepsPool g).trans (State.setTrack_keepsPool _ g x ?_ ?_) <;> rw [h]
  · exact ha
  · rw [ht]

theorem State.restartTrack_keepsPool (g : SegNo) : KeepsPool s (s.restartTrack g) :=
  s.flush_setTrack_keepsPool g rfl rfl

theorem State.redefine_keepsPool (g : SegNo) (dn : Option SegDef) : KeepsPool s (s.redefine g dn) :=
  (s.flush_setTrack_keepsPool g (x := Tracking.reset) rfl rfl).then_itu rfl

theorem State.clearSegmentCounters_keepsPool (g : SegNo) : KeepsPool s (s.clearSegmentCounters g) :=
  (KeepsPool.of_itu (s.setRun_itu g _)).trans (State.setTrack_keepsPool _ g _ rfl rfl)

theorem State.announced_keepsPool {g : SegNo} (hf : 0 < s.itu.free) (ha : (s.track g).arrival.length < 32) (item : Item) :
    KeepsPool s (s.announced g item) := by
  refine (s.announced_movesTo g item).keepsPool ?_ fun h => ⟨?_, h.2⟩
  · simp only [Tracking.count, List.length_append, List.length_singleton]
    omega
  · simpa using ha

end

end Sys2Proof.Machine
end

section
/-! SUPPORT. The item pool through every command and every step: O24. -/

namespace Sys2Proof

/-- The commands that may reach the ITU: line events, timed closes, boundaries, resets, and the requests about segments and
items. -/
def Instr.reachesItems : Instr → Bool
  | .coldReset _ | .acceptedTransition _ | .sample _ | .segmentTimerExpiry _ | .localBoundary | .graceDeadline
  | .epochSet _ | .epochMark _ _ | .characterReceived _ _ _ | .replyEnd | .restartTracking _ | .restartAll _
  | .segmentSet _ _ _ | .segmentUndefine _ | .segmentRead _ _ | .segmentRearm _ | .itemAnnounce _ _ _ _ _ => true
  | _ => false

end Sys2Proof

namespace Sys2Proof.Machine

/-- Where an outcome is a next state, that state passes `P`. -/
def Leads (P : State → Prop) (o : Host.Outcome State Fault Refusal) : Prop := ∀ t, o = .next t → P t

@[simp] theorem leads_next (P : State → Prop) (t : State) : Leads P (.next t) ↔ P t :=
  ⟨fun h => h t rfl, fun h _ e => Host.Outcome.next.inj e ▸ h⟩

@[simp] theorem leads_refused (P : State → Prop) (r : Refusal) : Leads P (.refused r) := fun _ e => by cases e

theorem Leads.mono {P Q : State → Prop} {o : Host.Outcome State Fault Refusal} (h : Leads P o) (hPQ : ∀ t, P t → Q t) :
    Leads Q o := fun t e => hPQ t (h t e)

section

variable (s : State)

theorem State.answerVia_itu (via : Delivery) (k : ReqKind) (st : Status) (d : List Byte) :
    (s.answerVia via k st d).itu = s.itu := by cases via <;> rfl

/-- Every other command is made of operations that leave the ITU alone, in each of its branches. -/
theorem exec_itu {i : Instr} (h : i.reachesItems = false) : Leads (fun t => t.itu = s.itu) (exec i s) := by
  cases i
  case coldReset | acceptedTransition | sample | segmentTimerExpiry | localBoundary | graceDeadline | epochSet | epochMark
    | characterReceived | replyEnd | restartTracking | restartAll | segmentSet | segmentUndefine | segmentRead
    | segmentRearm | itemAnnounce => cases h
  all_goals
    simp only [exec, execRatePassVisit, execProjectionsRefreshed, execPlanMemberWalk, execPlacementReset, execPlanSort,
      execOrderPlacement, execGanging, execPlanDone, execGapLimitExpiry, execReplyStart, execBlankingEnd, execUnknownKind,
      execIdent, execStatus, execModeSetup, execModeCounting, execRestartPlan, execLinkSet, execCounters, execLineSet,
      execLineStatus, execMemberDefine, execMemberRead, execMemberHold, execMemberAdjust, execMemberRelease,
      execMemberRetire, execServiceDoneReplaced, execServiceDoneInspected, execPlanSet, execPlanRun, execWindowAdd,
      execWindowRemove, execWindowReadList, execWindowReadPattern, execPatternLoad, execPatternControl, execOrderRead,
      execOrderList, execOrderRaise, execOrderStart, execOrderCancel, execNoticeTake, execNoticeMask, execTick]
    (repeat' split) <;> simp [State.answerVia_itu, State.service]

theorem leads_keepsPool_of_itu {o : State} (h : o.itu = s.itu) : Leads (KeepsPool s) (.next o) :=
  (leads_next _ _).2 (.of_itu h)

theorem execSegmentTimerExpiry_keepsPool (g : SegNo) : Leads (KeepsPool s) (execSegmentTimerExpiry g s) := by
  unfold execSegmentTimerExpiry
  split
  · refine (leads_next _ _).2 ?_
    split
    · exact s.expire_keepsPool g _
    · exact .refl s
  · exact (leads_next _ _).2 (.refl s)

theorem execLocalBoundary_keepsPool : Leads (KeepsPool s) (execLocalBoundary s) := by
  refine (leads_next _ _).2 ?_
  split
  · exact s.takeBoundary_keepsPool _ _ _
  · exact .refl s

theorem execGraceDeadline_keepsPool : Leads (KeepsPool s) (execGraceDeadline s) := by
  refine (leads_next _ _).2 ?_
  split
  · exact s.takeBoundary_keepsPool _ _ _
  · exact .refl s

theorem execEpochSet_keepsPool (r : EpochRecord) : Leads (KeepsPool s) (execEpochSet r s) := by
  unfold execEpochSet
  split
  · exact leads_keepsPool_of_itu s rfl
  · split
    · exact (leads_next _ _).2 ((s.replaceSettings_keepsPool _).then_itu rfl)
    · exact leads_keepsPool_of_itu s rfl

theorem execEpochMark_keepsPool (via : Delivery) (number : BitVec 32) :
    Leads (KeepsPool s) (execEpochMark via number s) :=
  (leads_next _ _).2 ((s.takeMark_keepsPool _).then_itu (State.answerVia_itu _ via _ _ _))

theorem execRestartTracking_keepsPool (via : Delivery) : Leads (KeepsPool s) (execRestartTracking via s) :=
  (leads_next _ _).2 ((keepsPool_foldl State.restartTrack_keepsPool allSegments s).then_itu
    (State.answerVia_itu _ via _ _ _))

theorem execSegmentSet_keepsPool (segment : Byte) (massGiven : Bool) (r : SegmentRecord) :
    Leads (KeepsPool s) (execSegmentSet segment massGiven r s) := by
  unfold execSegmentSet
  (repeat' split)
  case h_2 d _ => exact (leads_next _ _).2 ((s.redefine_keepsPool _ (some d)).then_itu rfl)
  all_goals exact leads_keepsPool_of_itu s rfl

theorem execSegmentUndefine_keepsPool (segment : Byte) : Leads (KeepsPool s) (execSegmentUndefine segment s) := by
  unfold execSegmentUndefine
  (repeat' split)
  case h_2 => exact (leads_next _ _).2 ((s.redefine_keepsPool _ none).then_itu rfl)
  all_goals exact leads_keepsPool_of_itu s rfl

theorem execSegmentRead_keepsPool (segment : Byte) (clear : Bool) :
    Leads (KeepsPool s) (execSegmentRead segment clear s) := by
  unfold execSegmentRead
  split
  · exact leads_keepsPool_of_itu s rfl
  · refine (leads_next _ _).2 ?_
    split
    · exact (s.clearSegmentCounters_keepsPool _).then_itu rfl
    · exact .of_itu rfl

theorem execSegmentRearm_keepsPool (segment : Byte) : Leads (KeepsPool s) (execSegmentRearm segment s) := by
  unfold execSegmentRearm
  split
  · exact leads_keepsPool_of_itu s rfl
  · exact (leads_next _ _).2 ((s.rearm_keepsPool _).then_itu rfl)

theorem execItemAnnounce_keepsPool (segment : Byte) (tag mass : BitVec 16) (routeLength : Byte) (route : BitVec 16) :
    Leads (KeepsPool s) (execItemAnnounce segment tag mass routeLength route s) := by
  unfold execItemAnnounce
  split
  · exact leads_keepsPool_of_itu s rfl
  · dsimp only
    split
    · exact leads_keepsPool_of_itu s rfl
    · split
      · exact leads_keepsPool_of_itu s rfl
      · next hRoom =>
        obtain ⟨hArrival, hFree⟩ := not_or.1 hRoom
        exact (leads_next _ _).2
          ((s.announced_keepsPool (Nat.pos_of_ne_zero hFree) (Nat.lt_of_not_le hArrival) _).then_itu rfl)

/-- The pool is as whole as before, or the ITU stands at its reset value. -/
def KeepsOrResetsPool (s t : State) : Prop := KeepsPool s t ∨ t.itu = State.reset.itu

theorem Leads.keepsOrResets {s : State} {o : Host.Outcome State Fault Refusal} (h : Leads (KeepsPool s) o) :
    Leads (KeepsOrResetsPool s) o := h.mono fun _ => .inl

theorem execCharacterReceived_keepsOrResets (start : StartBit) (c : Character) (stop : Bool) :
    Leads (KeepsOrResetsPool s) (execCharacterReceived start c stop s) := by
  refine (leads_next _ _).2 ?_
  obtain h | h := s.receive_cases start (lineBits c.data c.mark stop)
  · rw [h]
    exact .inr rfl
  · exact .inl (.of_itu (h.1 .itu (by decide)))

theorem execReplyEnd_keepsOrResets : Leads (KeepsOrResetsPool s) (execReplyEnd s) := by
  refine (leads_next _ _).2 ?_
  split
  · dsimp only
    split
    · exact .inr rfl
    · exact .inl (.of_itu rfl)
  · exact .inl (.refl s)
  · exact .inl (.refl s)

theorem execRestartAll_keepsOrResets (via : Delivery) : Leads (KeepsOrResetsPool s) (execRestartAll via s) := by
  cases via with
  | addressed => exact (leads_next _ _).2 (.inl (.of_itu rfl))
  | broadcast => exact (leads_next _ _).2 (.inr rfl)

/-- A command keeps the pool whole, or leaves the ITU at its reset value. -/
theorem exec_keepsPool (i : Instr) : Leads (KeepsOrResetsPool s) (exec i s) := by
  cases hi : i.reachesItems with
  | false => exact (exec_itu s hi).mono fun t ht => .inl (.of_itu ht)
  | true =>
    cases i
    case coldReset straps => exact (leads_next _ _).2 (.inr rfl)
    case characterReceived start c stop => exact execCharacterReceived_keepsOrResets s start c stop
    case replyEnd => exact execReplyEnd_keepsOrResets s
    case restartAll via => exact execRestartAll_keepsOrResets s via
    case acceptedTransition l => exact (leads_next _ _).2 (.inl (s.acceptTransition_keepsPool l))
    case sample raw => exact (leads_next _ _).2 (.inl (s.sampleLines_keepsPool raw))
    case segmentTimerExpiry g => exact (execSegmentTimerExpiry_keepsPool s g).keepsOrResets
    case localBoundary => exact (execLocalBoundary_keepsPool s).keepsOrResets
    case graceDeadline => exact (execGraceDeadline_keepsPool s).keepsOrResets
    case epochSet r => exact (execEpochSet_keepsPool s r).keepsOrResets
    case epochMark via number => exact (execEpochMark_keepsPool s via number).keepsOrResets
    case restartTracking via => exact (execRestartTracking_keepsPool s via).keepsOrResets
    case segmentSet g massGiven r => exact (execSegmentSet_keepsPool s g massGiven r).keepsOrResets
    case segmentUndefine g => exact (execSegmentUndefine_keepsPool s g).keepsOrResets
    case segmentRead g clear => exact (execSegmentRead_keepsPool s g clear).keepsOrResets
    case segmentRearm g => exact (execSegmentRearm_keepsPool s g).keepsOrResets
    case itemAnnounce g tag mass n route => exact (execItemAnnounce_keepsPool s g tag mass n route).keepsOrResets
    all_goals cases hi

end

/-! ### Every step -/

theorem PoolInv.of_itu {s t : State} (h : t.itu = s.itu) (hs : PoolInv s) : PoolInv t := (KeepsPool.of_itu h).poolInv hs

theorem poolInv_reset : PoolInv State.reset := by
  have hTrack : ∀ g, State.reset.track g = Tracking.reset := fun g => Vector.getElem_replicate _
  refine ⟨?_, fun g => ?_⟩
  · simp only [hTrack]
    rfl
  · rw [hTrack]
    decide

theorem exec_poolInv (i : Instr) {s : State} (h : PoolInv s) : Leads PoolInv (exec i s) :=
  (exec_keepsPool s i).mono fun _ ht => ht.elim (fun hk => hk.poolInv h) fun hr => poolInv_reset.of_itu hr

/-- A frame served is a command, or an answer that leaves the ITU alone. -/
theorem serveFrame_poolInv (f : Frame) {s : State} (h : PoolInv s) : Leads PoolInv (serveFrame f s) := by
  have hAnswer : ∀ st, PoolInv (s.answerFrame f st) := fun st => h.of_itu (by
    unfold State.answerFrame
    split <;> rfl)
  unfold serveFrame
  split
  · exact exec_poolInv _ h
  · exact (leads_next _ _).2 (hAnswer _)
  · exact (leads_next _ _).2 (hAnswer _)

/-- Settles O24: a step is a command, a frame served, or idling, and each keeps the pool. -/
theorem itemPoolKept : Obligations.ItemPoolKept := by
  unfold Obligations.ItemPoolKept
  intro s t h hStep
  have hLeads : Leads PoolInv (step s) := by
    unfold step
    split
    · exact exec_poolInv _ (h.of_itu rfl)
    · unfold idle
      split
      · exact serveFrame_poolInv _ h
      · exact (leads_next _ _).2 h
  exact hLeads t hStep

end Sys2Proof.Machine
end

section
/-! SUPPORT. RESTART TRACKING and RESTART PLAN (R42, R142, R150, R173): O6. -/

namespace Sys2Proof.Machine

section

variable (s : State)

/-! ### RESTART TRACKING -/

theorem State.restartTrack_movesTo (g : SegNo) :
    MovesTo g (s.track g).restart (s.itu.free + (s.track g).count) [] s (s.restartTrack g) := by
  have hFlush := s.flush_movesTo g
  have h := hFlush.trans (State.setTrack_movesTo (s.flush g) g (s.track g).restart)
  rwa [hFlush.free] at h

/-- Each segment of a list is restarted once, and gives its entries to the free list. -/
theorem State.foldl_restartTrack {l : List SegNo} (hl : l.Nodup) :
    (∀ g, (l.foldl State.restartTrack s).track g = if g ∈ l then (s.track g).restart else s.track g)
      ∧ (l.foldl State.restartTrack s).itu.free = s.itu.free + (l.map fun g => (s.track g).count).sum := by
  induction l generalizing s with
  | nil => exact ⟨fun _ => rfl, rfl⟩
  | cons a l ih =>
    obtain ⟨ha, hNodup⟩ := List.nodup_cons.1 hl
    have hMove := s.restartTrack_movesTo a
    have hRest : ∀ g ∈ l, (s.restartTrack a).track g = s.track g := fun g hg =>
      hMove.others g fun e => ha (e ▸ hg)
    obtain ⟨hTracks, hFree⟩ := ih (s.restartTrack a) hNodup
    refine ⟨fun g => ?_, ?_⟩
    · rw [List.foldl_cons, hTracks]
      by_cases hg : g ∈ l
      · rw [if_pos hg, if_pos (List.mem_cons_of_mem a hg), hRest g hg]
      · rw [if_neg hg]
        by_cases hga : g = a
        · rw [hga, hMove.track, if_pos List.mem_cons_self]
        · rw [hMove.others g hga, if_neg fun h => (List.mem_cons.1 h).elim hga hg]
    · have hCounts : (l.map fun g => ((s.restartTrack a).track g).count) = l.map fun g => (s.track g).count :=
        List.map_congr_left fun g hg => by rw [hRest g hg]
      rw [List.foldl_cons, hFree, hMove.free, hCounts, List.map_cons, List.sum_cons, Nat.add_assoc]

theorem restartTracking_keeps : KeepsAllBut [.itu] s (allSegments.foldl State.restartTrack s) :=
  keepsAllBut_foldl State.restartTrack_keeps allSegments s

/-! ### Answering either way (R168, R169) -/

/-- What an operation of other blocks leaves, once answered by its delivery, is what `AnswersVia` says of it. -/
theorem answersVia_of_keeps {bs : List Block} {u : State} {k : ReqKind} {st : Status} {d : List Byte} (via : Delivery)
    (h : KeepsAllBut bs s u) (hl : u.lnk = s.lnk) (hr : u.rqd = s.rqd) :
    AnswersVia via s.rqd bs k.code st d s (u.answerVia via k st d) := by
  cases via with
  | addressed => exact answers_of_keeps s h hl hr
  | broadcast =>
    have hTake : KeepsAllBut [.rqd] u u.takeHanded := by simp [keepsAllBut_iff]
    refine ⟨(h.mono (List.subset_cons_self _ _)).trans (hTake.mono (by simp)), ?_⟩
    rw [State.answerVia_broadcast, State.rqd_takeHanded, hr]

section

variable (via : Delivery) (k : ReqKind) (st : Status) (d : List Byte)

theorem State.answerVia_nq : (s.answerVia via k st d).nq = s.nq := by cases via <;> rfl

theorem State.answerVia_spl : (s.answerVia via k st d).spl = s.spl := by cases via <;> rfl

end

/-! ### RESTART PLAN -/

theorem Planner.running_iff (p : Planner) : p.running = true ↔ p.stage ≠ .idle := by simp [Planner.running]

/-- Whether or not a run was in flight, none is, and none is to be repeated (R142). -/
theorem State.abandonRun_spl :
    s.abandonRun.spl = { s.spl with planner := { s.spl.planner with stage := .idle, rerun := false } } := by
  unfold State.abandonRun
  dsimp only
  split
  · rfl
  · next h =>
    rw [Planner.running_iff, not_not] at h
    rw [← h]
    rfl

/-- A run in flight is reported with the abandoned bit; without one there is nothing to report (R142, R150). -/
theorem State.abandonRun_nq :
    s.abandonRun.nq = if s.spl.planner.stage = .idle then s.nq else
      s.nq.post .planDone 0 (s.spl.planner.report true) s.etm.epoch s.etm.tick := by
  unfold State.abandonRun
  dsimp only
  split
  · next h => rw [if_neg ((Planner.running_iff _).1 h), State.nq_post, State.setPlanner_nq, State.setPlanner_etm]
  · next h => rw [if_pos (not_not.1 ((Planner.running_iff _).not.1 h)), State.setPlanner_nq]

theorem Planner.report_abandoned (p : Planner) :
    p.report true = 2 ^ 31 + p.placed * 2 ^ 24 + p.late * 2 ^ 16 + p.unplaced * 2 ^ 8 + p.skipped := by
  simp [Planner.report]

theorem restartPlan_keeps : KeepsAllBut [.spl, .nq] s s.clearPlan.abandonRun :=
  (s.clearPlan_keeps.mono (by decide)).trans s.clearPlan.abandonRun_keeps

theorem State.slot_clearPlan (k : SlotNo) : s.clearPlan.slot k = none := Vector.getElem_replicate _

end

/-- Settles O6: RESTART TRACKING by `State.foldl_restartTrack`, RESTART PLAN by what clearing the plan and abandoning the run
write. -/
theorem partialRestarts : Obligations.PartialRestarts := by
  unfold Obligations.PartialRestarts
  refine fun via s => ⟨?_, ?_⟩
  · let u := allSegments.foldl State.restartTrack s
    have hKeeps := restartTracking_keeps s
    have hItu : (u.answerVia via .restart .ok [1]).itu = u.itu := State.answerVia_itu u via _ _ _
    obtain ⟨hTracks, hFree⟩ := s.foldl_restartTrack (List.nodup_finRange 24)
    refine ⟨_, rfl, answersVia_of_keeps s (k := .restart) via hKeeps (hKeeps.1 .lnk (by decide))
      (hKeeps.1 .rqd (by decide)), fun g => ?_, ?_⟩
    · have hTrack : (u.answerVia via .restart .ok [1]).track g = u.track g := congrArg (fun i : Itu => i.tracks[g]) hItu
      exact hTrack.trans ((hTracks g).trans (if_pos (List.mem_finRange g)))
    · exact (congrArg Itu.free hItu).trans hFree
  · let u := s.clearPlan.abandonRun
    have hKeeps := restartPlan_keeps s
    have hSpl : (u.answerVia via .restart .ok [2]).spl
        = { s.clearPlan.spl with planner := { s.spl.planner with stage := .idle, rerun := false } } :=
      (State.answerVia_spl u via _ _ _).trans s.clearPlan.abandonRun_spl
    refine ⟨_, rfl, answersVia_of_keeps s (k := .restart) via hKeeps (hKeeps.1 .lnk (by decide))
      (hKeeps.1 .rqd (by decide)), fun k => ?_, ?_, ?_, ?_, ?_, ?_⟩
    · exact (congrArg (fun p : Spl => p.orders[k]) hSpl).trans (s.slot_clearPlan k)
    · exact congrArg Spl.windows hSpl
    · exact congrArg Spl.lastTag hSpl
    · exact congrArg Spl.generator hSpl
    · exact congrArg Spl.planner hSpl
    · rw [← s.spl.planner.report_abandoned]
      exact (State.answerVia_nq u via _ _ _).trans s.clearPlan.abandonRun_nq

end Sys2Proof.Machine
end

section
/-! SUPPORT. What a close does at the ITU (R54 to R57): the load and the aging, the stale entries of a segment with an exit gate,
the exits by travel of one without: O23. -/

namespace Sys2Proof.Machine

/-- A list is its longest initial part that passes a test, and a rest whose head does not. -/
theorem takeWhile_append_drop {α : Type} (p : α → Bool) (l : List α) :
    l = l.takeWhile p ++ l.drop (l.takeWhile p).length
      ∧ ∀ x xs, l.drop (l.takeWhile p).length = x :: xs → p x = false := by
  induction l with
  | nil => exact ⟨rfl, fun x xs h => by simp at h⟩
  | cons a l ih =>
    cases ha : p a with
    | true =>
      simp only [List.takeWhile_cons, ha, if_true, List.length_cons, List.drop_succ_cons, List.cons_append]
      exact ⟨congrArg (a :: ·) ih.1, ih.2⟩
    | false =>
      simp only [List.takeWhile_cons, ha, Bool.false_eq_true, if_false, List.length_nil, List.drop_zero, List.nil_append]
      exact ⟨trivial, fun x xs h => (List.cons.inj h).1 ▸ ha⟩

/-! ### The load (R54) -/

section

variable {t : Tracking} {d : SegDef}

theorem Tracking.load_of_noEntry (h : d.entryGate = none) : t.load d = d.fallbackLoad := by
  simp [Tracking.load, h]

theorem Tracking.load_of_clean (h : d.entryGate.isSome = true) (hr : t.resync = false) :
    t.load d = min ((t.transit.map (·.mass)).sum / 100) 1023 := by
  simp [Tracking.load, Tracking.massSum, Option.isSome_iff_ne_none.1 h, hr]

theorem Tracking.load_of_resync (h : d.entryGate.isSome = true) (hr : t.resync = true) :
    t.load d = max (min ((t.transit.map (·.mass)).sum / 100) 1023) d.fallbackLoad := by
  simp [Tracking.load, Tracking.massSum, Option.isSome_iff_ne_none.1 h, hr]

end

/-! ### Tracking errors and the threshold (R59) -/

section

variable {t : Tracking} {threshold : Nat}

/-- An error below the threshold, or one while RESYNC is set, makes no resync. -/
theorem Tracking.resyncsAt_eq_false (h : t.resync = true ∨ t.errors + 1 < threshold) :
    t.resyncsAt threshold = false := by
  obtain h | h := h
  · simp [Tracking.resyncsAt, h]
  · simp [Tracking.resyncsAt, h.ne]

theorem Tracking.erred_of_not (h : t.resyncsAt threshold = false) :
    t.erred threshold = { t with errors := if t.resync then t.errors else t.errors + 1 } := by
  rw [Tracking.erred, h, if_neg Bool.false_ne_true]
  by_cases hr : t.resync = true
  · rw [if_pos hr, if_pos hr]
  · rw [if_neg hr, if_neg hr]

@[simp] theorem Tracking.erred_lastLoad : (t.erred threshold).lastLoad = t.lastLoad := by
  unfold Tracking.erred
  split
  · rfl
  · split <;> rfl

theorem Tracking.flushedAt_of_not (h : t.resyncsAt threshold = false) : t.flushedAt threshold = 0 := by
  simp [Tracking.flushedAt, h]

theorem Tracking.resyncNotes_of_not (h : t.resyncsAt threshold = false) (g : SegNo) : t.resyncNotes g threshold = [] := by
  simp [Tracking.resyncNotes, h]

end

section

variable (s : State)

/-! ### Stale entries (R56) -/

/-- The head of the transit list is removed as stale, a tracking error (R56). -/
def State.staleStep (s : State) (g : SegNo) (d : SegDef) (rest : List Item) : State :=
  (s.removeHead g rest).trackingError g d

theorem State.removeStale_step {d : SegDef} {g : SegNo} {item : Item} {rest : List Item}
    (h : (s.track g).transit = item :: rest) (hOld : 2 * d.length ≤ item.travel) (n : Nat) :
    State.removeStale d g (n + 1) s = State.removeStale d g n (s.staleStep g d rest) := by
  rw [State.removeStale, h]
  exact if_pos hOld

/-- The removal stops at an empty list and at a head that is not stale. -/
theorem State.removeStale_stops {d : SegDef} {g : SegNo}
    (h : ∀ item rest, (s.track g).transit = item :: rest → ¬ 2 * d.length ≤ item.travel) (n : Nat) :
    State.removeStale d g n s = s := by
  cases n with
  | zero => rfl
  | succ n =>
    cases ht : (s.track g).transit with
    | nil => simp only [State.removeStale, ht]
    | cons item rest => simp only [State.removeStale, ht, if_neg (h item rest ht)]

/-- The record after `n` stale removals that bring no resync and leave `rest` in transit. -/
def Tracking.withoutStale (t : Tracking) (n : Nat) (rest : List Item) : Tracking :=
  { t with
    transit := rest, stale := if n = 0 then t.stale else min (t.stale + n) 65535
    errors := if t.resync then t.errors else t.errors + n }

theorem State.staleStep_movesTo {g : SegNo} {d : SegDef}
    (h : (s.track g).resync = true ∨ (s.track g).errors + 1 < d.resyncThreshold) (rest : List Item) :
    MovesTo g ((s.track g).withoutStale 1 rest) (s.itu.free + 1) [] s (s.staleStep g d rest) := by
  have hHead := s.removeHead_movesTo g rest
  have hNot : ((s.removeHead g rest).track g).resyncsAt d.resyncThreshold = false :=
    Tracking.resyncsAt_eq_false (hHead.track ▸ h)
  have hMove := hHead.trans (State.trackingError_movesTo (s.removeHead g rest) g d)
  rw [Tracking.erred_of_not hNot, Tracking.flushedAt_of_not hNot, Tracking.resyncNotes_of_not hNot, hHead.track,
    hHead.free] at hMove
  exact hMove

theorem Tracking.withoutStale_zero {t : Tracking} {rest : List Item} (h : t.transit = rest) : t.withoutStale 0 rest = t := by
  subst h
  simp [Tracking.withoutStale]

theorem Tracking.withoutStale_withoutStale (t : Tracking) (n : Nat) (mid rest : List Item) :
    (t.withoutStale 1 mid).withoutStale n rest = t.withoutStale (n + 1) rest := by
  have hStale : (if n = 0 then min (t.stale + 1) 65535 else min (min (t.stale + 1) 65535 + n) 65535)
      = min (t.stale + (n + 1)) 65535 := by
    split <;> omega
  cases hr : t.resync <;> simp [Tracking.withoutStale, hr, hStale, Nat.add_comm n 1, Nat.add_assoc]

/-- Stale entries whose errors stay below the threshold, or come while RESYNC is set, are removed one after another. -/
theorem State.removeStale_front {d : SegDef} {g : SegNo} (front rest : List Item) {s : State}
    (ht : (s.track g).transit = front ++ rest) (hOld : ∀ i ∈ front, 2 * d.length ≤ i.travel)
    (hRoom : (s.track g).resync = true ∨ (s.track g).errors + front.length < d.resyncThreshold) :
    ∃ m, MovesTo g ((s.track g).withoutStale front.length rest) (s.itu.free + front.length) [] s m
      ∧ ∀ n, State.removeStale d g (front.length + n) s = State.removeStale d g n m := by
  induction front generalizing s with
  | nil =>
    refine ⟨s, ?_, fun n => by rw [List.length_nil, Nat.zero_add]⟩
    rw [List.length_nil, Tracking.withoutStale_zero (rest := rest) ht]
    exact ⟨rfl, fun _ _ => rfl, rfl, rfl, rfl⟩
  | cons item front ih =>
    rw [List.length_cons] at hRoom ⊢
    have hStep := s.staleStep_movesTo (g := g) (d := d) (hRoom.imp_right fun h => by omega) (front ++ rest)
    obtain ⟨m, hMove, hRun⟩ := ih (s := s.staleStep g d (front ++ rest)) (by rw [hStep.track]; rfl)
      (fun i hi => hOld i (List.mem_cons_of_mem _ hi)) (by
        rw [hStep.track]
        cases hr : (s.track g).resync
        · simp only [hr, Bool.false_eq_true, false_or] at hRoom
          simp only [Tracking.withoutStale, hr, Bool.false_eq_true, false_or, if_false]
          omega
        · exact .inl hr)
    rw [hStep.track, hStep.free, Tracking.withoutStale_withoutStale, Nat.add_assoc, Nat.add_comm 1] at hMove
    refine ⟨m, hStep.trans hMove, fun n => ?_⟩
    rw [Nat.add_right_comm, s.removeStale_step ht (hOld item List.mem_cons_self)]
    exact hRun n

/-- All stale entries are removed where their errors do not bring the count to the threshold (R56, R59). -/
theorem State.removeStale_all {d : SegDef} {g : SegNo} {stale rest : List Item} {n : Nat}
    (ht : (s.track g).transit = stale ++ rest) (hOld : ∀ i ∈ stale, 2 * d.length ≤ i.travel)
    (hStop : ∀ i xs, rest = i :: xs → ¬ 2 * d.length ≤ i.travel) (hn : stale.length ≤ n)
    (hRoom : (s.track g).resync = true ∨ (s.track g).errors + stale.length < d.resyncThreshold) :
    MovesTo g ((s.track g).withoutStale stale.length rest) (s.itu.free + stale.length) [] s
      (State.removeStale d g n s) := by
  obtain ⟨m, hMove, hRun⟩ := State.removeStale_front stale rest ht hOld hRoom
  obtain ⟨k, rfl⟩ := Nat.exists_eq_add_of_le hn
  rw [hRun, m.removeStale_stops fun i xs h => hStop i xs (by rw [← h, hMove.track]; rfl)]
  exact hMove

/-- The stale entry whose error brings the count to the threshold makes a resync, which ends the removal (R56, R60). -/
theorem State.staleStep_resyncs {g : SegNo} {d : SegDef} (hr : (s.track g).resync = false)
    (he : (s.track g).errors + 1 = d.resyncThreshold) (rest : List Item) :
    MovesTo g
      { s.track g with
        arrival := [], transit := [], resync := true, errors := 0, stale := min ((s.track g).stale + 1) 65535
        resyncs := min ((s.track g).resyncs + 1) 65535 }
      (s.itu.free + 1 + ((s.track g).arrival.length + rest.length))
      [(.trackResync, g.val, (s.track g).arrival.length + rest.length)] s (s.staleStep g d rest) := by
  have hHead := s.removeHead_movesTo g rest
  have hMove := hHead.trans (State.trackingError_movesTo (s.removeHead g rest) g d)
  have hResyncs : ((s.removeHead g rest).track g).resyncsAt d.resyncThreshold = true := by
    rw [hHead.track]
    simp [Tracking.resyncsAt, hr, he]
  simp only [Tracking.erred, Tracking.flushedAt, Tracking.resyncNotes, hResyncs, if_true] at hMove
  rw [hHead.track, hHead.free] at hMove
  exact hMove

/-- The removal ends at the stale entry whose error brings the count to the threshold. -/
theorem State.removeStale_resyncs_at {d : SegDef} {g : SegNo} {front tail : List Item} {item : Item} {n : Nat}
    (ht : (s.track g).transit = front ++ item :: tail) (hOld : ∀ i ∈ front, 2 * d.length ≤ i.travel)
    (hItem : 2 * d.length ≤ item.travel) (hn : front.length + 1 ≤ n) (hr : (s.track g).resync = false)
    (he : (s.track g).errors + (front.length + 1) = d.resyncThreshold) :
    MovesTo g
      { s.track g with
        arrival := [], transit := [], resync := true, errors := 0
        stale := min ((s.track g).stale + (front.length + 1)) 65535, resyncs := min ((s.track g).resyncs + 1) 65535 }
      (s.itu.free + (s.track g).count) [(.trackResync, g.val, (s.track g).count - (front.length + 1))] s
      (State.removeStale d g n s) := by
  obtain ⟨m, hMove, hRun⟩ := State.removeStale_front front (item :: tail) ht hOld (.inr (by omega))
  obtain ⟨k, rfl⟩ := Nat.exists_eq_add_of_le hn
  have hStep := m.staleStep_resyncs (g := g) (d := d) (by rw [hMove.track]; exact hr)
    (by rw [hMove.track]; simp only [Tracking.withoutStale, hr, Bool.false_eq_true, if_false]; omega) tail
  have hEnd : State.removeStale d g (front.length + 1 + k) s = m.staleStep g d tail := by
    rw [Nat.add_assoc, hRun, Nat.add_comm 1, m.removeStale_step (by rw [hMove.track]; rfl) hItem]
    exact State.removeStale_stops _ (fun i xs h => by rw [hStep.track] at h; cases h) k
  have hStale : min ((if front.length = 0 then (s.track g).stale else min ((s.track g).stale + front.length) 65535) + 1) 65535
      = min ((s.track g).stale + (front.length + 1)) 65535 := by
    split <;> omega
  have hCount : (s.track g).count = (s.track g).arrival.length + (front.length + (tail.length + 1)) := by
    rw [Tracking.count, ht, List.length_append, List.length_cons]
  have hLeft : (s.track g).arrival.length + tail.length = (s.track g).count - (front.length + 1) := by omega
  have hFree : s.itu.free + front.length + 1 + ((s.track g).count - (front.length + 1))
      = s.itu.free + (s.track g).count := by omega
  have hAll := hMove.trans hStep
  rw [hMove.track, hMove.free] at hAll
  simp only [Tracking.withoutStale, hStale, hLeft, hFree, List.nil_append] at hAll
  rw [hEnd]
  exact hAll

/-- Where the errors of the stale entries reach the threshold, the one that reaches it makes a resync (R56, R60). -/
theorem State.removeStale_resyncs {d : SegDef} {g : SegNo} {stale rest : List Item} {n : Nat}
    (ht : (s.track g).transit = stale ++ rest) (hOld : ∀ i ∈ stale, 2 * d.length ≤ i.travel) (hn : stale.length ≤ n)
    (hr : (s.track g).resync = false) (hBelow : (s.track g).errors < d.resyncThreshold)
    (hReach : d.resyncThreshold ≤ (s.track g).errors + stale.length) :
    let removed := d.resyncThreshold - (s.track g).errors
    MovesTo g
      { s.track g with
        arrival := [], transit := [], resync := true, errors := 0, stale := min ((s.track g).stale + removed) 65535
        resyncs := min ((s.track g).resyncs + 1) 65535 }
      (s.itu.free + (s.track g).count) [(.trackResync, g.val, (s.track g).count - removed)] s
      (State.removeStale d g n s) := by
  intro removed
  obtain ⟨k, hk⟩ : ∃ k, removed = k + 1 := ⟨removed - 1, by omega⟩
  have hLt : k < stale.length := by omega
  have hFront : (stale.take k).length = k := List.length_take_of_le hLt.le
  have hSplit : stale = stale.take k ++ stale[k] :: stale.drop (k + 1) := by
    rw [← List.drop_eq_getElem_cons hLt, List.take_append_drop]
  rw [hSplit, List.append_assoc, List.cons_append] at ht
  have h := s.removeStale_resyncs_at (n := n) ht (fun i hi => hOld i (List.mem_of_mem_take hi))
    (hOld _ (List.getElem_mem hLt)) (by omega) hr (by omega)
  rwa [hFront, ← hk] at h

/-- The removal of stale entries is at its segment, whose last load stands. -/
theorem State.removeStale_frame (d : SegDef) (g : SegNo) (n : Nat) :
    KeepsOtherTracks g s (State.removeStale d g n s)
      ∧ ((State.removeStale d g n s).track g).lastLoad = (s.track g).lastLoad := by
  induction n generalizing s with
  | zero => exact ⟨fun _ _ => rfl, rfl⟩
  | succ n ih =>
    by_cases h : ∃ item rest, (s.track g).transit = item :: rest ∧ 2 * d.length ≤ item.travel
    · obtain ⟨item, rest, ht, hOld⟩ := h
      have hMove := (s.removeHead_movesTo g rest).trans (State.trackingError_movesTo _ g d)
      obtain ⟨hOthers, hLoad⟩ := ih (s.staleStep g d rest)
      rw [s.removeStale_step ht hOld]
      refine ⟨fun j hj => (hOthers j hj).trans (hMove.others j hj), hLoad.trans ?_⟩
      rw [State.staleStep, hMove.track, Tracking.erred_lastLoad, (s.removeHead_movesTo g rest).track]
    · rw [s.removeStale_stops fun item rest ht hOld => h ⟨item, rest, ht, hOld⟩]
      exact ⟨fun _ _ => rfl, rfl⟩

/-! ### Exits by travel (R57) -/

theorem State.exitByTravel_step {d : SegDef} {g : SegNo} {item : Item} {rest : List Item}
    (h : (s.track g).transit = item :: rest) (hFar : d.length ≤ item.travel) (n : Nat) :
    State.exitByTravel d g (n + 1) s = State.exitByTravel d g n (s.cleanExit g d item rest) := by
  rw [State.exitByTravel, h]
  exact if_pos hFar

/-- The exits stop at an empty list and at a head that has not ridden the length. -/
theorem State.exitByTravel_stops {d : SegDef} {g : SegNo}
    (h : ∀ item rest, (s.track g).transit = item :: rest → ¬ d.length ≤ item.travel) (n : Nat) :
    State.exitByTravel d g n s = s := by
  cases n with
  | zero => rfl
  | succ n =>
    cases ht : (s.track g).transit with
    | nil => simp only [State.exitByTravel, ht]
    | cons item rest => simp only [State.exitByTravel, ht, if_neg (h item rest ht)]

/-- A clean exit leaves the rest of the transit list and the last load, wherever the item goes. -/
theorem State.cleanExit_leaves (g : SegNo) (d : SegDef) (item : Item) (rest : List Item) :
    ((s.cleanExit g d item rest).track g).transit = rest
      ∧ ((s.cleanExit g d item rest).track g).lastLoad = (s.track g).lastLoad := by
  let u := s.setTrack g ((s.track g).left rest)
  have hu : u.track g = (s.track g).left rest := s.track_setTrack_self g _
  rw [s.cleanExit_eq]
  obtain h | h | ⟨b, i, -, h⟩ := u.handOnItem_cases g d item
  · rw [h.track, hu]
    exact ⟨rfl, rfl⟩
  · rw [h.track, hu]
    exact ⟨rfl, rfl⟩
  · rw [h]
    by_cases hb : g = b
    · subst hb
      rw [State.track_setTrack_self, hu]
      exact ⟨rfl, rfl⟩
    · rw [State.track_setTrack_ne _ hb, hu]
      exact ⟨rfl, rfl⟩

theorem State.exitByTravel_lastLoad (d : SegDef) (g : SegNo) (n : Nat) :
    ((State.exitByTravel d g n s).track g).lastLoad = (s.track g).lastLoad := by
  induction n generalizing s with
  | zero => rfl
  | succ n ih =>
    by_cases h : ∃ item rest, (s.track g).transit = item :: rest ∧ d.length ≤ item.travel
    · obtain ⟨item, rest, ht, hFar⟩ := h
      rw [s.exitByTravel_step ht hFar, ih, (s.cleanExit_leaves g d item rest).2]
    · rw [s.exitByTravel_stops fun item rest ht hFar => h ⟨item, rest, ht, hFar⟩]

/-- The entries that have ridden the length depart one after another (R57). -/
theorem State.exitByTravel_departAll {d : SegDef} {g : SegNo} (ridden rest : List Item) {n : Nat} {s : State}
    (ht : (s.track g).transit = ridden ++ rest) (hFar : ∀ i ∈ ridden, d.length ≤ i.travel)
    (hStop : ∀ i xs, rest = i :: xs → ¬ d.length ≤ i.travel) (hn : ridden.length ≤ n) :
    DepartAll g d ridden rest s (State.exitByTravel d g n s) := by
  induction ridden generalizing s n with
  | nil => exact s.exitByTravel_stops (fun i xs h => hStop i xs (ht.symm.trans h)) n
  | cons item ridden ih =>
    obtain ⟨k, rfl⟩ := Nat.exists_eq_add_of_le' hn
    have hEnd : State.exitByTravel d g (k + (item :: ridden).length) s
        = State.exitByTravel d g (k + ridden.length) (s.cleanExit g d item (ridden ++ rest)) :=
      s.exitByTravel_step ht (hFar item List.mem_cons_self) _
    rw [hEnd]
    exact ⟨_, s.cleanExit_keeps g d item _, s.cleanExit_departs g d item _,
      ih (s.cleanExit_leaves g d item _).1 (fun i hi => hFar i (List.mem_cons_of_mem _ hi)) (Nat.le_add_left _ k)⟩

end

end Sys2Proof.Machine
end

section
/-! SUPPORT. What departing one after another comes to (R57), and the close as a whole: O23. -/

namespace Sys2Proof.Machine

/-! ### Departing one after another -/

theorem Takes.of_keeps {s u : State} (h : KeepsAllBut [.itu, .nq] s u) (b : SegNo) : Takes u b ↔ Takes s b := by
  have hSmu : u.smu = s.smu := h.1 .smu (by decide)
  simp only [Takes, State.defn, State.segment, hSmu]

/-- The record after the items of a list have departed and left `rest`, their deliveries not yet counted (R49). -/
def Tracking.departed (t : Tracking) (items rest : List Item) : Tracking :=
  { t with
    transit := rest, errors := if items = [] then t.errors else 0, resync := if items = [] then t.resync else false }

theorem Tracking.departed_nil {t : Tracking} {rest : List Item} (h : t.transit = rest) : t.departed [] rest = t := by
  subst h
  rfl

/-- Items without successors that take items are delivered one after another. -/
theorem DepartAll.delivers {g : SegNo} {d : SegDef} {items rest : List Item} {s t : State}
    (h : DepartAll g d items rest s t) (ht : (s.track g).transit = items ++ rest)
    (hNone : ∀ i ∈ items, ∀ b, (chooseSuccessor d i.route).1 = some b → ¬ Takes s b) :
    MovesTo g
      { (s.track g).departed items rest with
        delivered := if items = [] then (s.track g).delivered else min ((s.track g).delivered + items.length) 65535 }
      (s.itu.free + items.length) [] s t := by
  induction items generalizing s with
  | nil =>
    have e : t = s := h
    subst e
    rw [Tracking.departed_nil (rest := rest) ht]
    exact ⟨rfl, fun _ _ => rfl, rfl, rfl, rfl⟩
  | cons item items ih =>
    obtain ⟨u, hKeeps, hDeparts, hRest⟩ := h
    obtain ⟨hTrack, hOthers, hFree, hPosts⟩ := hDeparts.1 (hNone item List.mem_cons_self)
    have hFirst : MovesTo g _ _ [] s u := ⟨hTrack, hOthers, hFree, hPosts, hKeeps.1 .etm (by decide)⟩
    have hAll := hFirst.trans (ih hRest (by rw [hTrack]; rfl) fun i hi b hb hTakes =>
      hNone i (List.mem_cons_of_mem _ hi) b hb ((Takes.of_keeps hKeeps b).1 hTakes))
    have hDelivered : (if items = [] then min ((s.track g).delivered + 1) 65535
        else min (min ((s.track g).delivered + 1) 65535 + items.length) 65535)
        = min ((s.track g).delivered + (items.length + 1)) 65535 := by
      split
      · next h => rw [h, List.length_nil]
      · omega
    rw [hTrack, hFree, Nat.add_assoc, Nat.add_comm 1] at hAll
    simp only [Tracking.departed, Tracking.left, hDelivered, ite_self] at hAll
    exact hAll

/-- Items that all go to one successor with room for them are handed on one after another. -/
theorem DepartAll.handsOn {g b : SegNo} {d : SegDef} (hs : d.straight = some b) (hd : d.divert = none) (hne : b ≠ g)
    {items rest : List Item} {s t : State} (h : DepartAll g d items rest s t)
    (ht : (s.track g).transit = items ++ rest) (hTakes : Takes s b)
    (hRoom : (s.track b).arrival.length + items.length ≤ 32) :
    t.track g = (s.track g).departed items rest ∧ KeepsTracksBut g b s t ∧ t.itu.free = s.itu.free ∧ Posts [] s t
      ∧ t.track b = { s.track b with
          arrival := (s.track b).arrival ++ items.map fun i => { i with travel := 0 } } := by
  induction items generalizing s with
  | nil =>
    have e : t = s := h
    subst e
    rw [Tracking.departed_nil (rest := rest) ht]
    exact ⟨rfl, fun _ _ _ => rfl, rfl, rfl, by simp⟩
  | cons item items ih =>
    obtain ⟨u, hKeeps, hDeparts, hRest⟩ := h
    have hChosen : chooseSuccessor d item.route = (some b, item.route) := by simp only [chooseSuccessor, hs, hd]
    rw [List.length_cons] at hRoom
    obtain ⟨hLeft, hArrives, hOthers, hFree, hPosts⟩ :=
      (hDeparts.2 b (by rw [hChosen]) hTakes hne).1 (by omega)
    rw [hChosen] at hArrives
    obtain ⟨hTrack', hOthers', hFree', hPosts', hArrives'⟩ := ih hRest (by rw [hLeft]; rfl)
      ((Takes.of_keeps hKeeps b).2 hTakes) (by rw [hArrives, List.length_append, List.length_singleton]; omega)
    refine ⟨?_, fun j hjg hjb => (hOthers' j hjg hjb).trans (hOthers j hjg hjb), hFree'.trans hFree,
      hPosts.trans (hKeeps.1 .etm (by decide)) hPosts', ?_⟩
    · rw [hTrack', hLeft]
      simp only [Tracking.departed, Tracking.left, ite_self]
      rfl
    · rw [hArrives', hArrives]
      simp

/-! ### The close -/

section

variable (s : State)

/-- The load of a close stored and the segment's items aged, none removed or passed on yet (R54, R55). -/
def State.loadAndAge (s : State) (g : SegNo) (d : SegDef) (travel : Nat) : State :=
  (s.storeLoad g ((s.track g).load d)).setTrack g { (s.storeLoad g ((s.track g).load d)).track g with
    transit := agedBy travel ((s.storeLoad g ((s.track g).load d)).track g).transit }

theorem State.loadAndAge_movesTo (g : SegNo) (d : SegDef) (travel : Nat) :
    MovesTo g { s.track g with lastLoad := (s.track g).load d, transit := agedBy travel (s.track g).transit } s.itu.free []
      s (s.loadAndAge g d travel) := by
  have hStore := s.setTrack_movesTo g { s.track g with lastLoad := (s.track g).load d }
  have h := hStore.trans (State.setTrack_movesTo (s.storeLoad g ((s.track g).load d)) g
    { (s.storeLoad g ((s.track g).load d)).track g with
      transit := agedBy travel ((s.storeLoad g ((s.track g).load d)).track g).transit })
  have hTrack : (s.storeLoad g ((s.track g).load d)).track g = { s.track g with lastLoad := (s.track g).load d } :=
    hStore.track
  rw [hTrack] at h
  rw [State.loadAndAge, hTrack]
  exact h

theorem State.loadAndAge_keeps (g : SegNo) (d : SegDef) (travel : Nat) :
    KeepsAllBut [.itu] s (s.loadAndAge g d travel) := by
  simp [State.loadAndAge, keepsAllBut_iff]

variable {g : SegNo} {d : SegDef}

theorem State.ageAt_of_untracked (h : d.entryGate = none) (travel : Nat) :
    s.ageAt g d travel = s.loadAndAge g d travel := by
  have hNone : d.entryGate.isNone = true := by rw [h]; rfl
  exact if_pos hNone

theorem State.length_transit_storeLoad (load : Nat) :
    ((s.storeLoad g load).track g).transit.length = (s.track g).transit.length := by
  rw [State.storeLoad, State.track_setTrack_self]

theorem State.ageAt_of_exitGate (h : d.entryGate.isSome = true) (he : d.exitGate.isSome = true) (travel : Nat) :
    s.ageAt g d travel = State.removeStale d g (s.track g).transit.length (s.loadAndAge g d travel) := by
  have hSome : ¬ d.entryGate.isNone = true := by rw [Option.isNone_iff_eq_none]; exact Option.isSome_iff_ne_none.1 h
  rw [← s.length_transit_storeLoad (g := g) ((s.track g).load d)]
  exact (if_neg hSome).trans (if_pos he)

theorem State.ageAt_of_noExitGate (h : d.entryGate.isSome = true) (he : d.exitGate = none) (travel : Nat) :
    s.ageAt g d travel = State.exitByTravel d g (s.track g).transit.length (s.loadAndAge g d travel) := by
  have hSome : ¬ d.entryGate.isNone = true := by rw [Option.isNone_iff_eq_none]; exact Option.isSome_iff_ne_none.1 h
  have hNo : ¬ d.exitGate.isSome = true := by rw [he]; exact Bool.false_ne_true
  rw [← s.length_transit_storeLoad (g := g) ((s.track g).load d)]
  exact (if_neg hSome).trans (if_neg hNo)

theorem State.ageAt_lastLoad (g : SegNo) (d : SegDef) (travel : Nat) :
    ((s.ageAt g d travel).track g).lastLoad = (s.track g).load d := by
  have hAge := (s.loadAndAge_movesTo g d travel).track
  cases h : d.entryGate with
  | none => rw [s.ageAt_of_untracked h, hAge]
  | some l =>
    have hSome : d.entryGate.isSome = true := by rw [h]; rfl
    cases he : d.exitGate with
    | none => rw [s.ageAt_of_noExitGate hSome he, State.exitByTravel_lastLoad, hAge]
    | some k =>
      rw [s.ageAt_of_exitGate hSome (by rw [he]; rfl), (State.removeStale_frame _ d g _).2, hAge]

theorem length_agedBy (travel : Nat) (items : List Item) : (agedBy travel items).length = items.length :=
  List.length_map _

end

/-- Every successor that an item can be given is one of the definition's two (R50). -/
theorem chooseSuccessor_mem {d : SegDef} {route : List Bool} {b : SegNo} (h : (chooseSuccessor d route).1 = some b) :
    d.straight = some b ∨ d.divert = some b := by
  unfold chooseSuccessor at h
  split at h
  · next v hs hd =>
    split at h
    · exact .inr (hd.trans h)
    · exact .inl h
    · exact .inl h
  · next a hs hd => exact .inl (hs.trans h)
  · cases h

section

variable (s : State) {g : SegNo} {d : SegDef}

/-- What a close does to a segment with both gates: below the threshold the stale entries alone go, at it all do (R56, R59,
R60). -/
theorem State.ageAt_removesStale (h : d.entryGate.isSome = true) (he : d.exitGate.isSome = true) (travel : Nat) :
    let a := s.track g
    let aged := agedBy travel a.transit
    let stale := aged.takeWhile fun i => decide (2 * d.length ≤ i.travel)
    let u := s.loadAndAge g d travel
    let t := s.ageAt g d travel
    (a.resync = true ∨ a.errors + stale.length < d.resyncThreshold →
        MovesTo g ((u.track g).withoutStale stale.length (aged.drop stale.length)) (s.itu.free + stale.length) [] s t)
      ∧ (a.resync = false → a.errors < d.resyncThreshold → d.resyncThreshold ≤ a.errors + stale.length →
        let removed := d.resyncThreshold - a.errors
        MovesTo g
          { u.track g with
            arrival := [], transit := [], resync := true, errors := 0, stale := min (a.stale + removed) 65535
            resyncs := min (a.resyncs + 1) 65535 }
          (s.itu.free + a.count) [(.trackResync, g.val, a.count - removed)] s t) := by
  intro a aged stale u t
  have hAge := s.loadAndAge_movesTo g d travel
  have hTrack : u.track g = { a with lastLoad := a.load d, transit := aged } := hAge.track
  have hFree : u.itu.free = s.itu.free := hAge.free
  obtain ⟨hSplit, hStop⟩ := takeWhile_append_drop (fun i : Item => decide (2 * d.length ≤ i.travel)) aged
  have hTransit : (u.track g).transit = stale ++ aged.drop stale.length := by rw [hTrack]; exact hSplit
  have hOld : ∀ i ∈ stale, 2 * d.length ≤ i.travel := fun i hi => by simpa using List.mem_takeWhile_imp hi
  have hFuel : stale.length ≤ a.transit.length :=
    (List.takeWhile_sublist _).length_le.trans (length_agedBy travel a.transit).le
  have hEnd : t = State.removeStale d g a.transit.length u := s.ageAt_of_exitGate h he travel
  rw [hEnd]
  refine ⟨fun hRoom => ?_, fun hr hBelow hReach => ?_⟩
  · have hMove := hAge.trans (u.removeStale_all hTransit hOld
      (fun i xs hx => by simpa using hStop i xs hx) hFuel (by rw [hTrack]; exact hRoom))
    rwa [hFree] at hMove
  · have hMove := hAge.trans (u.removeStale_resyncs (d := d) hTransit hOld hFuel (by rw [hTrack]; exact hr)
      (by rw [hTrack]; exact hBelow) (by rw [hTrack]; exact hReach))
    have hCount : (u.track g).count = a.count := by
      rw [hTrack, Tracking.count, Tracking.count, length_agedBy]
    rw [hFree, hCount] at hMove
    simp only [hTrack] at hMove ⊢
    exact hMove

/-- What a close does to a segment without an exit gate: the items that have ridden its length depart (R57). -/
theorem State.ageAt_departs (h : d.entryGate.isSome = true) (he : d.exitGate = none) (travel : Nat) :
    let aged := agedBy travel (s.track g).transit
    let ridden := aged.takeWhile fun i => decide (d.length ≤ i.travel)
    let u := s.loadAndAge g d travel
    (u.track g).transit = ridden ++ aged.drop ridden.length
      ∧ DepartAll g d ridden (aged.drop ridden.length) u (s.ageAt g d travel) := by
  intro aged ridden u
  have hAge := s.loadAndAge_movesTo g d travel
  obtain ⟨hSplit, hStop⟩ := takeWhile_append_drop (fun i : Item => decide (d.length ≤ i.travel)) aged
  have hTransit : (u.track g).transit = ridden ++ aged.drop ridden.length := by rw [hAge.track]; exact hSplit
  have hFuel : ridden.length ≤ (s.track g).transit.length :=
    (List.takeWhile_sublist _).length_le.trans (length_agedBy travel (s.track g).transit).le
  rw [s.ageAt_of_noExitGate h he]
  exact ⟨hTransit, State.exitByTravel_departAll ridden _ hTransit
    (fun i hi => by simpa using List.mem_takeWhile_imp hi) (fun i xs hx => by simpa using hStop i xs hx) hFuel⟩

end

/-- Settles O23: the load by its three cases, then the removals (`State.ageAt_removesStale`) or the departures
(`State.ageAt_departs`) on the state with the load stored and the items aged. -/
theorem closeAgesItems : Obligations.CloseAgesItems := by
  unfold Obligations.CloseAgesItems
  intro g d travel s a load t aged masses stale ridden
  have hAge := s.loadAndAge_movesTo g d travel
  have hLoaded := s.loadAndAge_keeps g d travel
  have hTakes : ∀ b, Takes (s.loadAndAge g d travel) b ↔ Takes s b := Takes.of_keeps (hLoaded.mono (by decide))
  refine ⟨Tracking.load_of_noEntry, Tracking.load_of_clean, Tracking.load_of_resync, ?_, s.ageAt_lastLoad g d travel,
    fun h => ?_, fun h he => ⟨?_, fun hRoom => ?_, fun hr hBelow hReach => ?_⟩, fun h he => ⟨fun hNone => ?_, ?_⟩,
    fun h he => ?_⟩
  · exact ((s.storeLoad_keeps g load).mono (by decide)).trans (State.ageItems_keeps _ g d travel)
  · have hEnd : t = s.loadAndAge g d travel := s.ageAt_of_untracked h travel
    rw [hEnd]
    exact ⟨hAge.track, hAge.others, hAge.free, hAge.posts⟩
  · have hEnd : t = _ := s.ageAt_of_exitGate (g := g) h he travel
    rw [hEnd]
    exact fun j hj => ((State.removeStale_frame _ d g _).1 j hj).trans (hAge.others j hj)
  · have hMove := (s.ageAt_removesStale h he travel).1 hRoom
    rw [hAge.track] at hMove
    simp only [Tracking.withoutStale, List.length_eq_zero_iff] at hMove
    exact ⟨hMove.track, hMove.free, hMove.posts⟩
  · have hMove := (s.ageAt_removesStale h he travel).2 hr hBelow hReach
    rw [hAge.track] at hMove
    exact ⟨hMove.track, hMove.free, hMove.posts⟩
  · obtain ⟨hTransit, hAll⟩ := s.ageAt_departs (g := g) h he travel
    have hMove := hAge.trans (hAll.delivers hTransit fun i _ b hb ht =>
      hNone b (chooseSuccessor_mem hb) ((hTakes b).1 ht))
    rw [hAge.track, hAge.free] at hMove
    exact ⟨hMove.track, hMove.others, hMove.free, hMove.posts⟩
  · intro b hs hd hTake hne hRoom
    obtain ⟨hTransit, hAll⟩ := s.ageAt_departs (g := g) h he travel
    have hArrival : (s.loadAndAge g d travel).track b = s.track b := hAge.others b hne
    obtain ⟨hTrack, hOthers, hFree, hPosts, hArrives⟩ := hAll.handsOn hs hd hne hTransit ((hTakes b).2 hTake)
      (by rw [hArrival]; exact hRoom)
    rw [hAge.track] at hTrack
    rw [hArrival] at hArrives
    exact ⟨hTrack, fun j hjg hjb => (hOthers j hjg hjb).trans (hAge.others j hjg), hFree.trans hAge.free,
      hAge.posts.trans hAge.etm hPosts, hArrives⟩
  · exact ⟨_, hLoaded, hAge.others, hAge.free, hAge.track, (s.ageAt_departs h he travel).2⟩

end Sys2Proof.Machine
end

section
/-! SUPPORT. One accrual of a member (R70 to R72, R79 to R82, R86): its factors, its residue, the fields it writes and the
notices it posts: O25. -/

namespace Sys2Proof.Machine

/-! ### The factors (R70) -/

theorem loadFactor_bounds {load kLoad : Nat} (hl : load ≤ 1023) (hk : kLoad ≤ 255) :
    1024 ≤ loadFactor load kLoad ∧ loadFactor load kLoad ≤ 17328 := by
  have h : load * kLoad ≤ 1023 * 255 := Nat.mul_le_mul hl hk
  unfold loadFactor
  omega

theorem slipFactor_bounds {slip kSlip : Nat} (hs : slip ≤ 1000) (hk : kSlip ≤ 255) :
    1024 ≤ slipFactor slip kSlip ∧ slipFactor slip kSlip ≤ 32899 := by
  have h : slip * kSlip ≤ 1000 * 255 := Nat.mul_le_mul hs hk
  unfold slipFactor
  omega

@[simp] theorem loadFactor_zero (load : Nat) : loadFactor load 0 = 1024 := by simp [loadFactor]

@[simp] theorem slipFactor_zero (slip : Nat) : slipFactor slip 0 = 1024 := by simp [slipFactor]

/-! ### The travel of one report (R11, R71) -/

theorem SegRun.reckonedTravel_le {r : SegRun} {ms : Nat} (hms : ms ≤ 60000) (hv : r.speed ≤ 20000)
    (hr : r.residue < 1000) : r.reckonedTravel ms ≤ 1200000 := by
  have h : r.speed * ms ≤ 20000 * 60000 := Nat.mul_le_mul hv hms
  unfold SegRun.reckonedTravel
  omega

theorem SegRun.partialTravel_le {r : SegRun} {d : SegDef} {w : MeasWindow} (hd : d.driveCal ≤ 65535)
    (hw : w.drive ≤ 4096) (hr : r.residue < 1000) : r.partialTravel d w ≤ 1200000 := by
  have h : w.drive * d.driveCal ≤ 4096 * 65535 := Nat.mul_le_mul hw hd
  unfold SegRun.partialTravel
  omega

/-! ### The moves of a state (R80 to R82) -/

/-- The moves that are upward (R81). -/
theorem WearState.rank_lt_iff (a b : WearState) :
    a.rank < b.rank ↔ (a = .normal ∧ b ≠ .normal) ∨ (a = .warn ∧ b = .due) := by
  cases a <;> cases b <;> decide

/-- A move that is not upward passes no level (R81). -/
theorem passedLevels_of_rank_le {a b : WearState} (h : b.rank ≤ a.rank) : passedLevels a b = [] := by
  revert h
  cases a <;> cases b <;> decide

section

variable (m : Member)

/-- A move posts MEMBER_WARN where it leaves NORMAL and MEMBER_DUE where it comes to DUE, in that order (R81, R82). -/
theorem Member.levelNotes_eq (new : WearState) :
    m.levelNotes new = (if m.state = .normal ∧ new ≠ .normal then [(.memberWarn, m.wear / 256)] else [])
      ++ (if m.state ≠ .due ∧ new = .due then [(.memberDue, m.wear / 256)] else []) := by
  unfold Member.levelNotes
  cases m.state <;> cases new <;> rfl

/-- Upward evaluation writes the state alone (R80). -/
theorem Member.evalUpward_fst :
    m.evalUpward.1 = { m with
      state := if (m.state = .normal ∧ m.named ≠ .normal) ∨ (m.state = .warn ∧ m.named = .due) then m.named
        else m.state } := by
  unfold Member.evalUpward
  simp only [WearState.rank_lt_iff]
  split <;> rfl

/-- The notices of an upward evaluation are those of a move to the named state: a move that is not upward posts none. -/
theorem Member.evalUpward_snd : m.evalUpward.2 = m.levelNotes m.named := by
  unfold Member.evalUpward
  split
  · rfl
  · next h => simp [Member.levelNotes, passedLevels_of_rank_le (Nat.le_of_not_lt h)]

/-! ### Where the wear goes (R72, R86) -/

theorem Member.takeWear_of_free (h : m.held = false) (dW : Nat) :
    m.takeWear dW = Member.evalUpward { m with wear := min (m.wear + dW) (2 ^ 40 - 1) } := by
  simp only [Member.takeWear, h]
  rfl

theorem Member.takeWear_of_room (h : m.held = true) {dW : Nat} (hr : m.deferred + dW ≤ 2 ^ 24 - 1) :
    m.takeWear dW = ({ m with deferred := m.deferred + dW }, []) := by
  rw [Member.takeWear, if_pos h]
  exact if_pos hr

/-- Past the top of deferred the excess goes to lost wear, noted once a hold (R86). -/
theorem Member.takeWear_of_overflow (h : m.held = true) {dW : Nat} (hr : 2 ^ 24 - 1 < m.deferred + dW) :
    let lost := min (m.lostWear + (m.deferred + dW - (2 ^ 24 - 1))) (2 ^ 32 - 1)
    m.takeWear dW = ({ m with deferred := 2 ^ 24 - 1, lostWear := lost, overflowNoted := true },
      if m.overflowNoted then [] else [(.deferredOverflow, lost)]) := by
  rw [Member.takeWear, if_pos h]
  exact if_neg (Nat.not_le.2 hr)

/-- Whatever takes the wear, the fields outside the wear, the state and the hold's figures stand. -/
theorem Member.takeWear_writes (dW : Nat) : ∃ wear state deferred lostWear overflowNoted,
    (m.takeWear dW).1 = { m with wear, state, deferred, lostWear, overflowNoted } := by
  by_cases h : m.held = true
  · by_cases hr : m.deferred + dW ≤ 2 ^ 24 - 1
    · exact ⟨m.wear, m.state, _, m.lostWear, m.overflowNoted, by rw [m.takeWear_of_room h hr]⟩
    · exact ⟨m.wear, m.state, _, _, _, by rw [m.takeWear_of_overflow h (Nat.lt_of_not_le hr)]⟩
  · exact ⟨_, _, m.deferred, m.lostWear, m.overflowNoted, by
      rw [m.takeWear_of_free (Bool.eq_false_iff.2 h), Member.evalUpward_fst]⟩

/-! ### The checkpoint (R79) -/

/-- The checkpoint test is due: a threshold is set, the checkpoint armed, and the unsaved wear has reached it (R79). -/
def Member.checkpointDue (threshold : Nat) : Prop :=
  0 < threshold ∧ m.checkpointArmed = true ∧ threshold ≤ m.unsavedWear

theorem Member.testCheckpoint_of_due {threshold : Nat} (h : m.checkpointDue threshold) :
    m.testCheckpoint threshold = ({ m with checkpointArmed := false }, [(.checkpoint, m.unsavedWear)]) := if_pos h

theorem Member.testCheckpoint_of_not_due {threshold : Nat} (h : ¬ m.checkpointDue threshold) :
    m.testCheckpoint threshold = (m, []) := if_neg h

/-- The checkpoint test writes its arming alone. -/
theorem Member.testCheckpoint_writes (threshold : Nat) :
    ∃ armed, (m.testCheckpoint threshold).1 = { m with checkpointArmed := armed } := by
  by_cases h : m.checkpointDue threshold
  · exact ⟨false, by rw [m.testCheckpoint_of_due h]⟩
  · exact ⟨m.checkpointArmed, by rw [m.testCheckpoint_of_not_due h]⟩

/-! ### The whole accrual -/

variable (rep : CloseReport) (load threshold : Nat)

/-- The figures that every accrual adds to (R71, R72). -/
theorem Member.addFigures_eq :
    m.addFigures rep load = { m with
      residue := m.product rep load % 2 ^ 20
      epochWear := min (m.epochWear + m.product rep load / 2 ^ 20) (2 ^ 32 - 1)
      unsavedWear := min (m.unsavedWear + m.product rep load / 2 ^ 20) (2 ^ 32 - 1)
      reckonedWear :=
        if rep.kind = .reckoning then min (m.reckonedWear + m.product rep load / 2 ^ 20) (2 ^ 32 - 1)
        else m.reckonedWear } := rfl

/-- The member of an accrual once the wear is taken, before the checkpoint test. -/
def Member.worn (m : Member) (rep : CloseReport) (load : Nat) : Member × List (NoticeKind × Nat) :=
  (m.addFigures rep load).takeWear (m.product rep load / 2 ^ 20)

theorem Member.accrue_eq :
    m.accrue rep load threshold = (((m.worn rep load).1.testCheckpoint threshold).1,
      (m.worn rep load).2 ++ ((m.worn rep load).1.testCheckpoint threshold).2) := rfl

/-- Every field that an accrual may write; the others stand. -/
theorem Member.accrue_writes : ∃ wear state deferred lostWear overflowNoted armed,
    (m.accrue rep load threshold).1 = { m.addFigures rep load with
      wear, state, deferred, lostWear, overflowNoted, checkpointArmed := armed } := by
  obtain ⟨wear, state, deferred, lostWear, overflowNoted, hWear⟩ :=
    (m.addFigures rep load).takeWear_writes (m.product rep load / 2 ^ 20)
  obtain ⟨armed, hArmed⟩ := (m.worn rep load).1.testCheckpoint_writes threshold
  exact ⟨wear, state, deferred, lostWear, overflowNoted, armed, by rw [m.accrue_eq, hArmed, Member.worn, hWear]⟩

@[simp] theorem Member.accrue_residue :
    (m.accrue rep load threshold).1.residue = m.product rep load % 2 ^ 20 := by
  obtain ⟨_, _, _, _, _, _, h⟩ := m.accrue_writes rep load threshold
  rw [h, m.addFigures_eq]

@[simp] theorem Member.accrue_epochWear :
    (m.accrue rep load threshold).1.epochWear = min (m.epochWear + m.product rep load / 2 ^ 20) (2 ^ 32 - 1) := by
  obtain ⟨_, _, _, _, _, _, h⟩ := m.accrue_writes rep load threshold
  rw [h, m.addFigures_eq]

@[simp] theorem Member.accrue_kLoad : (m.accrue rep load threshold).1.kLoad = m.kLoad := by
  obtain ⟨_, _, _, _, _, _, h⟩ := m.accrue_writes rep load threshold
  rw [h, m.addFigures_eq]

@[simp] theorem Member.accrue_kSlip : (m.accrue rep load threshold).1.kSlip = m.kSlip := by
  obtain ⟨_, _, _, _, _, _, h⟩ := m.accrue_writes rep load threshold
  rw [h, m.addFigures_eq]

/-! ### The product (R71) -/

theorem Member.product_eq :
    m.product rep load = rep.travel * loadFactor load m.kLoad * slipFactor rep.slip m.kSlip + m.residue := rfl

/-- With both factors at 1024 a millimetre is 2^20 of the product. -/
theorem Member.product_of_unit_factors (hl : m.kLoad = 0) (hs : m.kSlip = 0) :
    m.product rep load = rep.travel * 2 ^ 20 + m.residue := by
  rw [m.product_eq, hl, hs, loadFactor_zero, slipFactor_zero]
  ring

theorem Member.product_lt {rep : CloseReport} {load : Nat} (hr : m.residue < 2 ^ 20) (ht : rep.travel ≤ 1200000)
    (hl : load ≤ 1023) (hs : rep.slip ≤ 1000) (hkl : m.kLoad ≤ 255) (hks : m.kSlip ≤ 255) :
    m.product rep load < 2 ^ 50 := by
  have h : rep.travel * loadFactor load m.kLoad * slipFactor rep.slip m.kSlip ≤ 1200000 * 17328 * 32899 :=
    Nat.mul_le_mul (Nat.mul_le_mul ht (loadFactor_bounds hl hkl).2) (slipFactor_bounds hs hks).2
  rw [m.product_eq]
  omega

/-- One of several accruals of reports that differ in their travel alone: the member, and the sum of ΔW. -/
def accrueTravel (a : Member × Nat) (x : Nat) : Member × Nat :=
  let r := { rep with travel := x }
  ((a.1.accrue r load threshold).1, a.2 + a.1.product r load / 2 ^ 20)

/-- Over a run of accruals the sum of ΔW and the last residue hold together the exact wear: each residue is carried into the
next product, so nothing is lost between two accruals (R71). -/
theorem foldl_accrueTravel (travels : List Nat) (m : Member) (sum : Nat) :
    let run := travels.foldl (accrueTravel rep load threshold) (m, sum)
    run.2 * 2 ^ 20 + run.1.residue
      = sum * 2 ^ 20 + travels.sum * (loadFactor load m.kLoad * slipFactor rep.slip m.kSlip) + m.residue := by
  induction travels generalizing m sum with
  | nil => simp
  | cons x travels ih =>
    have hProduct := m.product_eq { rep with travel := x } load
    have hSplit := Nat.div_add_mod (m.product { rep with travel := x } load) (2 ^ 20)
    simp only [List.foldl_cons, List.sum_cons]
    rw [accrueTravel, ih, Member.accrue_kLoad, Member.accrue_kSlip, Member.accrue_residue]
    simp only at hProduct ⊢
    linarith only [hProduct, hSplit]

end

/-- Settles O25: the bounds of the factors and travels, division with remainder by 2^20, and `foldl_accrueTravel`. -/
theorem accrualArithmetic : Obligations.AccrualArithmetic := by
  unfold Obligations.AccrualArithmetic
  refine ⟨fun load slip kLoad kSlip => ⟨rfl, rfl, loadFactor_bounds, slipFactor_bounds, loadFactor_zero load,
    slipFactor_zero slip⟩, ?_⟩
  intro m rep load threshold product dW after
  have hResidue : after.residue = product % 2 ^ 20 := m.accrue_residue rep load threshold
  have hSplit : dW * 2 ^ 20 + product % 2 ^ 20 = product := Nat.div_add_mod' product (2 ^ 20)
  have hWhole : ∀ k, m.residue < 2 ^ 20 → product = k * 2 ^ 20 + m.residue → dW = k ∧ after.residue = m.residue := by
    intro k hr h
    omega
  refine ⟨by omega, by omega, m.accrue_epochWear rep load threshold, fun hr ht => hWhole 0 hr ?_,
    fun hr hl hs => hWhole rep.travel hr (m.product_of_unit_factors rep load hl hs), fun hr ht hl hs hkl hks => ?_,
    fun r ms => SegRun.reckonedTravel_le, fun r d w => SegRun.partialTravel_le, fun travels _ => ?_⟩
  · simp [product, ht]
  · have hProduct : product < 2 ^ 50 := m.product_lt hr ht hl hs hkl hks
    exact ⟨hProduct, by omega⟩
  · exact (foldl_accrueTravel rep load threshold travels m 0).trans (by rw [Nat.zero_mul, Nat.zero_add])

end Sys2Proof.Machine
end

section
/-! SUPPORT. What an accrual leaves and posts, for one member (R72, R79 to R82, R86) and for all that are bound to a segment
(R69): O26. -/

namespace Sys2Proof.Machine

section

variable (m : Member) (rep : CloseReport) (load threshold : Nat)

/-! ### One member -/

/-- The member after an accrual but for its checkpoint, whose test writes nothing else. -/
theorem Member.accrue_but_checkpoint (armed : Bool) :
    { (m.accrue rep load threshold).1 with checkpointArmed := armed }
      = { (m.worn rep load).1 with checkpointArmed := armed } := by
  obtain ⟨x, h⟩ := (m.worn rep load).1.testCheckpoint_writes threshold
  rw [m.accrue_eq, h]

/-- What the checkpoint test reads of an accrual: the unsaved wear with ΔW in it, and the arming as it stood (R79). -/
theorem Member.worn_checkpoint :
    (m.worn rep load).1.unsavedWear = min (m.unsavedWear + m.product rep load / 2 ^ 20) (2 ^ 32 - 1)
      ∧ (m.worn rep load).1.checkpointArmed = m.checkpointArmed := by
  obtain ⟨_, _, _, _, _, h⟩ := (m.addFigures rep load).takeWear_writes (m.product rep load / 2 ^ 20)
  rw [Member.worn, h, m.addFigures_eq]
  exact ⟨rfl, rfl⟩

theorem Member.accrue_of_due (h : (m.worn rep load).1.checkpointDue threshold) :
    ((m.worn rep load).1.testCheckpoint threshold).2 = [(.checkpoint, (m.worn rep load).1.unsavedWear)]
      ∧ (m.accrue rep load threshold).1.checkpointArmed = false := by
  rw [m.accrue_eq, Member.testCheckpoint_of_due _ h]
  exact ⟨rfl, rfl⟩

theorem Member.accrue_of_not_due (h : ¬ (m.worn rep load).1.checkpointDue threshold) :
    ((m.worn rep load).1.testCheckpoint threshold).2 = []
      ∧ (m.accrue rep load threshold).1.checkpointArmed = (m.worn rep load).1.checkpointArmed := by
  rw [m.accrue_eq, Member.testCheckpoint_of_not_due _ h]
  exact ⟨rfl, rfl⟩

/-- A member that is not held takes ΔW into its wear, with an upward evaluation (R72, R80). -/
theorem Member.worn_of_free (h : m.held = false) :
    m.worn rep load = Member.evalUpward { m.addFigures rep load with
      wear := min (m.wear + m.product rep load / 2 ^ 20) (2 ^ 40 - 1) } :=
  (m.addFigures rep load).takeWear_of_free h _

theorem Member.worn_of_room (h : m.held = true) (hr : m.deferred + m.product rep load / 2 ^ 20 ≤ 2 ^ 24 - 1) :
    m.worn rep load
      = ({ m.addFigures rep load with deferred := m.deferred + m.product rep load / 2 ^ 20 }, []) :=
  (m.addFigures rep load).takeWear_of_room h hr

theorem Member.worn_of_overflow (h : m.held = true) (hr : 2 ^ 24 - 1 < m.deferred + m.product rep load / 2 ^ 20) :
    let lost := min (m.lostWear + (m.deferred + m.product rep load / 2 ^ 20 - (2 ^ 24 - 1))) (2 ^ 32 - 1)
    m.worn rep load
      = ({ m.addFigures rep load with deferred := 2 ^ 24 - 1, lostWear := lost, overflowNoted := true },
        if m.overflowNoted then [] else [(.deferredOverflow, lost)]) :=
  (m.addFigures rep load).takeWear_of_overflow h hr

end

/-- The notices of a member that rises, by where it stood and where it comes to (R81, R82). -/
theorem Member.levelNotes_of_rise (m : Member) {new : WearState}
    (h : (m.state = .normal ∧ new ≠ .normal) ∨ (m.state = .warn ∧ new = .due)) :
    m.levelNotes new = (if m.state = .normal then [(.memberWarn, m.wear / 256)] else [])
      ++ (if new = .due then [(.memberDue, m.wear / 256)] else []) := by
  rw [m.levelNotes_eq]
  obtain ⟨hs, hn⟩ | ⟨hs, hn⟩ := h <;> simp [hs, hn]

/-- A move that is no rise posts nothing (R81). -/
theorem Member.levelNotes_of_not_rise (m : Member) {new : WearState}
    (h : ¬ ((m.state = .normal ∧ new ≠ .normal) ∨ (m.state = .warn ∧ new = .due))) : m.levelNotes new = [] := by
  rw [← WearState.rank_lt_iff] at h
  rw [Member.levelNotes, passedLevels_of_rank_le (Nat.le_of_not_lt h), List.map_nil]

/-! ### Every member of a segment (R69) -/

section

variable (s : State)

theorem State.postAll_posted (subject : Nat) (notes : List (NoticeKind × Nat)) :
    Posts (notes.map fun x => (x.1, subject, x.2)) s (s.postAll subject notes) := by
  induction notes generalizing s with
  | nil => exact rfl
  | cons x notes ih =>
    have hFirst : Posts [(x.1, subject, x.2)] s (s.post x.1 subject x.2) := rfl
    exact hFirst.trans rfl (ih (s.post x.1 subject x.2))

/-- The notices of one member at a close report, with the member as their subject; of a FREE record none (R69). -/
def State.accrualNotes (s : State) (rep : CloseReport) (load : Nat) (n : MemberNo) : List (NoticeKind × Nat × Nat) :=
  match s.member n with
  | some m => (m.accrue rep load s.etm.settings.checkpoint).2.map fun x => (x.1, n.val, x.2)
  | none => []

theorem State.accrueMember_posted (rep : CloseReport) (load : Nat) (n : MemberNo) :
    Posts (s.accrualNotes rep load n) s (State.accrueMember rep load s n) := by
  unfold State.accrueMember State.accrualNotes
  cases s.member n with
  | none => exact rfl
  | some m => exact State.postAll_posted (s.setMember n _) n.val _

/-- The accrual of another member changes no notice of this one. -/
theorem State.accrualNotes_accrueMember_ne (rep : CloseReport) (load : Nat) {n j : MemberNo} (h : j ≠ n) :
    (State.accrueMember rep load s n).accrualNotes rep load j = s.accrualNotes rep load j := by
  simp only [State.accrualNotes, s.member_accrueMember_ne rep load h, State.accrueMember_etm]

/-- Members that accrue one after another post their notices one after another, each as it stood before (R69). -/
theorem State.foldl_accrueMember_posted (rep : CloseReport) (load : Nat) {l : List MemberNo} (hl : l.Nodup) :
    Posts (l.flatMap (s.accrualNotes rep load)) s (l.foldl (State.accrueMember rep load) s) := by
  induction l generalizing s with
  | nil => exact rfl
  | cons n l ih =>
    obtain ⟨hn, hl⟩ := List.nodup_cons.1 hl
    have hRest := ih (State.accrueMember rep load s n) hl
    rw [List.flatMap_congr fun j hj => s.accrualNotes_accrueMember_ne rep load (ne_of_mem_of_not_mem hj hn)] at hRest
    exact (s.accrueMember_posted rep load n).trans (State.accrueMember_etm s rep load n) hRest

/-- A close report accrues to the members bound to its segment in some order, each once, and posts in that order (R69). -/
theorem State.accrueAll_posted (rep : CloseReport) (load : Nat) : ∃ order : List MemberNo, order.Nodup
    ∧ (∀ n, n ∈ order ↔ ∃ m, s.member n = some m ∧ m.segment = some rep.segment)
    ∧ Posts (order.flatMap (s.accrualNotes rep load)) s (s.accrueAll rep load) := by
  have hNodup : (arrange s.arbiter.members (s.boundMembers rep.segment)).Nodup :=
    arrange_nodup _ ((List.nodup_finRange 192).filter _)
  exact ⟨_, hNodup, fun n => (mem_arrange _ _ n).trans s.mem_boundMembers, s.foldl_accrueMember_posted rep load hNodup⟩

end

/-- Settles O26: where the wear goes by `Member.worn_of_free`, `Member.worn_of_room` and `Member.worn_of_overflow`, then the
checkpoint test; and over the members of a segment by `State.member_accrueAll` and `State.accrueAll_posted`. -/
theorem accrualEffects : Obligations.AccrualEffects := by
  unfold Obligations.AccrualEffects
  refine ⟨?_, fun rep load s => ?_⟩
  · intro m rep load threshold dW unsaved wear due base a
    obtain ⟨hUnsaved, hArmed⟩ := m.worn_checkpoint rep load
    have hDue : (m.worn rep load).1.checkpointDue threshold ↔ due := by
      rw [Member.checkpointDue, hUnsaved, hArmed]
    refine ⟨(m.worn rep load).2, ((m.worn rep load).1.testCheckpoint threshold).2, rfl, fun h => ?_, fun h => ?_,
      fun hFree => ?_, fun hHeld hRoom => ?_, fun hHeld hOver => ?_⟩
    · have hTest := m.accrue_of_due rep load threshold (hDue.2 h)
      rwa [hUnsaved] at hTest
    · have hTest := m.accrue_of_not_due rep load threshold (mt hDue.1 h)
      rwa [hArmed] at hTest
    · intro named rises
      rw [m.accrue_but_checkpoint, m.worn_of_free rep load hFree, Member.evalUpward_fst, Member.evalUpward_snd]
      exact ⟨rfl, fun h => Member.levelNotes_of_not_rise _ h, fun h => Member.levelNotes_of_rise _ h⟩
    · rw [m.accrue_but_checkpoint, m.worn_of_room rep load hHeld hRoom]
      exact ⟨rfl, rfl⟩
    · rw [m.accrue_but_checkpoint, m.worn_of_overflow rep load hHeld hOver]
      exact ⟨rfl, rfl⟩
  · have hMember := s.member_accrueAll rep load
    refine ⟨s.accrueAll_keeps rep load, s.pass_accrueAll rep load, fun n m hm hg => ?_, fun n hn => ?_,
      s.accrueAll_posted rep load⟩
    · rw [hMember, hm, Option.map_some, if_pos hg]
    · rw [hMember]
      cases hm : s.member n with
      | none => rfl
      | some m => rw [Option.map_some, if_neg (hn m hm)]

end Sys2Proof.Machine
end

section
/-! SUPPORT. The requests that define, read and hold a member (R63 to R66, R78, R84): O27 and O28. -/

namespace Sys2Proof.Machine

/-! ### What the checks pass (R65) -/

/-- What the first check of MEMBER_DEFINE asks of the request (R65). -/
def DefineAcceptable (member : Byte) (r : MemberRecord) : Prop :=
  member.toNat ≤ 191 ∧ (r.kind = 1 ∨ r.kind = 2) ∧ (r.segment = 0xFF ∨ r.segment.toNat ≤ 23)
    ∧ 1000 ≤ r.limit.toNat ∧ 500 ≤ r.warn.toNat ∧ r.warn.toNat ≤ 999 ∧ 1 ≤ r.minutes.toNat ∧ r.minutes.toNat ≤ 600

/-- The top of a limit is the top of its field. -/
@[simp] theorem limitOk_iff (x : BitVec 40) : limitOk x.toNat = true ↔ 1000 ≤ x.toNat := by
  have := x.isLt
  rw [limitOk, inRange_iff, Config.max40]
  omega

@[simp] theorem warnOk_iff (x : Nat) : warnOk x = true ↔ 500 ≤ x ∧ x ≤ 999 := inRange_iff 500 999 x

@[simp] theorem minutesOk_iff (x : Nat) : minutesOk x = true ↔ 1 ≤ x ∧ x ≤ 600 := inRange_iff 1 600 x

theorem memberRangesOk_iff (r : MemberRecord) : memberRangesOk r = true ↔
    1000 ≤ r.limit.toNat ∧ 500 ≤ r.warn.toNat ∧ r.warn.toNat ≤ 999 ∧ 1 ≤ r.minutes.toNat ∧ r.minutes.toNat ≤ 600 := by
  simp only [memberRangesOk, Bool.and_eq_true, limitOk_iff, warnOk_iff, minutesOk_iff, and_assoc]

theorem memberKindOf_eq_none {b : Byte} : memberKindOf b = none ↔ ¬ (b = 1 ∨ b = 2) := by
  unfold memberKindOf
  split_ifs with h1 h2
  · simp [h1]
  · simp [h2]
  · exact iff_of_true rfl (not_or.2 ⟨h1, h2⟩)

theorem memberKindOf_eq_some {b : Byte} {k : MemberKind} (h : memberKindOf b = some k) : k = .belt ↔ b = 1 := by
  unfold memberKindOf at h
  split_ifs at h with h1
  · cases h
    exact iff_of_true rfl h1
  · cases h
    exact iff_of_false (by decide) h1

theorem optSegmentOf_eq_none {b : Byte} : optSegmentOf b = none ↔ ¬ (b = 0xFF ∨ b.toNat ≤ 23) := by
  unfold optSegmentOf
  split_ifs with h
  · simp [h]
  · rw [Option.map_eq_none_iff, segmentOf_eq_none, not_or, not_le]
    exact (and_iff_right h).symm

theorem optSegmentOf_eq_some {b : Byte} {g : Option SegNo} (h : optSegmentOf b = some g) :
    g.map (·.val) = if b = 0xFF then none else some b.toNat := by
  unfold optSegmentOf at h
  split_ifs at h ⊢ with hb
  · cases h
    rfl
  · obtain ⟨j, hj, rfl⟩ := Option.map_eq_some_iff.1 h
    rw [Option.map_some, segmentOf_eq_some.1 hj]

variable {member : Byte} {r : MemberRecord} {n : MemberNo} {k : MemberKind} {g : Option SegNo}

theorem memberTarget_eq_some (h : memberTarget member r = some (n, k, g)) :
    memberOf member = some n ∧ memberKindOf r.kind = some k ∧ optSegmentOf r.segment = some g
      ∧ memberRangesOk r = true := by
  unfold memberTarget at h
  split at h
  · next hn hk hg =>
    split_ifs at h with hRanges
    cases h
    exact ⟨hn, hk, hg, hRanges⟩
  · cases h

theorem memberTarget_eq_none : memberTarget member r = none ↔ ¬ DefineAcceptable member r := by
  unfold memberTarget DefineAcceptable
  have hMember := memberOf_eq_none (b := member)
  have hKind := memberKindOf_eq_none (b := r.kind)
  have hSegment := optSegmentOf_eq_none (b := r.segment)
  rw [← memberRangesOk_iff]
  cases hn : memberOf member with
  | none => simp [Nat.not_le.2 (hMember.1 hn)]
  | some n =>
    cases hk : memberKindOf r.kind with
    | none => simp only [hKind.1 hk, false_and, and_false, not_false_eq_true]
    | some k =>
      cases hg : optSegmentOf r.segment with
      | none => simp only [hSegment.1 hg, false_and, and_false, not_false_eq_true]
      | some g =>
        have hMember' : member.toNat ≤ 191 := Nat.not_lt.1 (mt hMember.2 (by simp [hn]))
        have hKind' : r.kind = 1 ∨ r.kind = 2 := not_not.1 (mt hKind.2 (by simp [hk]))
        have hSegment' : r.segment = 0xFF ∨ r.segment.toNat ≤ 23 := not_not.1 (mt hSegment.2 (by simp [hg]))
        simp only [hMember', hKind', hSegment', true_and]
        split_ifs with hRanges <;> simp [hRanges]

/-! ### The BELT in the way (R65) -/

/-- Member `b` is a BELT of the segment that a request to define a BELT names (R65, check 3). -/
def IsRival (s : State) (r : MemberRecord) (b : MemberNo) : Prop :=
  r.kind = 1 ∧ ∃ m g, s.member b = some m ∧ m.kind = .belt ∧ m.segment = some g ∧ g.val = r.segment.toNat

section

variable (s : State)

theorem State.beltOf_eq_some {g : SegNo} {b : MemberNo} (h : s.beltOf g = some b) :
    ∃ m, s.member b = some m ∧ m.kind = .belt ∧ m.segment = some g := by
  have ht := List.find?_some h
  cases hm : s.member b with
  | none => simp [hm] at ht
  | some m => exact ⟨m, rfl, by simpa [hm] using ht⟩

theorem State.beltOf_eq_none {g : SegNo} (h : s.beltOf g = none) {b : MemberNo} {m : Member}
    (hm : s.member b = some m) (hk : m.kind = .belt) : m.segment ≠ some g := by
  have ht := List.find?_eq_none.1 h b (List.mem_finRange b)
  simpa [hm, hk] using ht

theorem State.beltConflict_eq_some (h : memberTarget member r = some (n, k, g)) {b : MemberNo}
    (hb : s.beltConflict k g = some b) : IsRival s r b := by
  obtain ⟨-, hk, hg, -⟩ := memberTarget_eq_some h
  have hSegment := optSegmentOf_eq_some hg
  cases k with
  | roller => cases hb
  | belt =>
    cases g with
    | none => cases hb
    | some g =>
      obtain ⟨m, hm, hBelt, hBound⟩ := s.beltOf_eq_some hb
      refine ⟨(memberKindOf_eq_some hk).1 rfl, m, g, hm, hBelt, hBound, ?_⟩
      split_ifs at hSegment
      · cases hSegment
      · exact Option.some.inj hSegment

theorem State.beltConflict_eq_none (h : memberTarget member r = some (n, k, g)) (hb : s.beltConflict k g = none)
    (b : MemberNo) : ¬ IsRival s r b := by
  rintro ⟨hKind, m, j, hm, hBelt, hBound, hj⟩
  obtain ⟨-, hk, hg, -⟩ := memberTarget_eq_some h
  have hSegment := optSegmentOf_eq_some hg
  obtain rfl : k = .belt := (memberKindOf_eq_some hk).2 hKind
  have hNotAbsent : r.segment ≠ 0xFF := by
    intro e
    rw [e] at hj
    exact absurd hj (by have := j.isLt; simp; omega)
  rw [if_neg hNotAbsent] at hSegment
  obtain ⟨i, rfl, hi⟩ := Option.map_eq_some_iff.1 hSegment
  exact s.beltOf_eq_none hb hm hBelt (by rw [hBound, Fin.ext (hi.trans hj.symm)])

end

/-! ### The record written (R66, R102) -/

theorem Member.project_projected (m : Member) (epoch : Nat) : Projected epoch (m.project epoch) := rfl

theorem newMember_projected (k : MemberKind) (g : Option SegNo) (r : MemberRecord) (epoch : Nat) :
    Projected epoch (newMember k g r epoch) := rfl

theorem newMember_ok (k : MemberKind) (g : Option SegNo) (epoch : Nat) (h : memberRangesOk r = true) :
    MemberOk (newMember k g r epoch) := by
  obtain ⟨hLimit, hWarn, hWarn', hMinutes, hMinutes'⟩ := (memberRangesOk_iff r).1 h
  exact {
    named := rfl
    notHeld := fun _ => rfl
    level := rfl
    fresh := fun _ => rfl
    wear := Nat.le_sub_one_of_lt r.wear.isLt
    residue := Nat.two_pow_pos 20
    limit := ⟨hLimit, Nat.le_sub_one_of_lt r.limit.isLt⟩
    warn := ⟨hWarn, hWarn'⟩
    factors := ⟨Nat.le_sub_one_of_lt r.kLoad.isLt, Nat.le_sub_one_of_lt r.kSlip.isLt⟩
    minutes := ⟨hMinutes, hMinutes'⟩
    rate := Nat.le_sub_one_of_lt r.rate.isLt
    epochWear := Nat.zero_le _
    closingWear := fun _ hx => nomatch hx
    deferred := Nat.zero_le _
    lostWear := Nat.zero_le _
    reckonedWear := Nat.zero_le _
    unsavedWear := Nat.zero_le _
    serviceCount := Nat.zero_le _ }

/-! ### Writing one member -/

section

variable (s : State)

theorem State.setMember_keeps (n : MemberNo) (x : Option Member) : KeepsAllBut [.wau] s (s.setMember n x) := by
  simp [keepsAllBut_iff]

theorem State.setMember_keepsOthers (n : MemberNo) (x : Option Member) : KeepsOtherMembers n s (s.setMember n x) :=
  ⟨fun _ hj => s.member_setMember_ne hj x, rfl⟩

/-- A member written and the request answered: the record of that member alone is changed. -/
theorem State.setMember_answers (n : MemberNo) (x : Option Member) (kind : ReqKind) (st : Status) (data : List Byte) :
    Answers [.wau] kind.code st data s ((s.setMember n x).answer kind st data) :=
  answers_of_keeps s (s.setMember_keeps n x) rfl rfl

/-! ### MEMBER_DEFINE (R65, R66) -/

theorem exec_memberDefine_badValue (h : ¬ DefineAcceptable member r) :
    exec (.memberDefine member r) s = .next (s.answer .memberDefine .badValue []) := by
  show execMemberDefine member r s = _
  simp only [execMemberDefine, memberTarget_eq_none.2 h]

theorem exec_memberDefine_taken (h : memberTarget member r = some (n, k, g)) {m : Member} (hm : s.member n = some m) :
    exec (.memberDefine member r) s = .next (s.answer .memberDefine .conflict (be 1 m.state.code)) := by
  show execMemberDefine member r s = _
  simp only [execMemberDefine, h, hm]

theorem exec_memberDefine_rival (h : memberTarget member r = some (n, k, g)) (hm : s.member n = none) {b : MemberNo}
    (hb : s.beltConflict k g = some b) :
    exec (.memberDefine member r) s = .next (s.answer .memberDefine .conflict (be 1 b.val)) := by
  show execMemberDefine member r s = _
  simp only [execMemberDefine, h, hm, hb]

theorem exec_memberDefine_ok (h : memberTarget member r = some (n, k, g)) (hm : s.member n = none)
    (hb : s.beltConflict k g = none) :
    let m := newMember k g r s.etm.epoch
    exec (.memberDefine member r) s = .next ((s.setMember n (some m)).answer .memberDefine .ok
      (be 1 m.state.code ++ be 5 m.warnLevel ++ optFigure 4 m.projection)) := by
  show execMemberDefine member r s = _
  simp only [execMemberDefine, h, hm, hb]
  rfl

end

theorem be_one (x : Nat) : be 1 x = [BitVec.ofNat 8 x] := by simp [be]

/-- The codes that name a state on the line (11 section 11.6). -/
theorem WearState.code_byte (st : WearState) :
    be 1 st.code = [match st with | .normal => 1 | .warn => 2 | .due => 3] := by
  cases st <;> rfl

/-- Settles O27, check by check in their order. -/
theorem memberDefineRule : Obligations.MemberDefineRule := by
  unfold Obligations.MemberDefineRule
  intro member r s i good
  refine ⟨fun h => ⟨_, exec_memberDefine_badValue s h, refuses_answer s .memberDefine .badValue []⟩,
    fun h n hn => ?_⟩
  obtain ⟨⟨n', k, g⟩, hTarget⟩ := Option.ne_none_iff_exists'.1 (mt memberTarget_eq_none.1 (not_not.2 h))
  obtain ⟨hMember, hk, hg, hRanges⟩ := memberTarget_eq_some hTarget
  obtain rfl : n' = n := Fin.ext ((memberOf_eq_some.1 hMember).symm.trans hn)
  refine ⟨fun m hm => ⟨_, exec_memberDefine_taken s hTarget hm, ?_⟩, fun hm => ?_⟩
  · rw [m.state.code_byte]
    exact refuses_answer s .memberDefine .conflict _
  cases hb : s.beltConflict k g with
  | some b =>
    have hRival : IsRival s r b := s.beltConflict_eq_some hTarget hb
    refine ⟨fun _ => ⟨b, _, hRival, exec_memberDefine_rival s hTarget hm hb, ?_⟩, fun hNone => absurd hRival (hNone b)⟩
    rw [be_one]
    exact refuses_answer s .memberDefine .conflict _
  | none =>
    refine ⟨fun ⟨b, hRival⟩ => absurd hRival (s.beltConflict_eq_none hTarget hb b), fun _ => ?_⟩
    let m := newMember k g r s.etm.epoch
    exact ⟨_, m, _, exec_memberDefine_ok s hTarget hm hb, s.setMember_answers n' (some m) .memberDefine .ok _,
      s.member_setMember_self n' (some m), s.setMember_keepsOthers n' (some m), newMember_ok k g s.etm.epoch hRanges,
      newMember_projected k g r s.etm.epoch, memberKindOf_eq_some hk, optSegmentOf_eq_some hg, rfl, rfl, rfl, rfl, rfl,
      rfl, rfl, rfl, rfl, rfl, rfl, rfl, rfl, rfl, rfl⟩

section

variable (s : State)

/-! ### MEMBER_READ and MEMBER_HOLD (R78, R84) -/

theorem exec_memberRead_badValue (h : 191 < member.toNat) :
    exec (.memberRead member) s = .next (s.answer .memberRead .badValue []) := by
  show execMemberRead member s = _
  simp only [execMemberRead, memberOf_eq_none.2 h]

theorem exec_memberRead_noSuch (hn : member.toNat = n.val) (hm : s.member n = none) :
    exec (.memberRead member) s = .next (s.answer .memberRead .noSuch []) := by
  show execMemberRead member s = _
  simp only [execMemberRead, memberOf_eq_some.2 hn, hm]

theorem exec_memberRead_ok (hn : member.toNat = n.val) {m : Member} (hm : s.member n = some m) :
    exec (.memberRead member) s = .next
      ((s.setMember n (some { m with unsavedWear := 0, checkpointArmed := true })).answer .memberRead .ok (m.bytes n)) := by
  show execMemberRead member s = _
  simp only [execMemberRead, memberOf_eq_some.2 hn, hm]

theorem exec_memberHold_badValue (h : 191 < member.toNat) :
    exec (.memberHold member) s = .next (s.answer .memberHold .badValue []) := by
  show execMemberHold member s = _
  simp only [execMemberHold, memberOf_eq_none.2 h]

theorem exec_memberHold_noSuch (hn : member.toNat = n.val) (hm : s.member n = none) :
    exec (.memberHold member) s = .next (s.answer .memberHold .noSuch []) := by
  show execMemberHold member s = _
  simp only [execMemberHold, memberOf_eq_some.2 hn, hm]

theorem exec_memberHold_conflict (hn : member.toNat = n.val) {m : Member} (hm : s.member n = some m)
    (hh : m.held = true) : exec (.memberHold member) s = .next (s.answer .memberHold .conflict []) := by
  show execMemberHold member s = _
  simp only [execMemberHold, memberOf_eq_some.2 hn, hm, if_pos hh]

theorem exec_memberHold_ok (hn : member.toNat = n.val) {m : Member} (hm : s.member n = some m) (hh : m.held = false) :
    exec (.memberHold member) s = .next
      ((s.setMember n (some { m with held := true, deferred := 0, overflowNoted := false })).answer .memberHold .ok
        (be 5 m.wear)) := by
  show execMemberHold member s = _
  simp only [execMemberHold, memberOf_eq_some.2 hn, hm, if_neg (Bool.eq_false_iff.1 hh)]

end

/-! ### The member record on the line (11 section 11.6) -/

/-- The flags byte of a member record. -/
def Member.flagBits (m : Member) : Byte :=
  BitVec.ofNat 8 (m.held.toNat + 2 * m.checkpointArmed.toNat + 4 * m.overflowNoted.toNat + 8 * m.fresh.toNat
    + 16 * m.projection.isSome.toNat + 32 * m.closingWear.isSome.toNat)

/-- Six flags weighed by powers of two are the low bits of their sum, in order. -/
theorem bits_of_six (a b c d e f : Bool) :
    (List.range 8).map (fun i => (BitVec.ofNat 8 (a.toNat + 2 * b.toNat + 4 * c.toNat + 8 * d.toNat + 16 * e.toNat
      + 32 * f.toNat)).getLsbD i) = [a, b, c, d, e, f, false, false] := by
  revert a b c d e f
  decide

theorem Member.getLsbD_flagBits (m : Member) : (List.range 8).map (fun i => m.flagBits.getLsbD i)
    = [m.held, m.checkpointArmed, m.overflowNoted, m.fresh, m.projection.isSome, m.closingWear.isSome, false, false] :=
  bits_of_six m.held m.checkpointArmed m.overflowNoted m.fresh m.projection.isSome m.closingWear.isSome

theorem MemberKind.code_byte (k : MemberKind) : be 1 k.code = [match k with | .belt => 1 | .roller => 2] := by
  cases k <;> rfl

theorem optByte_segment (g : Option SegNo) :
    optByte (g.map (·.val)) = match g with | none => 0xFF | some j => BitVec.ofNat 8 j.val := by
  cases g <;> rfl

theorem getD_zero_eq (o : Option Nat) : o.getD 0 = match o with | none => 0 | some x => x := by
  cases o <;> rfl

theorem Member.length_bytes (m : Member) (n : MemberNo) : (m.bytes n).length = 66 := by
  unfold Member.bytes
  simp only [List.length_append, length_be]
  rfl

/-- Settles O28: each check by its own answer; the record's bytes field by field. -/
theorem memberReadAndHold : Obligations.MemberReadAndHold := by
  unfold Obligations.MemberReadAndHold
  refine fun member s => ⟨fun h => ⟨⟨_, exec_memberRead_badValue s h, refuses_answer s .memberRead .badValue []⟩,
    _, exec_memberHold_badValue s h, refuses_answer s .memberHold .badValue []⟩, fun n hn => ⟨fun hm => ?_, fun m hm =>
    ⟨?_, fun hh => ?_, fun hh => ?_⟩⟩⟩
  · exact ⟨⟨_, exec_memberRead_noSuch s hn hm, refuses_answer s .memberRead .noSuch []⟩,
      _, exec_memberHold_noSuch s hn hm, refuses_answer s .memberHold .noSuch []⟩
  · refine ⟨_, m.bytes n, m.flagBits, exec_memberRead_ok s hn hm, s.setMember_answers n _ .memberRead .ok _,
      s.member_setMember_self n _, s.setMember_keepsOthers n _, m.length_bytes n, m.getLsbD_flagBits, ?_⟩
    unfold Member.bytes
    rw [WearState.code_byte, MemberKind.code_byte, optByte_segment, getD_zero_eq, getD_zero_eq]
    rfl
  · exact ⟨_, exec_memberHold_conflict s hn hm hh, refuses_answer s .memberHold .conflict []⟩
  · exact ⟨_, exec_memberHold_ok s hn hm hh, s.setMember_answers n _ .memberHold .ok _, s.member_setMember_self n _,
      s.setMember_keepsOthers n _⟩

end Sys2Proof.Machine
end

section
/-! SUPPORT. The requests that adjust and release a held member (R85, R87): O29. -/

namespace Sys2Proof.Machine

/-! ### What the checks pass (R85) -/

/-- What the first check of MEMBER_ADJUST asks of the request: the member number and each field present in range (R85). -/
def AdjustAcceptable (member : Byte) (r : AdjustRecord) : Prop :=
  member.toNat ≤ 191 ∧ (∀ x, r.limit = some x → 1000 ≤ x.toNat)
    ∧ (∀ x, r.warn = some x → 500 ≤ x.toNat ∧ x.toNat ≤ 999) ∧ (∀ x, r.minutes = some x → 1 ≤ x.toNat ∧ x.toNat ≤ 600)

theorem absentOr_iff {w : Nat} (ok : Nat → Bool) (o : Option (BitVec w)) :
    absentOr ok o = true ↔ ∀ x, o = some x → ok x.toNat = true := by
  cases o <;> simp [absentOr]

theorem adjustRangesOk_iff (r : AdjustRecord) : adjustRangesOk r = true ↔
    (∀ x, r.limit = some x → 1000 ≤ x.toNat) ∧ (∀ x, r.warn = some x → 500 ≤ x.toNat ∧ x.toNat ≤ 999)
      ∧ (∀ x, r.minutes = some x → 1 ≤ x.toNat ∧ x.toNat ≤ 600) := by
  simp only [adjustRangesOk, Bool.and_eq_true, absentOr_iff, limitOk_iff, warnOk_iff, minutesOk_iff, and_assoc]

/-! ### Writing an evaluated member (R80 to R82, R103) -/

section

variable (s : State) (n : MemberNo) (e : Member × List (NoticeKind × Nat))

@[simp] theorem State.member_writeEvaluated_self :
    (s.writeEvaluated n e).member n = some (e.1.project s.etm.epoch) := by
  simp [State.writeEvaluated]

theorem State.writeEvaluated_keepsOthers : KeepsOtherMembers n s (s.writeEvaluated n e) := by
  refine ⟨fun j hj => ?_, ?_⟩
  · rw [State.writeEvaluated, State.member_postAll, s.member_setMember_ne hj]
  · rw [State.writeEvaluated, State.postAll_wau, State.pass_setMember]

/-- The notices of the evaluation are posted with the member as their subject (R82). -/
theorem State.writeEvaluated_posted : Posts (e.2.map fun x => (x.1, n.val, x.2)) s (s.writeEvaluated n e) :=
  State.postAll_posted (s.setMember n _) n.val e.2

theorem State.writeEvaluated_answers (kind : ReqKind) (st : Status) (data : List Byte) :
    Answers [.wau, .nq] kind.code st data s ((s.writeEvaluated n e).answer kind st data) :=
  answers_of_keeps s (s.writeEvaluated_keeps n e) (s.writeEvaluated_lnk n e) (s.writeEvaluated_rqd n e)

end

/-- The notices of a member's move to state `new`, with the member as their subject (R81, R82). -/
theorem Member.map_levelNotes (m : Member) (n : MemberNo) (new : WearState) :
    (m.levelNotes new).map (fun x => (x.1, n.val, x.2))
      = (if m.state = .normal ∧ new ≠ .normal then [(.memberWarn, n.val, m.wear / 256)] else [])
        ++ (if m.state ≠ .due ∧ new = .due then [(.memberDue, n.val, m.wear / 256)] else []) := by
  rw [m.levelNotes_eq, List.map_append, apply_ite (List.map _), apply_ite (List.map _)]
  rfl

/-! ### The record before the evaluation -/

/-- The fields present are written, and the warn level is recomputed where the limit or warn ‰ is one of them (R63, R85). -/
theorem Member.adjust_eq (m : Member) (r : AdjustRecord) :
    let limit := (r.limit.map (·.toNat)).getD m.limit
    let warn := (r.warn.map (·.toNat)).getD m.warn
    m.adjust r = { m with
      wear := (r.wear.map (·.toNat)).getD m.wear, limit, warn
      warnLevel := if r.limit = none ∧ r.warn = none then m.warnLevel else limit * warn / 1000
      kLoad := (r.kLoad.map (·.toNat)).getD m.kLoad, kSlip := (r.kSlip.map (·.toNat)).getD m.kSlip
      minutes := (r.minutes.map (·.toNat)).getD m.minutes, rate := (r.rate.map (·.toNat)).getD m.rate } := by
  have hLevel : (r.limit.isSome || r.warn.isSome) = true ↔ ¬ (r.limit = none ∧ r.warn = none) := by
    cases r.limit <;> cases r.warn <;> simp
  simp only [Member.adjust, hLevel, ite_not]
  rfl

/-! ### MEMBER_ADJUST (R85) -/

section

variable {member : Byte} {r : AdjustRecord} {n : MemberNo} {m : Member} (s : State)

theorem exec_memberAdjust_badValue (h : ¬ AdjustAcceptable member r) :
    exec (.memberAdjust member r) s = .next (s.answer .memberAdjust .badValue []) := by
  show execMemberAdjust member r s = _
  unfold execMemberAdjust
  cases hn : memberOf member with
  | none => rfl
  | some n =>
    have hMember : ¬ 191 < member.toNat := mt memberOf_eq_none.2 (by simp [hn])
    have hRanges : ¬ adjustRangesOk r = true := fun hr => h ⟨Nat.not_lt.1 hMember, (adjustRangesOk_iff r).1 hr⟩
    exact if_pos (by simpa using hRanges)

/-- Past the first check, the answer is by the record. -/
theorem exec_memberAdjust_of_acceptable (h : AdjustAcceptable member r) (hn : member.toNat = n.val) :
    exec (.memberAdjust member r) s = match s.member n with
      | none => .next (s.answer .memberAdjust .noSuch [])
      | some m =>
        if !m.held then .next (s.answer .memberAdjust .notHeld [])
        else
          let e := (m.adjust r).evalFull
          let m' := e.1.project s.etm.epoch
          .next ((s.writeEvaluated n e).answer .memberAdjust .ok
            (be 1 m'.state.code ++ be 5 m'.warnLevel ++ optFigure 4 m'.projection)) := by
  have hRanges : ¬ (!adjustRangesOk r) = true := by simp [(adjustRangesOk_iff r).2 h.2]
  show execMemberAdjust member r s = _
  simp only [execMemberAdjust, memberOf_eq_some.2 hn, if_neg hRanges]
  rfl

theorem exec_memberAdjust_noSuch (h : AdjustAcceptable member r) (hn : member.toNat = n.val) (hm : s.member n = none) :
    exec (.memberAdjust member r) s = .next (s.answer .memberAdjust .noSuch []) := by
  rw [exec_memberAdjust_of_acceptable s h hn, hm]

theorem exec_memberAdjust_notHeld (h : AdjustAcceptable member r) (hn : member.toNat = n.val)
    (hm : s.member n = some m) (hh : m.held = false) :
    exec (.memberAdjust member r) s = .next (s.answer .memberAdjust .notHeld []) := by
  rw [exec_memberAdjust_of_acceptable s h hn, hm]
  simp only [hh, Bool.not_false, if_true]

theorem exec_memberAdjust_ok (h : AdjustAcceptable member r) (hn : member.toNat = n.val) (hm : s.member n = some m)
    (hh : m.held = true) :
    let e := (m.adjust r).evalFull
    let m' := e.1.project s.etm.epoch
    exec (.memberAdjust member r) s = .next ((s.writeEvaluated n e).answer .memberAdjust .ok
      (be 1 m'.state.code ++ be 5 m'.warnLevel ++ optFigure 4 m'.projection)) := by
  rw [exec_memberAdjust_of_acceptable s h hn, hm]
  simp only [hh, Bool.not_true, Bool.false_eq_true, if_false]

/-! ### MEMBER_RELEASE (R87) -/

theorem exec_memberRelease_badValue (h : 191 < member.toNat) :
    exec (.memberRelease member) s = .next (s.answer .memberRelease .badValue []) := by
  show execMemberRelease member s = _
  simp only [execMemberRelease, memberOf_eq_none.2 h]

theorem exec_memberRelease_noSuch (hn : member.toNat = n.val) (hm : s.member n = none) :
    exec (.memberRelease member) s = .next (s.answer .memberRelease .noSuch []) := by
  show execMemberRelease member s = _
  simp only [execMemberRelease, memberOf_eq_some.2 hn, hm]

theorem exec_memberRelease_notHeld (hn : member.toNat = n.val) (hm : s.member n = some m) (hh : m.held = false) :
    exec (.memberRelease member) s = .next (s.answer .memberRelease .notHeld []) := by
  show execMemberRelease member s = _
  simp only [execMemberRelease, memberOf_eq_some.2 hn, hm, hh, Bool.not_false, if_true]

theorem exec_memberRelease_ok (hn : member.toNat = n.val) (hm : s.member n = some m) (hh : m.held = true) :
    let e := m.release.evalUpward
    let m' := e.1.project s.etm.epoch
    exec (.memberRelease member) s = .next ((s.writeEvaluated n e).answer .memberRelease .ok
      (be 3 m.deferred ++ be 5 m'.wear ++ be 1 m'.state.code ++ optFigure 4 m'.projection)) := by
  show execMemberRelease member s = _
  simp only [execMemberRelease, memberOf_eq_some.2 hn, hm, hh, Bool.not_true, Bool.false_eq_true, if_false]
  rfl

end

/-- Settles O29: each check by its own answer; then the record is written, evaluated fully
(`Member.adjust_eq`) or upward (`Member.evalUpward_fst`), and projected. -/
theorem memberAdjustAndRelease : Obligations.MemberAdjustAndRelease := by
  unfold Obligations.MemberAdjustAndRelease
  refine ⟨?_, ?_⟩
  · intro member r s i good
    refine ⟨fun h => ⟨_, exec_memberAdjust_badValue s h, refuses_answer s .memberAdjust .badValue []⟩,
      fun h n hn => ⟨fun hm => ⟨_, exec_memberAdjust_noSuch s h hn hm, refuses_answer s .memberAdjust .noSuch []⟩,
        fun m hm hh => ⟨_, exec_memberAdjust_notHeld s h hn hm hh, refuses_answer s .memberAdjust .notHeld []⟩, ?_⟩⟩
    intro m hm hh limit warn wear level named
    let e := (m.adjust r).evalFull
    have hAdjust := m.adjust_eq r
    have hPosts := s.writeEvaluated_posted n e
    have hNotes : e.2 = (m.adjust r).levelNotes (m.adjust r).named := rfl
    rw [hNotes, Member.map_levelNotes, hAdjust] at hPosts
    refine ⟨_, e.1.project s.etm.epoch, exec_memberAdjust_ok s h hn hm hh, s.member_writeEvaluated_self n e,
      s.writeEvaluated_keepsOthers n e, s.writeEvaluated_answers n e .memberAdjust .ok _,
      e.1.project_projected s.etm.epoch, ?_, hPosts⟩
    simp only [e, Member.evalFull, hAdjust]
    rfl
  · intro member s
    refine ⟨fun h => ⟨_, exec_memberRelease_badValue s h, refuses_answer s .memberRelease .badValue []⟩,
      fun n hn => ⟨fun hm => ⟨_, exec_memberRelease_noSuch s hn hm, refuses_answer s .memberRelease .noSuch []⟩,
        fun m hm hh => ⟨_, exec_memberRelease_notHeld s hn hm hh, refuses_answer s .memberRelease .notHeld []⟩, ?_⟩⟩
    intro m hm hh wear named rises
    let e := m.release.evalUpward
    have hPosts := s.writeEvaluated_posted n e
    rw [m.release.evalUpward_snd, Member.map_levelNotes] at hPosts
    have hMember : e.1 = { m with wear, deferred := 0, held := false, state := if rises then named else m.state } :=
      m.release.evalUpward_fst
    have hWear : (e.1.project s.etm.epoch).wear = wear := by rw [hMember]; rfl
    refine ⟨_, e.1.project s.etm.epoch, exec_memberRelease_ok s hn hm hh, s.member_writeEvaluated_self n e,
      s.writeEvaluated_keepsOthers n e, ?_, e.1.project_projected s.etm.epoch, ?_, hPosts⟩
    · rw [← hWear]
      exact s.writeEvaluated_answers n e .memberRelease .ok _
    · rw [hMember]
      rfl

end Sys2Proof.Machine
end

section
/-! SUPPORT. An order that leaves the pool by a request (R109, R112, R113, R120, R123), and MEMBER_RETIRE (R67): O31. -/

namespace Sys2Proof.Machine

section

variable (s : State)

/-! ### What the SPL does -/

/-- A SCHEDULED order's minutes leave the window it names; nothing else at the SPL is written (R109, R123). -/
theorem State.returnMinutes_spl (o : Order) :
    (s.returnMinutes o).spl = { s.spl with windows := windowsWithout o s.spl.windows } := by
  unfold State.returnMinutes windowsWithout
  cases o.state with
  | scheduled =>
    cases o.tag with
    | none => simp
    | some tag => simp [State.setWindows, mapUsed]
  | proposed | released | inWork => rfl

theorem State.removeOrder_spl (k : SlotNo) (o : Order) :
    (s.removeOrder k o).spl
      = { s.spl with orders := s.spl.orders.set k none, windows := windowsWithout o s.spl.windows } := by
  rw [State.removeOrder, State.returnMinutes_spl]
  rfl

/-- The rerun flag is set where a run is in flight; nothing else at the SPL is written (R141). -/
theorem State.requestRerun_spl :
    s.requestRerun.spl = { s.spl with planner := { s.spl.planner with
      rerun := s.spl.planner.rerun || decide (s.spl.planner.stage ≠ .idle) } } := by
  unfold State.requestRerun
  by_cases h : s.spl.planner.stage = .idle
  · rw [if_neg (mt s.spl.planner.running_iff.1 (not_not.2 h)), decide_eq_false (not_not.2 h), Bool.or_false]
  · rw [if_pos (s.spl.planner.running_iff.2 h)]
    simp [State.setPlanner, h]

theorem RerunAsked.of_requestRerun {s u t : State} (ht : t.spl = u.requestRerun.spl)
    (hg : u.spl.generator = s.spl.generator) (hl : u.spl.lastTag = s.spl.lastTag)
    (hp : u.spl.planner = s.spl.planner) : RerunAsked s t := by
  rw [RerunAsked, ht, u.requestRerun_spl, hg, hl, hp]
  exact ⟨rfl, rfl, rfl⟩

/-- What a rerun asked for leaves of the orders and windows. -/
theorem KeepsPlan.of_requestRerun {u t : State} (ht : t.spl = u.requestRerun.spl) : KeepsPlan u t := by
  rw [KeepsPlan, ht, u.requestRerun_spl]
  exact ⟨rfl, rfl⟩

theorem OrderRemoved.of_keepsPlan {k : SlotNo} {o : Order} {s u t : State} (h : OrderRemoved k o s u)
    (hk : KeepsPlan u t) : OrderRemoved k o s t := by
  have hSlot : ∀ j, t.slot j = u.slot j := fun j => by rw [State.slot, hk.1, State.slot]
  obtain ⟨hEmpty, hOthers, hWindows⟩ := h
  exact ⟨(hSlot k).trans hEmpty, fun j hj => (hSlot j).trans (hOthers j hj), hk.2.trans hWindows⟩

theorem State.removeOrder_removed (k : SlotNo) (o : Order) : OrderRemoved k o s (s.removeOrder k o) := by
  have hSlot : ∀ j, (s.removeOrder k o).slot j = (s.setSlot k none).slot j := fun j => by
    rw [State.slot, s.removeOrder_spl]
    rfl
  exact ⟨(hSlot k).trans (s.slot_setSlot_self k none), fun j hj => (hSlot j).trans (s.slot_setSlot_ne hj none),
    by rw [s.removeOrder_spl]⟩

/-! ### The order of a member (R106) -/

variable {n : MemberNo}

theorem State.orderOf_eq_map : s.orderOf n = (s.openOrder n).map (·.2) := by
  unfold State.orderOf State.openOrder
  cases s.slotOf n with
  | none => rfl
  | some k => cases hk : s.slot k <;> simp [hk]

theorem State.orderOf_of_noOrder (h : NoOrder s n) : s.orderOf n = none := by
  rw [s.orderOf_eq_map, s.openOrder_eq_none.2 h, Option.map_none]

theorem State.orderOf_of_orderAt {k : SlotNo} {o : Order} (h : OrderAt s n k o) : s.orderOf n = some o := by
  rw [s.orderOf_eq_map, s.openOrder_of_orderAt h, Option.map_some]

theorem State.removeOrderOf_of_noOrder (h : NoOrder s n) : s.removeOrderOf n = s := by
  rw [State.removeOrderOf, s.openOrder_eq_none.2 h]

theorem State.removeOrderOf_of_orderAt {k : SlotNo} {o : Order} (h : OrderAt s n k o) :
    s.removeOrderOf n = s.removeOrder k o := by
  rw [State.removeOrderOf, s.openOrder_of_orderAt h]

/-- Removing a member's order writes the orders and the windows alone. -/
theorem State.removeOrderOf_spl (n : MemberNo) : ∃ orders windows,
    (s.removeOrderOf n).spl = { s.spl with orders, windows } := by
  unfold State.removeOrderOf
  cases s.openOrder n with
  | none => exact ⟨_, _, rfl⟩
  | some p => exact ⟨_, _, s.removeOrder_spl p.1 p.2⟩

/-! ### MEMBER_RETIRE (R67, R113, R120) -/

variable {member : Byte}

theorem exec_memberRetire_badValue (h : 191 < member.toNat) :
    exec (.memberRetire member) s = .next (s.answer .memberRetire .badValue []) := by
  show execMemberRetire member s = _
  simp only [execMemberRetire, memberOf_eq_none.2 h]

theorem exec_memberRetire_noSuch (hn : member.toNat = n.val) (hm : s.member n = none) :
    exec (.memberRetire member) s = .next (s.answer .memberRetire .noSuch []) := by
  show execMemberRetire member s = _
  simp only [execMemberRetire, memberOf_eq_some.2 hn, hm]

/-- `s` with member `n` FREE and its order removed, a run in flight to be repeated (R67, R113, R120). -/
def State.retired (s : State) (n : MemberNo) : State := ((s.removeOrderOf n).setMember n none).requestRerun

theorem exec_memberRetire_ok (hn : member.toNat = n.val) {m : Member} (hm : s.member n = some m) :
    exec (.memberRetire member) s = .next ((s.retired n).answer .memberRetire .ok
      (m.retireBytes ++ retiredOrderBytes (s.orderOf n))) := by
  show execMemberRetire member s = _
  simp only [execMemberRetire, memberOf_eq_some.2 hn, hm]
  rfl

theorem State.retired_keeps (n : MemberNo) : KeepsAllBut [.wau, .spl] s (s.retired n) := by
  simp [State.retired, keepsAllBut_iff]

theorem State.retired_spl (n : MemberNo) : (s.retired n).spl = (s.removeOrderOf n).requestRerun.spl := by
  rw [State.retired, State.requestRerun_spl, State.requestRerun_spl, State.setMember_spl]

theorem State.member_retired_self (n : MemberNo) : (s.retired n).member n = none := by simp [State.retired]

theorem State.retired_keepsOthers (n : MemberNo) : KeepsOtherMembers n s (s.retired n) := by
  refine ⟨fun j hj => ?_, by simp [State.retired]⟩
  simp [State.retired, State.member_setMember_ne, hj]

theorem State.retired_rerunAsked (n : MemberNo) : RerunAsked s (s.retired n) := by
  obtain ⟨_, _, h⟩ := s.removeOrderOf_spl n
  exact .of_requestRerun (s.retired_spl n) (by rw [h]) (by rw [h]) (by rw [h])

end

/-- Settles O31: each check by its own answer; then the order, if the member has one, leaves as ORDER_CANCEL removes it. -/
theorem memberRetireRule : Obligations.MemberRetireRule := by
  unfold Obligations.MemberRetireRule
  refine fun member s => ⟨fun h => ⟨_, exec_memberRetire_badValue s h, refuses_answer s .memberRetire .badValue []⟩,
    fun n hn => ⟨fun hm => ⟨_, exec_memberRetire_noSuch s hn hm, refuses_answer s .memberRetire .noSuch []⟩, ?_⟩⟩
  intro m hm figures
  have hPlan : KeepsPlan (s.removeOrderOf n) (s.retired n) := .of_requestRerun (s.retired_spl n)
  refine ⟨_, retiredOrderBytes (s.orderOf n), exec_memberRetire_ok s hn hm,
    answers_of_keeps s (k := .memberRetire) (s.retired_keeps n) (by simp [State.retired]) (by simp [State.retired]),
    s.member_retired_self n, s.retired_keepsOthers n, s.retired_rerunAsked n, fun hNone => ?_, fun k o hAt => ?_⟩
  · rw [s.removeOrderOf_of_noOrder hNone] at hPlan
    rw [s.orderOf_of_noOrder hNone]
    exact ⟨hPlan, rfl⟩
  · rw [s.removeOrderOf_of_orderAt hAt] at hPlan
    rw [s.orderOf_of_orderAt hAt]
    exact ⟨(s.removeOrder_removed k o).of_keepsPlan hPlan, rfl⟩

end Sys2Proof.Machine
end

section
/-! SUPPORT. A share of a boundary taken late (R95, R99; log 33), and the rate pass (R100 to R105, R140): O39 and O40. -/

namespace Sys2Proof.Machine

section

variable (s : State)

/-! ### A share taken late -/

/-- Taking a share writes the ETM's record of it, and nothing else of the ETM; which share it is, that record alone says. -/
theorem State.settle_withEtm {e : Etm} (h : e.untaken = s.etm.untaken) :
    ({ s with etm := e } : State).settle = { s.settle with etm := { e with untaken := none } } := by
  rcases hu : s.etm.untaken with _ | _ | ⟨a, k⟩
  · rw [s.settle_none hu, State.settle_none _ (h.trans hu), ← h.trans hu]
  · rw [s.settle_smu hu, State.settle_smu _ (h.trans hu)]
    rfl
  · rw [s.settle_wau hu, State.settle_wau _ (h.trans hu)]
    rfl

@[simp] theorem State.etm_settle : s.settle.etm = { s.etm with untaken := none } :=
  congrArg State.etm (s.settle_withEtm (e := s.etm) rfl)

theorem State.moveCounts_countsMoved : CountsMoved s s.moveCounts := fun g => ⟨s.defn_moveCounts g, s.run_moveCounts g⟩

theorem Member.snapshot_eq (m : Member) : m.snapshot = { m with
    epochWear := 0, fresh := false, closingWear := if m.fresh then m.closingWear else some m.epochWear } := by
  unfold Member.snapshot
  cases m.fresh <;> simp

theorem State.beginPass_snapshotTaken (shift minWindows : Nat) :
    SnapshotTaken shift minWindows s (s.beginPass shift minWindows) := by
  refine ⟨rfl, fun n => ?_⟩
  rw [s.member_beginPass]
  exact congrArg (Option.map · (s.member n)) (funext Member.snapshot_eq)

/-- What `settle` takes is the share that was left. -/
theorem State.settle_shareTaken : ShareTaken s s.settle := by
  unfold ShareTaken
  split
  · next h => exact s.settle_none h
  · next h =>
    rw [s.settle_smu h]
    exact ⟨by simp [keepsAllBut_iff], by simp, State.moveCounts_countsMoved _⟩
  · next h =>
    rw [s.settle_wau h]
    exact ⟨by simp [keepsAllBut_iff], by simp, State.beginPass_snapshotTaken _ _ _⟩

end

/-! ### The rate (R101) -/

section

variable (rate closing a : Nat)

theorem rateAfter_of_le (h : rate ≤ closing) : rateAfter rate closing a = rate + (closing - rate) / 2 ^ a := if_pos h

theorem rateAfter_of_lt (h : closing < rate) : rateAfter rate closing a = rate - (rate - closing) / 2 ^ a :=
  if_neg (Nat.not_le.2 h)

/-- The quotient truncated toward zero is that of the distance, with the sign of the difference. -/
theorem rateAfter_eq_tdiv :
    ((rateAfter rate closing a : Nat) : Int) = rate + Int.tdiv ((closing : Int) - rate) (2 ^ a) := by
  have hQuotient (x : Nat) : Int.tdiv x (2 ^ a) = ((x / 2 ^ a : Nat) : Int) := by
    rw [Int.ofNat_tdiv]
    norm_cast
  rcases le_or_gt rate closing with h | h
  · rw [rateAfter_of_le _ _ _ h, ← Nat.cast_sub h, hQuotient]
    push_cast
    rfl
  · have hLe : (rate - closing) / 2 ^ a ≤ rate := (Nat.div_le_self _ _).trans (Nat.sub_le _ _)
    rw [rateAfter_of_lt _ _ _ h, ← neg_sub, Int.neg_tdiv, ← Nat.cast_sub h.le, hQuotient, Nat.cast_sub hLe]
    ring

theorem rateAfter_zero : rateAfter rate closing 0 = closing := by
  rcases le_or_gt rate closing with h | h
  · rw [rateAfter_of_le _ _ _ h, pow_zero, Nat.div_one]
    omega
  · rw [rateAfter_of_lt _ _ _ h, pow_zero, Nat.div_one]
    omega

theorem rateAfter_between :
    min rate closing ≤ rateAfter rate closing a ∧ rateAfter rate closing a ≤ max rate closing := by
  rcases le_or_gt rate closing with h | h
  · have hStep := Nat.div_le_self (closing - rate) (2 ^ a)
    rw [rateAfter_of_le _ _ _ h, min_eq_left h, max_eq_right h]
    exact ⟨Nat.le_add_right _ _, Nat.add_le_of_le_sub' h hStep⟩
  · have hStep := Nat.div_le_self (rate - closing) (2 ^ a)
    rw [rateAfter_of_lt _ _ _ h, min_eq_right h.le, max_eq_left h.le]
    exact ⟨Nat.le_sub_of_add_le (Nat.add_le_of_le_sub' h.le hStep), Nat.sub_le _ _⟩

theorem rateAfter_of_near (h : ((closing : Int) - rate).natAbs < 2 ^ a) : rateAfter rate closing a = rate := by
  rcases le_or_gt rate closing with hle | hlt
  · rw [rateAfter_of_le _ _ _ hle, Nat.div_eq_of_lt (by omega), Nat.add_zero]
  · rw [rateAfter_of_lt _ _ _ hlt, Nat.div_eq_of_lt (by omega), Nat.sub_zero]

end

/-! ### One visit (R100 to R102) -/

section

variable (s : State) (p : RatePass) (m : Member) (g : SegNo)

theorem State.holdsRate_iff : s.holdsRate p m g = true ↔
    m.held = true ∨ s.defn g = none ∨ m.closingWear = none ∨ (s.run g).closingCount < p.minWindows := by
  simp [State.holdsRate, or_assoc]

theorem State.visited_rate : (s.visited p m g).rate =
    if s.holdsRate p m g then m.rate else rateAfter m.rate (m.closingWear.getD 0) p.shift := by
  unfold State.visited
  dsimp only
  (repeat' split) <;> rfl

theorem State.visited_projection : (s.visited p m g).projection =
    if m.held then m.projection else projectionOf m.wear m.limit (s.visited p m g).rate s.etm.epoch := by
  unfold State.visited
  dsimp only
  cases h : s.holdsRate p m g <;> cases hh : m.held <;> simp [hh, Member.project]

/-- A visit writes the rate and the projection alone. -/
theorem State.visited_writes : s.visited p m g =
    { m with rate := (s.visited p m g).rate, projection := (s.visited p m g).projection } := by
  unfold State.visited
  dsimp only
  (repeat' split) <;> rfl

theorem State.visited_rate_of_held (h : s.holdsRate p m g = true) : (s.visited p m g).rate = m.rate := by
  rw [s.visited_rate, if_pos h]

theorem State.visited_rate_of_updated (h : ¬ s.holdsRate p m g = true) {c : Nat} (hc : m.closingWear = some c) :
    (s.visited p m g).rate = rateAfter m.rate c p.shift := by
  rw [s.visited_rate, if_neg h, hc, Option.getD_some]

theorem State.visited_projected (h : m.held = false) : Projected s.etm.epoch (s.visited p m g) := by
  have hWear : (s.visited p m g).wear = m.wear := by rw [s.visited_writes]
  have hLimit : (s.visited p m g).limit = m.limit := by rw [s.visited_writes]
  unfold Projected
  rw [hWear, hLimit, s.visited_projection, if_neg (by simp [h])]
  rfl

end

/-! ### RATE_PASS_VISIT and PROJECTIONS_REFRESHED -/

section

variable (s : State)

/-- The pass in flight, at record `i`, has member `n` left to visit (R100). -/
def State.leftToVisit (s : State) (i : Nat) (n : MemberNo) : Prop :=
  i ≤ n.val ∧ ∃ m, s.member n = some m ∧ m.segment.isSome

theorem State.leftToVisit_iff (i : Nat) (n : MemberNo) :
    (decide (i ≤ n.val) && match s.member n with | some m => m.segment.isSome | none => false) = true
      ↔ s.leftToVisit i n := by
  unfold State.leftToVisit
  cases s.member n <;> simp

theorem State.nextVisit_eq_some {i : Nat} {n : MemberNo} :
    s.nextVisit i = some n ↔ s.leftToVisit i n ∧ ∀ k, s.leftToVisit i k → n ≤ k := by
  unfold State.nextVisit allMembers
  rw [find?_finRange_eq_some]
  exact and_congr (s.leftToVisit_iff i n) (forall_congr' fun k => imp_congr (s.leftToVisit_iff i k) Iff.rfl)

theorem State.nextVisit_eq_none {i : Nat} : s.nextVisit i = none ↔ ∀ n, ¬ s.leftToVisit i n := by
  unfold State.nextVisit allMembers
  rw [find?_finRange_eq_none]
  exact forall_congr' fun n => Bool.eq_false_iff.trans (not_congr (s.leftToVisit_iff i n))

theorem State.visit_of_member {n : MemberNo} {m : Member} {g : SegNo} (hm : s.member n = some m)
    (hg : m.segment = some g) (p : RatePass) : s.visit p n = s.setMember n (some (s.visited p m g)) := by
  simp [State.visit, hm, hg]

theorem exec_ratePassVisit_idle (h : s.settle.wau.pass = none) : exec .ratePassVisit s = .next s.settle := by
  show execRatePassVisit s = _
  simp only [execRatePassVisit, h]

theorem exec_ratePassVisit_end {p : RatePass} (h : s.settle.wau.pass = some p) (hn : s.settle.nextVisit p.next = none) :
    exec .ratePassVisit s = .next (s.settle.setPass (some { p with next := 192 })) := by
  show execRatePassVisit s = _
  simp only [execRatePassVisit, h, hn]

/-- The state after the pass `p` has visited member `n`, of record `m` and segment `g` (R100). -/
def State.afterVisit (s : State) (p : RatePass) (n : MemberNo) (m : Member) (g : SegNo) : State :=
  (s.setMember n (some (s.visited p m g))).setPass (some { p with next := n.val + 1 })

theorem exec_ratePassVisit_visits {p : RatePass} (h : s.settle.wau.pass = some p) {n : MemberNo}
    (hn : s.settle.nextVisit p.next = some n) {m : Member} (hm : s.settle.member n = some m) {g : SegNo}
    (hg : m.segment = some g) : exec .ratePassVisit s = .next (s.settle.afterVisit p n m g) := by
  show execRatePassVisit s = _
  simp only [execRatePassVisit, h, hn, State.visit_of_member _ hm hg, State.afterVisit]

theorem State.afterVisit_keeps (p : RatePass) (n : MemberNo) (m : Member) (g : SegNo) :
    KeepsAllBut [.wau] s (s.afterVisit p n m g) := by simp [State.afterVisit, keepsAllBut_iff]

theorem State.member_afterVisit_self (p : RatePass) (n : MemberNo) (m : Member) (g : SegNo) :
    (s.afterVisit p n m g).member n = some (s.visited p m g) := by simp [State.afterVisit]

theorem State.member_afterVisit_ne {n k : MemberNo} (h : k ≠ n) (p : RatePass) (m : Member) (g : SegNo) :
    (s.afterVisit p n m g).member k = s.member k := s.member_setMember_ne h _

/-- Nothing but the pass moves, or one member that the pass had left is visited. -/
theorem exec_ratePassVisit_cases :
    (∃ pass, exec .ratePassVisit s = .next (s.settle.setPass pass))
      ∨ ∃ p n m g, s.settle.wau.pass = some p ∧ s.settle.member n = some m
        ∧ exec .ratePassVisit s = .next (s.settle.afterVisit p n m g) := by
  cases hp : s.settle.wau.pass with
  | none => exact .inl ⟨none, by rw [exec_ratePassVisit_idle s hp, ← hp]; rfl⟩
  | some p =>
    cases hn : s.settle.nextVisit p.next with
    | none => exact .inl ⟨_, exec_ratePassVisit_end s hp hn⟩
    | some n =>
      obtain ⟨-, m, hm, hSome⟩ := ((State.nextVisit_eq_some _).1 hn).1
      obtain ⟨g, hg⟩ := Option.isSome_iff_exists.1 hSome
      exact .inr ⟨p, n, m, g, rfl, hm, exec_ratePassVisit_visits s hp hn hm hg⟩

theorem exec_projectionsRefreshed_idle (h : s.settle.wau.pass = none) :
    exec .projectionsRefreshed s = .next s.settle := by
  show execProjectionsRefreshed s = _
  simp [execProjectionsRefreshed, State.passDone, h]

theorem exec_projectionsRefreshed_early {p : RatePass} (h : s.settle.wau.pass = some p) {n : MemberNo}
    (hn : s.settle.nextVisit p.next = some n) : exec .projectionsRefreshed s = .next s.settle := by
  show execProjectionsRefreshed s = _
  simp [execProjectionsRefreshed, State.passDone, h, hn]

theorem exec_projectionsRefreshed_done {p : RatePass} (h : s.settle.wau.pass = some p)
    (hn : s.settle.nextVisit p.next = none) :
    exec .projectionsRefreshed s = .next ((s.settle.setPass none).setPlanner s.settle.spl.planner.refreshed) := by
  show execProjectionsRefreshed s = _
  simp [execProjectionsRefreshed, State.passDone, h, hn]

/-- The signal starts a run, or asks for a rerun of the one in flight, where auto-plan is on (R140). -/
theorem Planner.refreshed_eq (p : Planner) : p.refreshed =
    if p.autoPlan = false then p else if p.stage = .idle then p.start else { p with rerun := true } := by
  unfold Planner.refreshed
  cases h : p.autoPlan
  · rfl
  · by_cases hi : p.stage = .idle <;> simp [Planner.running, hi]

end

/-! ### O39 and O40 -/

/-- Settles O39: the quotient by `rateAfter_eq_tdiv`; the pass by the one member that a visit writes. -/
theorem rateUpdate : Obligations.RateUpdate := by
  unfold Obligations.RateUpdate
  refine ⟨fun rate closing a => ?_, fun s t hStep => ⟨s.settle, s.settle_shareTaken, ?_⟩⟩
  · obtain ⟨hLower, hUpper⟩ := rateAfter_between rate closing a
    exact ⟨rateAfter_eq_tdiv rate closing a, rateAfter_zero rate closing, hLower, hUpper,
      rateAfter_of_near rate closing a⟩
  have hSame {x : Option Member} : ∀ m m', x = some m → x = some m' →
      m' = { m with rate := m'.rate, projection := m'.projection } ∧ m'.rate = m.rate := by
    rintro m m' rfl ⟨⟩
    exact ⟨rfl, rfl⟩
  rcases exec_ratePassVisit_cases s with ⟨pass, h⟩ | ⟨p, n, m, g, hp, hm, h⟩
  · obtain rfl := Host.Outcome.next.inj (h.symm.trans hStep)
    exact ⟨by simp [keepsAllBut_iff], fun n => ⟨Iff.rfl, fun m m' hm hm' =>
      ⟨(hSame m m' hm hm').1, .inl (hSame m m' hm hm').2⟩⟩⟩
  · obtain rfl := Host.Outcome.next.inj (h.symm.trans hStep)
    refine ⟨State.afterVisit_keeps _ _ _ _ _, fun k => ?_⟩
    by_cases hk : k = n
    · subst hk
      rw [State.member_afterVisit_self, hm]
      refine ⟨by simp, ?_⟩
      rintro _ _ ⟨⟩ ⟨⟩
      refine ⟨State.visited_writes _ _ _ _, ?_⟩
      by_cases hHolds : s.settle.holdsRate p m g = true
      · exact .inl (State.visited_rate_of_held _ _ _ _ hHolds)
      · have hClosing : m.closingWear ≠ none := fun hc =>
          hHolds ((State.holdsRate_iff _ _ _ _).2 (.inr (.inr (.inl hc))))
        obtain ⟨c, hc⟩ := Option.ne_none_iff_exists'.1 hClosing
        exact .inr ⟨p, c, hp, hc, State.visited_rate_of_updated _ _ _ _ hHolds hc⟩
    · rw [State.member_afterVisit_ne _ hk]
      exact ⟨Iff.rfl, fun m m' hm hm' => ⟨(hSame m m' hm hm').1, .inl (hSame m m' hm hm').2⟩⟩

/-- Settles O40: with no pass, with no member left, and at the next member left. -/
theorem ratePassProceeds : Obligations.RatePassProceeds := by
  unfold Obligations.RatePassProceeds
  refine fun s => ⟨s.settle, s.settle_shareTaken,
    fun hp => ⟨exec_ratePassVisit_idle s hp, exec_projectionsRefreshed_idle s hp⟩,
    fun p hp => ⟨fun hNone => ?_, fun n m g hLeft hLeast hm hg => ?_⟩⟩
  · have hn : s.settle.nextVisit p.next = none := (State.nextVisit_eq_none _).2 hNone
    refine ⟨exec_ratePassVisit_end s hp hn, ?_⟩
    rw [exec_projectionsRefreshed_done s hp hn, Planner.refreshed_eq]
    rfl
  · have hn : s.settle.nextVisit p.next = some n := (State.nextVisit_eq_some _).2 ⟨hLeft, hLeast⟩
    refine ⟨exec_projectionsRefreshed_early s hp hn, _, _, exec_ratePassVisit_visits s hp hn hm hg,
      State.afterVisit_keeps _ _ _ _ _, State.member_afterVisit_self _ _ _ _ _,
      fun k hk => State.member_afterVisit_ne _ hk _ _ _, rfl, State.visited_writes _ _ _ _,
      fun hHeld => State.visited_rate_of_held _ _ _ _ ((State.holdsRate_iff _ _ _ _).2 hHeld),
      fun hNot c hc => State.visited_rate_of_updated _ _ _ _ (fun h => hNot ((State.holdsRate_iff _ _ _ _).1 h)) hc,
      fun hHeld => ?_, State.visited_projected _ _ _ _⟩
    rw [State.visited_projection, if_pos hHeld]

end Sys2Proof.Machine
end

section
/-! SUPPORT. What the SPL takes from a boundary (R129, R130, R135), as the rest of the boundary sees it: it reads the SPL and the
epoch number alone, and posts notices of its own kinds alone. -/

namespace Sys2Proof.Machine

/-! ### Relations along a fold -/

section

variable {α : Type} {R : State → State → Prop} {f : State → α → State}

/-- What every step keeps, the whole fold keeps. -/
theorem foldl_rel (hRefl : ∀ s, R s s) (hTrans : ∀ {s t u}, R s t → R t u → R s u) {l : List α}
    (h : ∀ a ∈ l, ∀ s, R s (f s a)) (s : State) : R s (l.foldl f s) := by
  induction l generalizing s with
  | nil => exact hRefl s
  | cons a l ih =>
    exact hTrans (h a List.mem_cons_self s) (ih (fun b hb => h b (List.mem_cons_of_mem a hb)) (f s a))

/-- A fold over distinct things takes one of them at some point, and what the others keep stands before and after. -/
theorem foldl_around (hRefl : ∀ s, R s s) (hTrans : ∀ {s t u}, R s t → R t u → R s u) {p : α}
    (h : ∀ a, a ≠ p → ∀ s, R s (f s a)) {l : List α} (hl : l.Nodup) (hp : p ∈ l) (s : State) :
    ∃ v, R s v ∧ R (f v p) (l.foldl f s) := by
  obtain ⟨before, after, rfl⟩ := List.append_of_mem hp
  obtain ⟨hApart, -⟩ := List.nodup_cons.1 (List.nodup_middle.1 hl)
  have hNe : ∀ a ∈ before ++ after, a ≠ p := fun a ha e => hApart (e ▸ ha)
  refine ⟨before.foldl f s, foldl_rel hRefl hTrans (fun a ha => h a (hNe a (List.mem_append_left _ ha))) s, ?_⟩
  rw [List.foldl_append, List.foldl_cons]
  exact foldl_rel hRefl hTrans (fun a ha => h a (hNe a (List.mem_append_right _ ha))) _

end

/-! ### One generation step (R136) -/

section

variable (s : State) (t : Template)

/-- The start that a generation step with template `t` comes to (R136, step 1). -/
def State.stepStart : Nat := satAdd Config.max32 s.spl.generator.lastStart t.offset

/-- The generator moved on to that start and to its next template (R136). -/
def State.stepped : State :=
  s.setGenerator { s.spl.generator with lastStart := s.stepStart t, index := s.spl.generator.index + 1 }

theorem State.generateStep_of_past {s : State} {t : Template} (h : s.stepStart t ≤ s.etm.epoch) :
    s.generateStep t = (((s.stepped t).post .windowSkipped 0 (s.stepStart t)).endStep
      (decide (Config.max32 < s.spl.generator.lastStart + t.offset) && decide (s.etm.epoch = Config.max32)), false) :=
  if_pos h

theorem State.generateStep_of_ahead {s : State} {t : Template} (h : ¬ s.stepStart t ≤ s.etm.epoch) :
    s.generateStep t
      = (((s.stepped t).listWindow (s.stepStart t) t.length t.capacity t.mask .pattern).endStep false, true) :=
  if_neg h

end

/-! ### What the SPL reads at a boundary -/

/-- Two states that the SPL cannot tell apart at a boundary: the same SPL in the same epoch. -/
def SamePlan (s u : State) : Prop := u.spl = s.spl ∧ u.etm.epoch = s.etm.epoch

section SamePlan

variable {s u : State}

theorem SamePlan.refl (s : State) : SamePlan s s := ⟨rfl, rfl⟩

theorem SamePlan.trans {s t u : State} (h : SamePlan s t) (h' : SamePlan t u) : SamePlan s u :=
  ⟨h'.1.trans h.1, h'.2.trans h.2⟩

theorem SamePlan.post (h : SamePlan s u) (k : NoticeKind) (x v x' v' : Nat) :
    SamePlan (s.post k x v) (u.post k x' v') := h

theorem SamePlan.slot (h : SamePlan s u) : u.slot = s.slot := by
  funext k
  simp only [State.slot, h.1]

theorem SamePlan.setSlot (h : SamePlan s u) (k : SlotNo) (x : Option Order) : SamePlan (s.setSlot k x) (u.setSlot k x) :=
  ⟨by simp only [State.setSlot, h.1], h.2⟩

theorem SamePlan.setWindows (h : SamePlan s u) (ws : List MaintWindow) : SamePlan (s.setWindows ws) (u.setWindows ws) :=
  ⟨by simp only [State.setWindows, h.1], h.2⟩

theorem SamePlan.setGenerator (h : SamePlan s u) (x : Generator) : SamePlan (s.setGenerator x) (u.setGenerator x) :=
  ⟨by simp only [State.setGenerator, h.1], h.2⟩

theorem SamePlan.setPlanner (h : SamePlan s u) (p : Planner) : SamePlan (s.setPlanner p) (u.setPlanner p) :=
  ⟨by simp only [State.setPlanner, h.1], h.2⟩

theorem SamePlan.foldl {α : Type} {f : State → α → State} (hf : ∀ a {s u}, SamePlan s u → SamePlan (f s a) (f u a))
    (l : List α) {s u : State} (h : SamePlan s u) : SamePlan (l.foldl f s) (l.foldl f u) := by
  induction l generalizing s u with
  | nil => exact h
  | cons a l ih => exact ih (hf a h)

theorem SamePlan.slotsThat (h : SamePlan s u) : u.slotsThat = s.slotsThat := by
  funext test
  simp only [State.slotsThat, h.slot]

theorem SamePlan.mapSlot (h : SamePlan s u) (f : Order → Order) (k : SlotNo) :
    SamePlan (State.mapSlot f s k) (State.mapSlot f u k) := by
  simp only [State.mapSlot, h.slot]
  exact h.setSlot _ _

theorem SamePlan.activateWindow (h : SamePlan s u) (n : Nat) (w : MaintWindow) :
    SamePlan (State.activateWindow n s w) (State.activateWindow n u w) := by
  have hActive := h.setWindows (activateTag w.tag s.spl.windows)
  simp only [State.activateWindow, h.1, hActive.slotsThat]
  split
  · exact (SamePlan.foldl (fun k _ _ h => h.mapSlot _ k) _ hActive).post _ _ _ _ _
  · exact hActive

theorem SamePlan.activateWindows (h : SamePlan s u) (n : Nat) : SamePlan (s.activateWindows n) (u.activateWindows n) := by
  simp only [State.activateWindows, h.1]
  exact SamePlan.foldl (fun w _ _ h => h.activateWindow n w) _ h

theorem SamePlan.missOrder (h : SamePlan s u) (tag : Nat) (k : SlotNo) :
    SamePlan (State.missOrder tag s k) (State.missOrder tag u k) := by
  simp only [State.missOrder, h.slot]
  split
  · exact h
  · exact (h.setSlot _ _).post _ _ _ _ _

theorem SamePlan.requestRerun (h : SamePlan s u) : SamePlan s.requestRerun u.requestRerun := by
  simp only [State.requestRerun, h.1]
  split
  · exact h.setPlanner _
  · exact h

theorem SamePlan.endWindow (h : SamePlan s u) (w : MaintWindow) : SamePlan (s.endWindow w) (u.endWindow w) := by
  have hMissed := SamePlan.foldl (fun k _ _ h => h.missOrder w.tag k) (s.slotsToMiss w.tag) h
  have hEnded := hMissed.setWindows
    (((s.slotsToMiss w.tag).foldl (State.missOrder w.tag) s).spl.windows.filter fun x => x.tag ≠ w.tag)
  have hSlots : u.slotsToMiss w.tag = s.slotsToMiss w.tag := by simp only [State.slotsToMiss, h.slotsThat]
  simp only [State.endWindow, hSlots, hMissed.1]
  split
  · exact hEnded
  · exact hEnded.requestRerun

theorem SamePlan.endWindows (h : SamePlan s u) (n : Nat) : SamePlan (s.endWindows n) (u.endWindows n) := by
  simp only [State.endWindows, h.1]
  exact SamePlan.foldl (fun w _ _ h => h.endWindow w) _ h

theorem SamePlan.listWindow (h : SamePlan s u) (start length capacity : Nat) (mask : BitVec 24) (source : WindowSource) :
    SamePlan (s.listWindow start length capacity mask source) (u.listWindow start length capacity mask source) :=
  ⟨by simp only [State.listWindow, h.1], h.2⟩

theorem SamePlan.endStep (h : SamePlan s u) (stuck : Bool) : SamePlan (s.endStep stuck) (u.endStep stuck) := by
  have hWrapped := (h.setGenerator { s.spl.generator with index := 0 }).post .patternWrap 0 s.spl.generator.lastStart 0
    s.spl.generator.lastStart
  simp only [State.endStep, h.1]
  split <;> split
  · exact (hWrapped.setGenerator _).post _ _ _ _ _
  · exact (h.setGenerator _).post _ _ _ _ _
  · exact hWrapped
  · exact h

theorem SamePlan.generateStep (h : SamePlan s u) (t : Template) :
    SamePlan (s.generateStep t).1 (u.generateStep t).1 ∧ (u.generateStep t).2 = (s.generateStep t).2 := by
  have hStart : u.stepStart t = s.stepStart t := by simp only [State.stepStart, h.1]
  have hMoved : SamePlan (s.stepped t) (u.stepped t) := by
    simp only [State.stepped, hStart, h.1]
    exact h.setGenerator _
  by_cases hPast : s.stepStart t ≤ s.etm.epoch
  · rw [State.generateStep_of_past hPast, State.generateStep_of_past (by rwa [hStart, h.2]), hStart, h.1, h.2]
    exact ⟨(hMoved.post _ _ _ _ _).endStep _, rfl⟩
  · rw [State.generateStep_of_ahead hPast, State.generateStep_of_ahead (by rwa [hStart, h.2]), hStart]
    exact ⟨(hMoved.listWindow _ _ _ _ _).endStep _, rfl⟩

theorem SamePlan.generateSteps (n : Nat) {s u : State} (h : SamePlan s u) :
    SamePlan (State.generateSteps n s) (State.generateSteps n u) := by
  induction n generalizing s u with
  | zero => exact h
  | succ n ih =>
    have hMay : u.mayGenerate = s.mayGenerate := by simp only [State.mayGenerate, h.1]
    simp only [State.generateSteps, hMay, h.1]
    split
    · split
      · exact h
      · next t _ =>
        obtain ⟨hStep, hAdded⟩ := h.generateStep t
        simp only [hAdded]
        split
        · exact hStep
        · exact ih hStep
    · exact h

theorem SamePlan.generate (h : SamePlan s u) : SamePlan s.generate u.generate := by
  simp only [State.generate, h.1, h.2]
  exact h.generateSteps _

theorem SamePlan.tendWindows (h : SamePlan s u) : SamePlan s.tendWindows u.tendWindows := by
  simp only [State.tendWindows, h.2]
  exact ((h.activateWindows _).endWindows _).generate

end SamePlan

/-! ### The notices of the SPL at a boundary -/

/-- Postings, one after another, in one epoch and tick. -/
theorem Posts.append {before after : List (NoticeKind × Nat × Nat)} {s t u : State} (h : Posts before s t)
    (he : t.etm.epoch = s.etm.epoch) (ht : t.etm.tick = s.etm.tick) (h' : Posts after t u) :
    Posts (before ++ after) s u := by
  simp only [Posts] at h h' ⊢
  rw [List.foldl_append, ← h, h', he, ht]

/-- From `s` to `t`, in one epoch and tick, notices of these kinds were posted, and no other. -/
structure PostsOnly (kinds : List NoticeKind) (s t : State) : Prop where
  epoch : t.etm.epoch = s.etm.epoch
  tick : t.etm.tick = s.etm.tick
  posts : ∃ notes, (∀ n ∈ notes, n.1 ∈ kinds) ∧ Posts notes s t

section PostsOnly

variable {kinds : List NoticeKind}

theorem PostsOnly.of_nq {s t : State} (he : t.etm.epoch = s.etm.epoch) (ht : t.etm.tick = s.etm.tick)
    (hn : t.nq = s.nq) : PostsOnly kinds s t := ⟨he, ht, [], by simp, hn⟩

theorem PostsOnly.of_keeps {s t : State} (h : KeepsAllBut [.spl] s t) : PostsOnly kinds s t :=
  .of_nq (congrArg Etm.epoch (h.1 .etm (by decide))) (congrArg Etm.tick (h.1 .etm (by decide))) (h.1 .nq (by decide))

theorem PostsOnly.refl (s : State) : PostsOnly kinds s s := .of_nq rfl rfl rfl

theorem PostsOnly.trans {s t u : State} (h : PostsOnly kinds s t) (h' : PostsOnly kinds t u) : PostsOnly kinds s u := by
  obtain ⟨before, hBefore, hPosts⟩ := h.posts
  obtain ⟨after, hAfter, hPosts'⟩ := h'.posts
  exact ⟨h'.epoch.trans h.epoch, h'.tick.trans h.tick, before ++ after,
    fun n hn => (List.mem_append.1 hn).elim (hBefore n) (hAfter n), hPosts.append h.epoch h.tick hPosts'⟩

theorem PostsOnly.post {s t : State} (h : PostsOnly kinds s t) {k : NoticeKind} (hk : k ∈ kinds) (x v : Nat) :
    PostsOnly kinds s (t.post k x v) := h.trans ⟨rfl, rfl, [(k, x, v)], by simpa using hk, rfl⟩

theorem postsOnly_foldl {α : Type} {f : State → α → State} {l : List α} (h : ∀ a ∈ l, ∀ s, PostsOnly kinds s (f s a))
    (s : State) : PostsOnly kinds s (l.foldl f s) := foldl_rel PostsOnly.refl PostsOnly.trans h s

end PostsOnly

/-- The kinds of notice that the SPL posts at a boundary (07 section 7.3). -/
def boundaryPlanKinds : List NoticeKind := [.windowReleased, .orderMissed, .patternWrap, .patternEnd, .windowSkipped]

section

variable (s : State)

theorem State.activateWindow_postsOnly (n : Nat) (w : MaintWindow) :
    PostsOnly boundaryPlanKinds s (State.activateWindow n s w) := by
  have hActive : PostsOnly boundaryPlanKinds s (s.setWindows (activateTag w.tag s.spl.windows)) := .of_nq rfl rfl rfl
  unfold State.activateWindow
  dsimp only
  split
  · exact (hActive.trans (postsOnly_foldl (fun k _ u => .of_keeps (u.mapSlot_keeps _ k)) _)).post (by decide) _ _
  · exact hActive

theorem State.missOrder_postsOnly (tag : Nat) (k : SlotNo) :
    PostsOnly boundaryPlanKinds s (State.missOrder tag s k) := by
  unfold State.missOrder
  split
  · exact .refl s
  · exact (PostsOnly.of_keeps (by simp [keepsAllBut_iff])).post (k := .orderMissed) (by decide) _ _

theorem State.endWindow_postsOnly (w : MaintWindow) : PostsOnly boundaryPlanKinds s (s.endWindow w) := by
  have hEnded : PostsOnly boundaryPlanKinds s (((s.slotsToMiss w.tag).foldl (State.missOrder w.tag) s).setWindows
      (((s.slotsToMiss w.tag).foldl (State.missOrder w.tag) s).spl.windows.filter fun x => x.tag ≠ w.tag)) :=
    (postsOnly_foldl (fun k _ u => u.missOrder_postsOnly w.tag k) s).trans (.of_nq rfl rfl rfl)
  unfold State.endWindow
  dsimp only
  split
  · exact hEnded
  · exact hEnded.trans (.of_keeps (State.requestRerun_keeps _))

theorem State.endStep_postsOnly (stuck : Bool) : PostsOnly boundaryPlanKinds s (s.endStep stuck) := by
  have hMoved (u : State) (x : Generator) : PostsOnly boundaryPlanKinds u (u.setGenerator x) := .of_nq rfl rfl rfl
  have hWrapped := (hMoved s { s.spl.generator with index := 0 }).post (k := .patternWrap) (by decide) 0
    s.spl.generator.lastStart
  unfold State.endStep
  dsimp only
  split <;> split
  · exact (hWrapped.trans (hMoved _ _)).post (by decide) _ _
  · exact (hMoved s _).post (by decide) _ _
  · exact hWrapped
  · exact .refl s

theorem State.generateStep_postsOnly (t : Template) : PostsOnly boundaryPlanKinds s (s.generateStep t).1 := by
  have hMoved : PostsOnly boundaryPlanKinds s (s.stepped t) := .of_nq rfl rfl rfl
  by_cases hPast : s.stepStart t ≤ s.etm.epoch
  · rw [State.generateStep_of_past hPast]
    exact (hMoved.post (by decide) _ _).trans (State.endStep_postsOnly _ _)
  · rw [State.generateStep_of_ahead hPast]
    exact (hMoved.trans (.of_keeps (State.listWindow_keeps _ _ _ _ _ _))).trans (State.endStep_postsOnly _ _)

theorem State.generateSteps_postsOnly (n : Nat) : PostsOnly boundaryPlanKinds s (State.generateSteps n s) := by
  induction n generalizing s with
  | zero => exact .refl s
  | succ n ih =>
    unfold State.generateSteps
    split
    · split
      · exact .refl s
      · next t _ =>
        have hStep := s.generateStep_postsOnly t
        dsimp only
        split
        · exact hStep
        · exact hStep.trans (ih _)
    · exact .refl s

theorem State.tendWindows_postsOnly : PostsOnly boundaryPlanKinds s s.tendWindows :=
  ((postsOnly_foldl (fun w _ u => u.activateWindow_postsOnly _ w) s).trans
    (postsOnly_foldl (fun w _ u => u.endWindow_postsOnly w) _)).trans (State.generateSteps_postsOnly _ _)

end

end Sys2Proof.Machine
end

section
/-! SUPPORT. A boundary as a whole (R95, R97 to R99, R172), whatever the order in which its parts are taken. -/

namespace Sys2Proof.Machine

/-! ### What the RQD, the SMU and the WAU take -/

section

variable (s : State)

theorem State.applySettings_etm :
    s.applySettings.etm = { s.etm with settings := s.rqd.pendingSettings.getD s.etm.settings } := by
  unfold State.applySettings
  cases s.rqd.pendingSettings <;> rfl

theorem State.applySettings_rqd : s.applySettings.rqd = { s.rqd with pendingSettings := none } := by
  unfold State.applySettings
  cases h : s.rqd.pendingSettings
  · simp [← h]
  · rfl

theorem State.enterSetup_rqd (tick : Tick) :
    (s.enterSetup tick).rqd = { s.rqd with mode := .setup, pendingSetup := false } := by
  have hClosed : ((arrange s.arbiter.segments allSegments).foldl (State.setupSegment tick) s).rqd = s.rqd :=
    (keepsAllBut_foldl (fun u g => u.setupSegment_keeps tick g) _ s).1 .rqd (by decide)
  unfold State.enterSetup
  simp only [State.post_rqd, hClosed]

/-- The share that `takeShares` leaves, if any, is written over the one left before. -/
theorem State.takeShares_etm (carried : EpochSettings) (h : s.rqd.pendingSetup = false) :
    (s.takeShares carried.shift carried.minWindows).etm
      = { s.etm with untaken := (s.shareLeft s.etm.epoch carried).or s.etm.untaken } := by
  unfold State.shareLeft
  rcases hl : s.lagAt s.etm.epoch with _ | _ | _
  · rw [s.takeShares_none hl]
    simp [h]
  · rw [s.takeShares_smu hl]
    simp [h]
  · rw [s.takeShares_wau hl]
    simp [h]

theorem State.shareLeft_of_pending (h : s.rqd.pendingSetup = true) (number : Nat) (carried : EpochSettings) :
    s.shareLeft number carried = none := if_pos h

/-- The share left depends on the RQD and the arbiter alone. -/
theorem shareLeft_congr {s t : State} (hp : t.rqd.pendingSetup = s.rqd.pendingSetup) (ha : t.arbiter = s.arbiter)
    (number : Nat) (carried : EpochSettings) : t.shareLeft number carried = s.shareLeft number carried := by
  simp only [State.shareLeft, State.lagAt, hp, ha]

theorem State.applySettings_pendingSetup : s.applySettings.rqd.pendingSetup = s.rqd.pendingSetup := by
  rw [s.applySettings_rqd]

theorem State.closeAccounts_of_pending (h : s.rqd.pendingSetup = true) (shift minWindows : Nat) :
    s.closeAccounts shift minWindows
      = (s.applySettings.enterSetup s.applySettings.etm.boundaryTick).moveCounts.beginPass shift minWindows :=
  if_pos (s.applySettings_pendingSetup.trans h)

theorem State.closeAccounts_of_not_pending (h : s.rqd.pendingSetup = false) (shift minWindows : Nat) :
    s.closeAccounts shift minWindows = s.applySettings.takeShares shift minWindows :=
  if_neg (by simp [s.applySettings_pendingSetup, h])

theorem State.closeAccounts_etm (carried : EpochSettings) :
    (s.closeAccounts carried.shift carried.minWindows).etm
      = { s.etm with
          settings := s.rqd.pendingSettings.getD s.etm.settings
          untaken := (s.shareLeft s.etm.epoch carried).or s.etm.untaken } := by
  cases h : s.rqd.pendingSetup
  · have hLeft := shareLeft_congr (s.applySettings_pendingSetup) s.applySettings_arbiter s.etm.epoch carried
    rw [s.closeAccounts_of_not_pending h,
      State.takeShares_etm _ carried (s.applySettings_pendingSetup.trans h), s.applySettings_etm, hLeft]
  · rw [s.closeAccounts_of_pending h, s.shareLeft_of_pending h]
    simp [s.applySettings_etm]

theorem State.closeAccounts_epoch (shift minWindows : Nat) :
    (s.closeAccounts shift minWindows).etm.epoch = s.etm.epoch :=
  congrArg Etm.epoch (s.closeAccounts_etm ⟨0, shift, minWindows, 0, .localClock, 0⟩) |>.trans rfl

theorem State.closeAccounts_tick (shift minWindows : Nat) :
    (s.closeAccounts shift minWindows).etm.tick = s.etm.tick :=
  congrArg Etm.tick (s.closeAccounts_etm ⟨0, shift, minWindows, 0, .localClock, 0⟩) |>.trans rfl

theorem State.closeAccounts_rqd (shift minWindows : Nat) : (s.closeAccounts shift minWindows).rqd = s.rqd.atBoundary := by
  cases h : s.rqd.pendingSetup
  · rw [s.closeAccounts_of_not_pending h]
    simp [s.applySettings_rqd, Rqd.atBoundary, h]
  · rw [s.closeAccounts_of_pending h]
    simp [s.applySettings_rqd, State.enterSetup_rqd, Rqd.atBoundary, h]

theorem CountsMoved.of_smu {s s' t t' : State} (h : CountsMoved s t) (hs : s'.smu = s.smu) (ht : t'.smu = t.smu) :
    CountsMoved s' t' := by
  simp only [CountsMoved, State.defn, State.run, State.segment, hs, ht] at h ⊢
  exact h

theorem SnapshotTaken.of_wau {shift minWindows : Nat} {s s' t t' : State} (h : SnapshotTaken shift minWindows s t)
    (hs : s'.wau = s.wau) (ht : t'.wau = t.wau) : SnapshotTaken shift minWindows s' t' := by
  simp only [SnapshotTaken, State.member, hs, ht] at h ⊢
  exact h

/-- With no change to SETUP pending, each of the SMU and the WAU takes its share, but where it leaves it for later (R95,
R99; log 33). -/
theorem State.closeAccounts_shares (h : s.rqd.pendingSetup = false) (shift minWindows : Nat) :
    (if s.lagAt s.etm.epoch = some .smu then (s.closeAccounts shift minWindows).smu = s.smu
      else CountsMoved s (s.closeAccounts shift minWindows))
    ∧ (if s.lagAt s.etm.epoch = some .wau then (s.closeAccounts shift minWindows).wau = s.wau
      else SnapshotTaken shift minWindows s (s.closeAccounts shift minWindows)) := by
  have hLag : s.applySettings.lagAt s.applySettings.etm.epoch = s.lagAt s.etm.epoch := by
    rw [State.lagAt, s.applySettings_arbiter, s.applySettings_etm]
    rfl
  have hMoved := s.applySettings.moveCounts_countsMoved
  rw [s.closeAccounts_of_not_pending h]
  rcases hl : s.lagAt s.etm.epoch with _ | _ | _
  · rw [State.takeShares_none _ (hLag.trans hl), if_neg (by decide), if_neg (by decide)]
    exact ⟨hMoved.of_smu (by simp) (by simp), (State.beginPass_snapshotTaken _ _ _).of_wau (by simp) rfl⟩
  · rw [State.takeShares_smu _ (hLag.trans hl), if_pos rfl, if_neg (by decide)]
    exact ⟨by simp, (s.applySettings.beginPass_snapshotTaken _ _).of_wau (by simp) (by simp)⟩
  · rw [State.takeShares_wau _ (hLag.trans hl), if_neg (by decide), if_pos rfl]
    exact ⟨hMoved.of_smu (by simp) (by simp), by simp⟩

theorem State.closeAccounts_itu (h : s.rqd.pendingSetup = false) (shift minWindows : Nat) :
    (s.closeAccounts shift minWindows).itu = s.itu := by
  rw [s.closeAccounts_of_not_pending h]
  simp

theorem State.closeAccounts_nq (h : s.rqd.pendingSetup = false) (shift minWindows : Nat) :
    (s.closeAccounts shift minWindows).nq = s.nq := by
  rw [s.closeAccounts_of_not_pending h]
  simp

end

/-- Two alternatives, each weakened by itself. -/
theorem ite_imp {c : Prop} [Decidable c] {a b a' b' : Prop} (h : if c then a else b) (ha : a → a') (hb : b → b') :
    if c then a' else b' := by
  by_cases hc : c
  · rw [if_pos hc] at h ⊢
    exact ha h
  · rw [if_neg hc] at h ⊢
    exact hb h

/-! ### The parts of a boundary, in any order -/

section

variable (s : State) (shift minWindows number : Nat) (tick : Tick) (missed : Bool)

/-- The state in which a boundary to epoch `number` at `tick` takes its parts: a share left before taken, and the epoch
number and the boundary tick set (R95). -/
def State.atParts : State :=
  { s.settle with etm := { s.settle.etm with epoch := number, boundaryTick := tick } }

theorem State.takeBoundary_eq : s.takeBoundary number tick missed =
    (arrange (s.atParts number tick).arbiter.boundary boundaryParts).foldl
      (State.boundaryPart s.etm.settings.shift s.etm.settings.minWindows missed) (s.atParts number tick) := rfl

/-- A boundary takes each of its parts once; what the two others keep stands before it and after it. -/
theorem State.takeBoundary_around {R : State → State → Prop} (hRefl : ∀ s, R s s)
    (hTrans : ∀ {s t u}, R s t → R t u → R s u) (p : BoundaryPart)
    (h : ∀ q, q ≠ p → ∀ u, R u (State.boundaryPart s.etm.settings.shift s.etm.settings.minWindows missed u q)) :
    ∃ v, R (s.atParts number tick) v
      ∧ R (State.boundaryPart s.etm.settings.shift s.etm.settings.minWindows missed v p)
        (s.takeBoundary number tick missed) := by
  rw [s.takeBoundary_eq]
  refine foldl_around hRefl hTrans h (arrange_nodup _ (by decide)) ?_ _
  rw [mem_arrange]
  cases p <;> decide

theorem State.boundaryPart_markNotice : State.boundaryPart shift minWindows missed s .markNotice
    = if missed then s.post .markMissed 0 s.etm.epoch else s := rfl

theorem State.markNotice_keeps : KeepsAllBut [.nq] s (State.boundaryPart shift minWindows missed s .markNotice) := by
  rw [s.boundaryPart_markNotice]
  cases missed <;> simp [keepsAllBut_iff]

/-- The parts other than the accounts write the SPL and the NQ alone. -/
theorem State.takeBoundary_accounts : ∃ v, KeepsAllBut [.spl, .nq] (s.atParts number tick) v
    ∧ KeepsAllBut [.spl, .nq] (v.closeAccounts s.etm.settings.shift s.etm.settings.minWindows)
      (s.takeBoundary number tick missed) := by
  refine s.takeBoundary_around number tick missed (KeepsAllBut.refl _) KeepsAllBut.trans .accounts fun q hq u => ?_
  cases q with
  | markNotice => exact (u.markNotice_keeps _ _ missed).mono (by decide)
  | accounts => exact absurd rfl hq
  | planner => exact u.tendWindows_keeps

theorem State.takeBoundary_etm : (s.takeBoundary number tick missed).etm = { s.etm with
    epoch := number, boundaryTick := tick, settings := s.rqd.pendingSettings.getD s.etm.settings
    untaken := s.shareLeft number s.etm.settings } := by
  obtain ⟨v, hBefore, hAfter⟩ := s.takeBoundary_accounts number tick missed
  have hEtm : v.etm = (s.atParts number tick).etm := hBefore.1 .etm (by decide)
  have hRqd : v.rqd = s.rqd := (hBefore.1 .rqd (by decide)).trans s.settle_rqd
  have hArbiter : v.arbiter = s.arbiter := hBefore.2.1.trans s.settle_arbiter
  have hClosed : (s.takeBoundary number tick missed).etm
      = (v.closeAccounts s.etm.settings.shift s.etm.settings.minWindows).etm := hAfter.1 .etm (by decide)
  rw [hClosed, v.closeAccounts_etm, shareLeft_congr (congrArg Rqd.pendingSetup hRqd) hArbiter, hEtm, hRqd]
  simp [State.atParts]

theorem State.takeBoundary_rqd : (s.takeBoundary number tick missed).rqd = s.rqd.atBoundary := by
  obtain ⟨v, hBefore, hAfter⟩ := s.takeBoundary_accounts number tick missed
  have hRqd : v.rqd = s.rqd := (hBefore.1 .rqd (by decide)).trans s.settle_rqd
  have hClosed : (s.takeBoundary number tick missed).rqd
      = (v.closeAccounts s.etm.settings.shift s.etm.settings.minWindows).rqd := hAfter.1 .rqd (by decide)
  rw [hClosed, v.closeAccounts_rqd, hRqd]

theorem State.closeAccounts_samePlan : SamePlan s (s.closeAccounts shift minWindows) :=
  ⟨s.closeAccounts_spl shift minWindows, s.closeAccounts_epoch shift minWindows⟩

/-- The SPL tends its windows as it and the new epoch number stand, whatever the other parts do before or after. -/
theorem State.takeBoundary_spl :
    (s.takeBoundary number tick missed).spl = (s.settle.inEpoch number).tendWindows.spl := by
  obtain ⟨v, hBefore, hAfter⟩ := s.takeBoundary_around number tick missed SamePlan.refl SamePlan.trans .planner
    fun q hq u => by
      cases q with
      | markNotice => exact ⟨(u.markNotice_keeps _ _ missed).1 .spl (by decide),
          congrArg Etm.epoch ((u.markNotice_keeps _ _ missed).1 .etm (by decide))⟩
      | accounts => exact u.closeAccounts_samePlan _ _
      | planner => exact absurd rfl hq
  have hStart : SamePlan (s.settle.inEpoch number) (s.atParts number tick) := ⟨rfl, rfl⟩
  exact hAfter.1.trans (hStart.trans hBefore).tendWindows.1

/-- With no change to SETUP pending, and none left pending, notices of the SPL's kinds alone were posted. -/
def PlanNotesOnly (s t : State) : Prop :=
  s.rqd.pendingSetup = false → t.rqd.pendingSetup = false ∧ PostsOnly boundaryPlanKinds s t

theorem PlanNotesOnly.refl (s : State) : PlanNotesOnly s s := fun h => ⟨h, .refl s⟩

theorem PlanNotesOnly.trans {s t u : State} (h : PlanNotesOnly s t) (h' : PlanNotesOnly t u) : PlanNotesOnly s u :=
  fun hs =>
    have ⟨ht, hBefore⟩ := h hs
    have ⟨hu, hAfter⟩ := h' ht
    ⟨hu, hBefore.trans hAfter⟩

theorem State.closeAccounts_planNotesOnly : PlanNotesOnly s (s.closeAccounts shift minWindows) := by
  intro h
  refine ⟨?_, .of_nq (s.closeAccounts_epoch _ _) (s.closeAccounts_tick _ _) (s.closeAccounts_nq h shift minWindows)⟩
  rw [s.closeAccounts_rqd]
  rfl

theorem State.tendWindows_planNotesOnly : PlanNotesOnly s s.tendWindows := fun h =>
  ⟨(congrArg Rqd.pendingSetup (s.tendWindows_keeps.1 .rqd (by decide))).trans h, s.tendWindows_postsOnly⟩

/-- The ETM's own notice at a boundary to epoch `number` (R94). -/
def missedNotes (number : Nat) (missed : Bool) : List (NoticeKind × Nat × Nat) :=
  if missed then [(.markMissed, 0, number)] else []

theorem mem_missedNotes {number : Nat} {missed : Bool} {n : NoticeKind × Nat × Nat} :
    n ∈ missedNotes number missed ↔ missed = true ∧ n = (.markMissed, 0, number) := by
  cases missed <;> simp [missedNotes]

theorem State.markNotice_posts : Posts (missedNotes s.etm.epoch missed) s
    (State.boundaryPart shift minWindows missed s .markNotice) := by cases missed <;> rfl

theorem markMissed_not_mem : NoticeKind.markMissed ∉ boundaryPlanKinds := by decide

/-- The notices of a boundary: the SPL's, and MARK_MISSED among them exactly where the mark was missed (R94). -/
theorem State.takeBoundary_notes (h : s.rqd.pendingSetup = false) :
    ∃ notes, Posts notes (s.settle.inEpoch number) (s.takeBoundary number tick missed)
      ∧ (missed = true ↔ (.markMissed, 0, number) ∈ notes)
      ∧ ∀ n ∈ notes, n = (.markMissed, 0, number) ∨ n.1 ∈ boundaryPlanKinds := by
  obtain ⟨v, hBefore, hAfter⟩ := s.takeBoundary_around number tick missed PlanNotesOnly.refl PlanNotesOnly.trans
    .markNotice fun q hq u => by
      cases q with
      | markNotice => exact absurd rfl hq
      | accounts => exact u.closeAccounts_planNotesOnly _ _
      | planner => exact u.tendWindows_planNotesOnly
  obtain ⟨hv, hPlanBefore⟩ := hBefore ((congrArg Rqd.pendingSetup s.settle_rqd).trans h)
  obtain ⟨before, hBeforeKinds, hBeforePosts⟩ := hPlanBefore.posts
  have hKeeps := v.markNotice_keeps s.etm.settings.shift s.etm.settings.minWindows missed
  have hMarkEtm := hKeeps.1 .etm (by decide)
  have hMark := v.markNotice_posts s.etm.settings.shift s.etm.settings.minWindows missed
  obtain ⟨-, hPlanAfter⟩ := hAfter ((congrArg Rqd.pendingSetup (hKeeps.1 .rqd (by decide))).trans hv)
  obtain ⟨after, hAfterKinds, hAfterPosts⟩ := hPlanAfter.posts
  have hEpoch : v.etm.epoch = number := hPlanBefore.epoch
  rw [hEpoch] at hMark
  refine ⟨before ++ (missedNotes number missed ++ after),
    hBeforePosts.append hPlanBefore.epoch hPlanBefore.tick
      (hMark.append (congrArg Etm.epoch hMarkEtm) (congrArg Etm.tick hMarkEtm) hAfterPosts), ?_, ?_⟩
  · have hNotBefore : (.markMissed, 0, number) ∉ before := fun hm => markMissed_not_mem (hBeforeKinds _ hm)
    have hNotAfter : (.markMissed, 0, number) ∉ after := fun hm => markMissed_not_mem (hAfterKinds _ hm)
    simp [mem_missedNotes, hNotBefore, hNotAfter]
  · intro n hn
    rcases List.mem_append.1 hn with hn | hn
    · exact .inr (hBeforeKinds n hn)
    · exact (List.mem_append.1 hn).imp (fun hm => (mem_missedNotes.1 hm).2) (hAfterKinds n)

/-- What a boundary leaves outside the ETM and the RQD where no change to SETUP is pending. -/
theorem State.takeBoundary_taken (h : s.rqd.pendingSetup = false) :
    BoundaryTaken number s.etm.settings missed s.settle (s.takeBoundary number tick missed) := by
  obtain ⟨v, hBefore, hAfter⟩ := s.takeBoundary_accounts number tick missed
  have hv : v.rqd.pendingSetup = false :=
    (congrArg Rqd.pendingSetup ((hBefore.1 .rqd (by decide)).trans s.settle_rqd)).trans h
  have hLag : v.lagAt v.etm.epoch = s.settle.lagAt number := by
    rw [State.lagAt, State.lagAt, hBefore.2.1, hBefore.1 .etm (by decide)]
    rfl
  have hSmu : v.smu = s.settle.smu := hBefore.1 .smu (by decide)
  have hItu : v.itu = s.settle.itu := hBefore.1 .itu (by decide)
  have hWau : v.wau = s.settle.wau := hBefore.1 .wau (by decide)
  have hSmuAfter := hAfter.1 .smu (by decide)
  have hWauAfter := hAfter.1 .wau (by decide)
  obtain ⟨hCounts, hSnapshot⟩ := v.closeAccounts_shares hv s.etm.settings.shift s.etm.settings.minWindows
  rw [hLag] at hCounts hSnapshot
  refine ⟨?_, ?_, ?_, s.takeBoundary_spl number tick missed, s.takeBoundary_notes number tick missed h⟩
  · exact ite_imp hCounts (fun hSame => hSmuAfter.trans (hSame.trans hSmu)) fun hMoved =>
      hMoved.of_smu hSmu.symm hSmuAfter
  · exact (hAfter.1 .itu (by decide)).trans ((v.closeAccounts_itu hv _ _).trans hItu)
  · exact ite_imp hSnapshot (fun hSame => hWauAfter.trans (hSame.trans hWau)) fun hTaken =>
      hTaken.of_wau hWau.symm hWauAfter

end

/-- `BoundaryTaken` reads of the state before it only what is outside the ETM, and the tick. -/
theorem BoundaryTaken.of_start {number : Nat} {carried : EpochSettings} {missed : Bool} {s s' t : State}
    (h : BoundaryTaken number carried missed s' t) (hKeeps : KeepsAllBut [.etm] s s') (hTick : s'.etm.tick = s.etm.tick) :
    BoundaryTaken number carried missed s t := by
  obtain ⟨hCounts, hItu, hSnapshot, hSpl, notes, hPosts, hNotes⟩ := h
  have hLag : s'.lagAt number = s.lagAt number := by rw [State.lagAt, State.lagAt, hKeeps.2.1]
  have hSmu : s'.smu = s.smu := hKeeps.1 .smu (by decide)
  have hWau : s'.wau = s.wau := hKeeps.1 .wau (by decide)
  have hPlan : SamePlan (s.inEpoch number) (s'.inEpoch number) := ⟨hKeeps.1 .spl (by decide), rfl⟩
  have hNq : s'.nq = s.nq := hKeeps.1 .nq (by decide)
  rw [hLag] at hCounts hSnapshot
  refine ⟨?_, hItu.trans (hKeeps.1 .itu (by decide)), ?_, hSpl.trans hPlan.tendWindows.1, notes, ?_, hNotes⟩
  · exact ite_imp hCounts (fun hSame => hSame.trans hSmu) fun hMoved => hMoved.of_smu hSmu.symm rfl
  · exact ite_imp hSnapshot (fun hSame => hSame.trans hWau) fun hTaken => hTaken.of_wau hWau.symm rfl
  · simp only [Posts, State.inEpoch, hNq, hTick] at hPosts ⊢
    exact hPosts

end Sys2Proof.Machine
end

section
/-! SUPPORT. TICK and the commands that take a boundary (R89, R91 to R97): O33, O34 and O35. -/

namespace Sys2Proof.Machine

section

variable (s : State)

/-! ### Answers with the RQD changed -/

/-- A block found the same can be left out of those that may change. -/
theorem KeepsAllBut.without {bs cs : List Block} {s t : State} {b : Block} (h : KeepsAllBut bs s t) (hb : SameBlock b s t)
    (hs : ∀ c ∈ bs, c = b ∨ c ∈ cs) : KeepsAllBut cs s t := by
  refine ⟨fun c hc => ?_, h.2⟩
  by_cases hm : c ∈ bs
  · obtain rfl := (hs c hm).resolve_right hc
    exact hb
  · exact h.1 c hm

theorem State.withEtm_keeps (e : Etm) : KeepsAllBut [.etm] s { s with etm := e } := by simp [keepsAllBut_iff]

theorem State.withRqd_keeps (q : Rqd) : KeepsAllBut [.rqd] s { s with rqd := q } := by simp [keepsAllBut_iff]

theorem State.answer_keeps (k : ReqKind) (st : Status) (d : List Byte) : KeepsAllBut [.lnk, .rqd] s (s.answer k st d) := by
  simp [keepsAllBut_iff]

theorem State.takeHanded_keeps : KeepsAllBut [.rqd] s s.takeHanded := by simp [keepsAllBut_iff]

section

variable {s} {q : Rqd} {bs : List Block} {u : State} {k : ReqKind} {st : Status} {d : List Byte}

/-- What an operation leaves, once answered, is what `AnswersAs` says of it, where the frames handed over stand. -/
theorem answersAs_of_keeps (h : KeepsAllBut (.rqd :: bs) s u) (hl : u.lnk = s.lnk) (hr : u.rqd = q)
    (hh : q.handed = s.rqd.handed) :
    AnswersAs q bs k.code st d s (u.answer k st d) := by
  refine ⟨(h.mono (List.subset_cons_self _ _)).trans ((u.answer_keeps k st d).mono (by simp)), ?_, ?_⟩
  · rw [State.rqd_answer, hr, hh]
  · rw [State.lnk_answer, hl]
    rfl

theorem answersVia_of_keepsAs (via : Delivery) (h : KeepsAllBut (.rqd :: bs) s u) (hl : u.lnk = s.lnk) (hr : u.rqd = q)
    (hh : q.handed = s.rqd.handed) :
    AnswersVia via q bs k.code st d s (u.answerVia via k st d) := by
  cases via with
  | addressed => exact answersAs_of_keeps h hl hr hh
  | broadcast =>
    refine ⟨h.trans (u.takeHanded_keeps.mono (by simp)), ?_⟩
    rw [State.answerVia_broadcast, State.rqd_takeHanded, hr, hh]

end

/-- An answer changes nothing that `BoundaryTaken` reads. -/
theorem BoundaryTaken.answerVia {number : Nat} {carried : EpochSettings} {missed : Bool} {s t : State}
    (h : BoundaryTaken number carried missed s t) (via : Delivery) (k : ReqKind) (st : Status) (d : List Byte) :
    BoundaryTaken number carried missed s (t.answerVia via k st d) := by cases via <;> exact h

theorem State.etm_answerVia (via : Delivery) (k : ReqKind) (st : Status) (d : List Byte) :
    (s.answerVia via k st d).etm = s.etm := by cases via <;> rfl

/-! ### The deadlines (R91, R94) -/

theorem Etm.deadlineDue_iff (e : Etm) :
    e.deadlineDue = true ↔ e.settings.deadlineTicks ≤ (e.tick - e.boundaryTick).toNat := decide_eq_true_iff

theorem EpochSettings.deadlineTicks_eq (e : EpochSettings) :
    e.deadlineTicks = e.length * 60000 + if e.source = .marked then e.grace * 1000 else 0 := by
  unfold EpochSettings.deadlineTicks EpochSettings.lengthTicks
  cases e.source <;> simp [Config.ticksPerMinute, Config.ticksPerSecond]

theorem EpochSettings.deadlineTicks_of_local {e : EpochSettings} (h : e.source = .localClock) :
    e.deadlineTicks = e.length * 60000 := by simp [e.deadlineTicks_eq, h]

theorem EpochSettings.deadlineTicks_of_marked {e : EpochSettings} (h : e.source = .marked) :
    e.deadlineTicks = e.length * 60000 + e.grace * 1000 := by simp [e.deadlineTicks_eq, h]

/-- What a boundary that the ETM takes itself at its deadline, `span` ticks after the last, is said to leave (R91, R94). -/
def DeadlineTaken (span : Nat) (missed : Bool) (s t : State) : Prop :=
  KeepsAllBut [.smu, .itu, .wau, .etm, .spl, .nq, .rqd] s t
    ∧ t.etm = { s.etm with
        epoch := min (s.etm.epoch + 1) (2 ^ 32 - 1), boundaryTick := s.etm.boundaryTick + BitVec.ofNat 32 span
        settings := s.rqd.pendingSettings.getD s.etm.settings
        untaken := s.shareLeft (min (s.etm.epoch + 1) (2 ^ 32 - 1)) s.etm.settings }
    ∧ t.rqd = s.rqd.atBoundary
    ∧ (s.rqd.pendingSetup = false →
        BoundaryTaken (min (s.etm.epoch + 1) (2 ^ 32 - 1)) s.etm.settings missed s.settle t)

theorem State.takeBoundary_deadlineTaken {span : Nat} (h : s.etm.settings.deadlineTicks = span) (missed : Bool) :
    DeadlineTaken span missed s (s.takeBoundary s.etm.nextEpoch s.etm.deadlineTick missed) := by
  subst h
  exact ⟨s.takeBoundary_keeps _ _ _, s.takeBoundary_etm _ _ _, s.takeBoundary_rqd _ _ _, s.takeBoundary_taken _ _ _⟩

/-- A deadline command under its own source, at the deadline; before it or under the other source, nothing. -/
theorem deadline_runs {source : BoundarySource} {span : Nat} {missed : Bool} {i : Instr}
    (hi : exec i s = .next (if s.etm.settings.source = source ∧ s.etm.deadlineDue = true then
      s.takeBoundary s.etm.nextEpoch s.etm.deadlineTick missed else s))
    (hSpan : s.etm.settings.source = source → s.etm.settings.deadlineTicks = span) :
    (s.etm.settings.source ≠ source ∨ (s.etm.tick - s.etm.boundaryTick).toNat < span → exec i s = .next s)
    ∧ (s.etm.settings.source = source → span ≤ (s.etm.tick - s.etm.boundaryTick).toNat →
        ∃ t, exec i s = .next t ∧ DeadlineTaken span missed s t) := by
  rw [hi]
  refine ⟨fun hEarly => ?_, fun hSource hDue => ?_⟩
  · rw [if_neg]
    rintro ⟨hSource, hDue⟩
    rw [Etm.deadlineDue_iff, hSpan hSource] at hDue
    exact hEarly.elim (fun hOther => hOther hSource) fun hBefore => Nat.not_lt.2 hDue hBefore
  · rw [if_pos ⟨hSource, (Etm.deadlineDue_iff _).2 ((hSpan hSource).trans_le hDue)⟩]
    exact ⟨_, rfl, s.takeBoundary_deadlineTaken (hSpan hSource) missed⟩

/-! ### EPOCH_MARK (R91 to R93) -/

theorem Etm.ignoresMark_iff (e : Etm) : e.ignoresMark = true ↔
    e.settings.source = .localClock ∨ (e.tick - e.boundaryTick).toNat < e.settings.length * 30000 := by
  simp only [Etm.ignoresMark, Bool.or_eq_true, decide_eq_true_eq]
  rfl

/-- The ETM as a mark carrying `number` leaves it before it takes the boundary: a mismatch is counted (R93). -/
def Etm.markCounted (e : Etm) (number : Nat) : Etm :=
  { e with markMismatches := if e.epoch < number then e.markMismatches else min (e.markMismatches + 1) 65535 }

/-- The number to which a mark carrying `number` causes a boundary (R93). -/
def Etm.markedEpoch (e : Etm) (number : Nat) : Nat := if e.epoch < number then number else min (e.epoch + 1) (2 ^ 32 - 1)

theorem State.takeMark_of_ignored (h : s.etm.ignoresMark = true) (number : Nat) : s.takeMark number
    = ({ s with etm := { s.etm with marksIgnored := min (s.etm.marksIgnored + 1) 65535 } }, false) := if_pos h

theorem State.takeMark_of_taken (h : ¬ s.etm.ignoresMark = true) (number : Nat) : s.takeMark number
    = (({ s with etm := s.etm.markCounted number } : State).takeBoundary (s.etm.markedEpoch number) s.etm.tick false,
      true) := by
  unfold State.takeMark Etm.markCounted Etm.markedEpoch
  rw [if_neg h]
  by_cases hNumber : s.etm.epoch < number
  · simp only [if_pos hNumber]
  · simp only [if_neg hNumber]
    rfl

theorem exec_epochMark_ignored (via : Delivery) {number : BitVec 32} (h : s.etm.ignoresMark = true) :
    exec (.epochMark via number) s
      = .next (({ s with etm := { s.etm with marksIgnored := min (s.etm.marksIgnored + 1) 65535 } } : State).answerVia via
          .epochMark .ok ([0] ++ be 4 s.etm.epoch)) := by
  show execEpochMark via number s = _
  rw [execEpochMark, s.takeMark_of_ignored h]
  rfl

theorem exec_epochMark_taken (via : Delivery) {number : BitVec 32} (h : ¬ s.etm.ignoresMark = true) :
    exec (.epochMark via number) s
      = .next ((({ s with etm := s.etm.markCounted number.toNat } : State).takeBoundary
          (s.etm.markedEpoch number.toNat) s.etm.tick false).answerVia via .epochMark .ok
            ([1] ++ be 4 (s.etm.markedEpoch number.toNat))) := by
  show execEpochMark via number s = _
  rw [execEpochMark, s.takeMark_of_taken h]
  dsimp only
  rw [State.takeBoundary_etm]
  rfl

/-- A change of the ETM that leaves a share untaken, as it stood, changes nothing that a boundary reads but the settings. -/
theorem State.takeBoundary_withEtm_taken {e : Etm} (hu : e.untaken = s.etm.untaken) (ht : e.tick = s.etm.tick)
    (h : s.rqd.pendingSetup = false) (number : Nat) (tick : Tick) (missed : Bool) :
    BoundaryTaken number e.settings missed s.settle (({ s with etm := e } : State).takeBoundary number tick missed) := by
  refine (State.takeBoundary_taken { s with etm := e } number tick missed h).of_start ?_ ?_
  · rw [s.settle_withEtm hu]
    simp [keepsAllBut_iff]
  · rw [s.settle_withEtm hu, s.etm_settle]
    exact ht

/-! ### EPOCH_SET (R96, R97) -/

theorem sourceOf_eq_some {b : Byte} (h : b.toNat ≤ 1) : sourceOf b = some (if b = 0 then .localClock else .marked) := by
  revert b
  decide

theorem sourceOf_eq_none {b : Byte} (h : ¬ b.toNat ≤ 1) : sourceOf b = none := by
  revert b
  decide

/-- EPOCH_SET's fields are in their ranges (R96). -/
def SettingsAcceptable (r : EpochRecord) : Prop :=
  1 ≤ r.length.toNat ∧ r.length.toNat ≤ 240 ∧ r.shift.toNat ≤ 7 ∧ r.source.toNat ≤ 1 ∧ 1 ≤ r.grace.toNat
    ∧ r.grace.toNat ≤ 60

/-- The settings that EPOCH_SET's fields give. -/
def settingsOf (r : EpochRecord) : EpochSettings :=
  { length := r.length.toNat, shift := r.shift.toNat, minWindows := r.minWindows.toNat
    checkpoint := r.checkpoint.toNat, source := if r.source = 0 then .localClock else .marked
    grace := r.grace.toNat }

theorem checkEpoch_of_acceptable {r : EpochRecord} (h : SettingsAcceptable r) : checkEpoch r = some (settingsOf r) := by
  obtain ⟨hLow, hHigh, hShift, hSource, hGraceLow, hGraceHigh⟩ := h
  unfold checkEpoch
  rw [sourceOf_eq_some hSource]
  exact if_pos (by simp [hLow, hHigh, hShift, hGraceLow, hGraceHigh])

theorem checkEpoch_of_not_acceptable {r : EpochRecord} (h : ¬ SettingsAcceptable r) : checkEpoch r = none := by
  unfold checkEpoch
  by_cases hSource : r.source.toNat ≤ 1
  · rw [sourceOf_eq_some hSource]
    refine if_neg fun hRanges => h ?_
    simp only [Bool.and_eq_true, inRange_iff] at hRanges
    obtain ⟨⟨⟨hLow, hHigh⟩, -, hShift⟩, hGraceLow, hGraceHigh⟩ := hRanges
    exact ⟨hLow, hHigh, hShift, hSource, hGraceLow, hGraceHigh⟩
  · rw [sourceOf_eq_none hSource]

theorem EpochSettings.bytes_eq (e : EpochSettings) : e.bytes = be 1 e.length ++ be 1 e.shift ++ be 1 e.minWindows
    ++ be 4 e.checkpoint ++ [if e.source = .localClock then 0 else 1] ++ be 1 e.grace := by
  have hSource : be 1 e.source.code = [if e.source = .localClock then 0 else 1] := by cases e.source <;> decide
  rw [EpochSettings.bytes, hSource]

theorem State.epochSetData_of_none (h : s.rqd.pendingSettings = none) :
    s.epochSetData = s.etm.settings.bytes ++ List.replicate 10 0 := by
  simp [State.epochSetData, h, List.replicate]

section

variable {r : EpochRecord}

theorem exec_epochSet_badValue (h : ¬ SettingsAcceptable r) : exec (.epochSet r) s = .next (s.answer .epochSet .badValue []) := by
  show execEpochSet r s = _
  simp only [execEpochSet, checkEpoch_of_not_acceptable h]

theorem exec_epochSet_counting (h : SettingsAcceptable r) (hm : s.rqd.mode = .counting) :
    exec (.epochSet r) s
      = .next (({ s with rqd := { s.rqd with pendingSettings := some (settingsOf r) } } : State).answer .epochSet .deferred
          (s.etm.settings.bytes ++ [1] ++ (settingsOf r).bytes)) := by
  show execEpochSet r s = _
  simp only [execEpochSet, checkEpoch_of_acceptable h, hm]
  rw [List.append_assoc]
  rfl

theorem exec_epochSet_setup (h : SettingsAcceptable r) (hm : s.rqd.mode = .setup) :
    exec (.epochSet r) s = .next ((s.replaceSettings (settingsOf r)).answer .epochSet .ok
      (s.replaceSettings (settingsOf r)).epochSetData) := by
  show execEpochSet r s = _
  simp only [execEpochSet, checkEpoch_of_acceptable h, hm]

end

theorem State.replaceSettings_of_early {e : EpochSettings}
    (h : (s.etm.tick - s.etm.boundaryTick).toNat < e.deadlineTicks) :
    s.replaceSettings e = { s with etm := { s.etm with settings := e } } :=
  if_neg fun hDue => Nat.not_lt.2 ((Etm.deadlineDue_iff _).1 hDue) h

theorem State.replaceSettings_of_due {e : EpochSettings}
    (h : e.deadlineTicks ≤ (s.etm.tick - s.etm.boundaryTick).toNat) :
    s.replaceSettings e = ({ s with etm := { s.etm with settings := e } } : State).takeBoundary
      (min (s.etm.epoch + 1) (2 ^ 32 - 1)) s.etm.tick (decide (e.source = .marked)) :=
  if_pos ((Etm.deadlineDue_iff _).2 h)

/-- With nothing pending in SETUP the RQD stands at a boundary. -/
theorem Rqd.atBoundary_of_settled {q : Rqd} (hm : q.mode = .setup) (hs : q.pendingSettings = none)
    (hp : q.pendingSetup = false) : q.atBoundary = q := by
  obtain ⟨mode, pendingSetup, pendingSettings, handed⟩ := q
  subst hm hs hp
  rfl

/-- The boundary that an EPOCH_SET in SETUP takes at once, with the new settings (R96, R97; log 20). -/
theorem State.replaceSettings_taken {e : EpochSettings} (hMode : s.rqd.mode = .setup)
    (hSettings : s.rqd.pendingSettings = none) (hSetup : s.rqd.pendingSetup = false)
    (hDue : e.deadlineTicks ≤ (s.etm.tick - s.etm.boundaryTick).toNat) :
    KeepsAllBut [.smu, .wau, .etm, .spl, .nq] s (s.replaceSettings e)
    ∧ (s.replaceSettings e).rqd = s.rqd
    ∧ (s.replaceSettings e).etm = { s.etm with
        settings := e, epoch := min (s.etm.epoch + 1) (2 ^ 32 - 1), boundaryTick := s.etm.tick
        untaken := s.shareLeft (min (s.etm.epoch + 1) (2 ^ 32 - 1)) e }
    ∧ BoundaryTaken (min (s.etm.epoch + 1) (2 ^ 32 - 1)) e (decide (e.source = .marked)) s.settle
        (s.replaceSettings e) := by
  rw [s.replaceSettings_of_due hDue]
  let number := min (s.etm.epoch + 1) (2 ^ 32 - 1)
  let replaced : State := { s with etm := { s.etm with settings := e } }
  let t := replaced.takeBoundary number s.etm.tick (decide (e.source = .marked))
  have hKeeps : KeepsAllBut [.smu, .itu, .wau, .etm, .spl, .nq, .rqd] s t :=
    ((s.withEtm_keeps _).mono (by decide)).trans (replaced.takeBoundary_keeps _ _ _)
  have hRqd : t.rqd = s.rqd :=
    (replaced.takeBoundary_rqd _ _ _).trans (Rqd.atBoundary_of_settled hMode hSettings hSetup)
  have hTaken : BoundaryTaken number e (decide (e.source = .marked)) s.settle t :=
    s.takeBoundary_withEtm_taken (e := { s.etm with settings := e }) rfl rfl hSetup _ _ _
  refine ⟨?_, hRqd, ?_, hTaken⟩
  · obtain ⟨-, hItu, -⟩ := hTaken
    exact (hKeeps.without (b := .itu) (cs := [.smu, .wau, .etm, .spl, .nq, .rqd]) (hItu.trans s.settle_itu)
      (by decide)).without (b := .rqd) hRqd (by decide)
  · rw [State.takeBoundary_etm, hSettings]
    rfl

end

/-! ### O33, O34 and O35 -/

/-- Settles O33: TICK by its definition, the two deadlines by `deadline_runs`. -/
theorem boundariesFallDue : Obligations.BoundariesFallDue := by
  unfold Obligations.BoundariesFallDue
  refine fun s => ⟨s.settle, s.settle_shareTaken, rfl, ?_, ?_⟩
  · exact deadline_runs s rfl EpochSettings.deadlineTicks_of_local
  · exact deadline_runs s rfl EpochSettings.deadlineTicks_of_marked

/-- Settles O34: a mark ignored touches its counter alone; one taken is counted, and then causes the boundary. -/
theorem marksCauseBoundaries : Obligations.MarksCauseBoundaries := by
  unfold Obligations.MarksCauseBoundaries
  intro via number s
  refine ⟨fun hIgnored => ?_, fun hSource hDue => ?_⟩
  · refine ⟨_, exec_epochMark_ignored s via ((Etm.ignoresMark_iff _).2 hIgnored),
      answersVia_of_keepsAs (k := .epochMark) via ((s.withEtm_keeps _).mono (by decide)) rfl rfl rfl, State.etm_answerVia _ _ _ _ _⟩
  · have hTaken : ¬ s.etm.ignoresMark = true := fun h => ((Etm.ignoresMark_iff _).1 h).elim
      (fun hLocal => by simp [hSource] at hLocal) fun hEarly => Nat.not_lt.2 hDue hEarly
    let counted : State := { s with etm := s.etm.markCounted number.toNat }
    have hKeeps := counted.takeBoundary_keeps (s.etm.markedEpoch number.toNat) s.etm.tick false
    refine ⟨s.settle, _, s.settle_shareTaken, exec_epochMark_taken s via hTaken,
      answersVia_of_keepsAs (k := .epochMark) via ?_ (hKeeps.1 .lnk (by decide)) (State.takeBoundary_rqd _ _ _ _) rfl, ?_, ?_⟩
    · exact ((s.withEtm_keeps _).mono (by decide)).trans (hKeeps.mono (by decide))
    · rw [State.etm_answerVia, State.takeBoundary_etm]
      rfl
    · intro hp
      exact (s.takeBoundary_withEtm_taken (e := s.etm.markCounted number.toNat) rfl rfl hp _ _ _).answerVia via _ _ _

/-- Settles O35: the checks, then by the mode, and in SETUP by whether the new deadline has passed. -/
theorem epochSetRule : Obligations.EpochSetRule := by
  unfold Obligations.EpochSetRule
  intro r s
  refine ⟨fun hBad => ⟨_, exec_epochSet_badValue s hBad, refuses_answer s .epochSet .badValue []⟩,
    fun hGood hMode => ?_, fun hGood hMode hSettings hEarly => ?_, fun hGood hMode hSettings hSetup hDue => ?_⟩
  · refine ⟨_, exec_epochSet_counting s hGood hMode, ?_⟩
    rw [EpochSettings.bytes_eq, EpochSettings.bytes_eq]
    exact answersAs_of_keeps (k := .epochSet) ((s.withRqd_keeps _).mono (by decide)) rfl rfl rfl
  · have hReplaced := s.replaceSettings_of_early (e := (settingsOf r)) (hEarly.trans_eq (EpochSettings.deadlineTicks_eq _).symm)
    refine ⟨_, exec_epochSet_setup s hGood hMode, ?_, ?_⟩
    · rw [State.epochSetData_of_none _ (by rw [hReplaced]; exact hSettings), hReplaced, EpochSettings.bytes_eq]
      exact answersAs_of_keeps (k := .epochSet) ((s.withEtm_keeps _).mono (by decide)) rfl rfl rfl
    · exact congrArg State.etm hReplaced
  · obtain ⟨hKeeps, hRqd, hEtm, hTaken⟩ := s.replaceSettings_taken hMode hSettings hSetup
      (e := settingsOf r) ((EpochSettings.deadlineTicks_eq _).trans_le hDue)
    refine ⟨s.settle, _, s.settle_shareTaken, exec_epochSet_setup s hGood hMode, ?_, hEtm, hTaken⟩
    rw [State.epochSetData_of_none _ (by rw [hRqd]; exact hSettings), hEtm, EpochSettings.bytes_eq]
    exact answersAs_of_keeps (k := .epochSet) (hKeeps.mono (by decide)) (hKeeps.1 .lnk (by decide)) hRqd rfl

end Sys2Proof.Machine
end

section
/-! SUPPORT. The epoch number through every command (R90), and the commands that reset (R174): O38. -/

namespace Sys2Proof

/-- The commands that may change the epoch number: those that take a boundary, and those that may reset. -/
def Instr.movesEpoch : Instr → Bool
  | .coldReset _ | .localBoundary | .graceDeadline | .epochSet _ | .epochMark _ _ | .characterReceived _ _ _ | .replyEnd
  | .restartAll _ => true
  | _ => false

end Sys2Proof

namespace Sys2Proof.Machine

section

variable (s : State)

/-! ### Resets (R174, R175) -/

/-- A reset leaves every piece of state at its reset value. -/
theorem State.resetWith_resetValues (straps : BitVec 5) (address divisor : Byte) :
    ResetValues straps address divisor (s.resetWith straps address divisor) where
  lines l := by simp [State.resetWith, State.line, State.reset, Line.reset]
  firstSample := rfl
  segments g := by simp [State.resetWith, State.defn, State.run, State.segment, State.reset, SegRun.reset]
  free := rfl
  tracks g := by simp [State.resetWith, State.track, State.reset, Tracking.reset]
  members n := by simp [State.resetWith, State.member, State.reset]
  pass := rfl
  epoch := rfl
  orders k := by simp [State.resetWith, State.slot, State.reset]
  windows := ⟨rfl, rfl⟩
  generator := rfl
  planner := ⟨rfl, rfl, rfl, rfl, rfl, rfl, rfl, rfl, rfl, rfl, rfl⟩
  notices := rfl
  link := ⟨rfl, rfl, rfl, rfl, rfl, rfl, rfl, rfl, rfl, rfl, rfl⟩
  requests := rfl

theorem State.restartAll_resetValues :
    ResetValues s.lnk.straps s.lnk.address s.lnk.divisor s.restartAll := s.resetWith_resetValues _ _ _

/-- Only a character heard with mark 0 and a stop bit can complete a frame, and so take a broadcast RESTART ALL. -/
theorem State.receive_restarts (start : StartBit) (c : Character) (stop : Bool) :
    (start = .heard ∧ c.mark = false ∧ stop = true ∧ s.receive start (lineBits c.data c.mark stop) = s.restartAll)
      ∨ KeepsAllBut [.lnk, .rqd] s (s.receive start (lineBits c.data c.mark stop)) := by
  have hLnk (k : Lnk) : KeepsAllBut [.lnk, .rqd] s (s.setLnk k) := by simp [keepsAllBut_iff]
  cases start with
  | blanked => exact .inr (KeepsAllBut.refl _ s)
  | heard =>
    rw [s.receive_heard]
    cases hMark : c.mark <;> cases hStop : stop
    case false.true => exact (s.takeCharacter_cases c.data false true).imp_left fun h => ⟨rfl, rfl, rfl, h⟩
    all_goals
      refine .inr ?_
      unfold State.takeCharacter
      split
      · exact KeepsAllBut.refl _ s
      all_goals exact hLnk _

/-! ### The epoch number (R90) -/

/-- From `s` to `t` the epoch number did not fall, and stayed an epoch number. -/
def EpochRises (s t : State) : Prop := s.etm.epoch ≤ t.etm.epoch ∧ t.etm.epoch ≤ 2 ^ 32 - 1

/-- The command was a reset, and every piece of state has its reset value. -/
def TookReset (i : Instr) (s t : State) : Prop :=
  ((∃ straps, i = .coldReset straps) ∨ i = .restartAll .broadcast ∨ (i = .replyEnd ∧ s.lnk.restartAtEnd = true)
    ∨ ∃ data, i = .characterReceived .heard ⟨data, false⟩ true ∧ exec i s = exec (.restartAll .broadcast) s)
  ∧ ∃ straps address divisor, ResetValues straps address divisor t

variable {s}

theorem EpochRises.of_eq (h : s.etm.epoch ≤ 2 ^ 32 - 1) {t : State} (ht : t.etm.epoch = s.etm.epoch) : EpochRises s t :=
  ⟨ht.ge, ht.trans_le h⟩

theorem EpochRises.of_keeps (h : s.etm.epoch ≤ 2 ^ 32 - 1) {bs : List Block} {t : State} (hk : KeepsAllBut bs s t)
    (hb : Block.etm ∉ bs) : EpochRises s t := .of_eq h (congrArg Etm.epoch (hk.1 .etm hb))

theorem EpochRises.refl (h : s.etm.epoch ≤ 2 ^ 32 - 1) : EpochRises s s := .of_eq h rfl

theorem EpochRises.answerVia {t : State} (h : EpochRises s t) (via : Delivery) (k : ReqKind) (st : Status) (d : List Byte) :
    EpochRises s (t.answerVia via k st d) := by cases via <;> exact h

theorem Etm.nextEpoch_rises {e : Etm} (h : e.epoch ≤ 2 ^ 32 - 1) : e.epoch ≤ e.nextEpoch ∧ e.nextEpoch ≤ 2 ^ 32 - 1 :=
  ⟨le_min (Nat.le_succ _) h, satAdd_le _ _ _⟩

/-- A boundary to a number not below the running one. -/
theorem State.takeBoundary_rises (u : State) {number : Nat} (h : s.etm.epoch ≤ number ∧ number ≤ 2 ^ 32 - 1) (tick : Tick)
    (missed : Bool) : EpochRises s (u.takeBoundary number tick missed) := by
  rw [EpochRises, State.takeBoundary_etm]
  exact h

theorem State.replaceSettings_rises (h : s.etm.epoch ≤ 2 ^ 32 - 1) (e : EpochSettings) :
    EpochRises s (s.replaceSettings e) := by
  unfold State.replaceSettings
  dsimp only
  split
  · exact State.takeBoundary_rises _ (Etm.nextEpoch_rises (e := { s.etm with settings := e }) h) _ _
  · exact .refl h

theorem State.takeMark_rises (h : s.etm.epoch ≤ 2 ^ 32 - 1) (number : BitVec 32) :
    EpochRises s (s.takeMark number.toNat).1 := by
  by_cases hIgnored : s.etm.ignoresMark = true
  · rw [s.takeMark_of_ignored hIgnored]
    exact .refl h
  · rw [s.takeMark_of_taken hIgnored]
    refine State.takeBoundary_rises _ ?_ _ _
    unfold Etm.markedEpoch
    split
    · next hAbove => exact ⟨hAbove.le, Nat.le_sub_one_of_lt number.isLt⟩
    · exact Etm.nextEpoch_rises h

/-! ### Every command -/

variable (s)

/-- Every other command is made of operations that leave the epoch number alone, in each of its branches. -/
theorem exec_epoch {i : Instr} (h : i.movesEpoch = false) : Leads (fun t => t.etm.epoch = s.etm.epoch) (exec i s) := by
  cases i
  case coldReset | localBoundary | graceDeadline | epochSet | epochMark | characterReceived | replyEnd | restartAll =>
    cases h
  case counters => exact (leads_next _ _).2 rfl
  case restartTracking via =>
    have hKeeps := (restartTracking_keeps s).1 .etm (by decide)
    exact (leads_next _ _).2 (congrArg Etm.epoch ((State.etm_answerVia _ via _ _ _).trans hKeeps))
  all_goals
    simp only [exec, execAcceptedTransition, execSample, execSegmentTimerExpiry, execSegmentSet, execSegmentUndefine,
      execSegmentRead, execSegmentRearm, execItemAnnounce, execRatePassVisit, execProjectionsRefreshed,
      execPlanMemberWalk, execPlacementReset, execPlanSort,
      execOrderPlacement, execGanging, execPlanDone, execGapLimitExpiry, execReplyStart, execBlankingEnd, execUnknownKind,
      execIdent, execStatus, execModeSetup, execModeCounting, execRestartPlan, execLinkSet, execLineSet,
      execLineStatus, execMemberDefine, execMemberRead, execMemberHold, execMemberAdjust, execMemberRelease,
      execMemberRetire, execServiceDoneReplaced, execServiceDoneInspected, execPlanSet, execPlanRun, execWindowAdd,
      execWindowRemove, execWindowReadList, execWindowReadPattern, execPatternLoad, execPatternControl, execOrderRead,
      execOrderList, execOrderRaise, execOrderStart, execOrderCancel, execNoticeTake, execNoticeMask, execTick]
    (repeat' split) <;> simp [State.etm_answerVia, State.service]

variable {s}

/-- A command that may take a boundary or reset does one of the two. -/
theorem exec_movesEpoch (h : s.etm.epoch ≤ 2 ^ 32 - 1) {i : Instr} (hi : i.movesEpoch = true) :
    Leads (fun t => EpochRises s t ∨ TookReset i s t) (exec i s) := by
  cases i
  case coldReset straps =>
    exact (leads_next _ _).2 (.inr ⟨.inl ⟨straps, rfl⟩, _, _, _, s.resetWith_resetValues _ _ _⟩)
  case localBoundary | graceDeadline =>
    refine (leads_next _ _).2 (.inl ?_)
    split
    · exact State.takeBoundary_rises s (Etm.nextEpoch_rises h) _ _
    · exact .refl h
  case epochSet r =>
    show Leads _ (execEpochSet r s)
    unfold execEpochSet
    split
    · exact (leads_next _ _).2 (.inl (.refl h))
    split
    · exact (leads_next _ _).2 (.inl (State.replaceSettings_rises h _))
    · exact (leads_next _ _).2 (.inl (.refl h))
  case epochMark via number => exact (leads_next _ _).2 (.inl ((State.takeMark_rises h number).answerVia via _ _ _))
  case characterReceived start c stop =>
    refine (leads_next _ _).2 ?_
    obtain ⟨rfl, hMark, rfl, hRestart⟩ | hKeeps := s.receive_restarts start c stop
    · obtain ⟨data, mark⟩ := c
      obtain rfl : mark = false := hMark
      exact .inr ⟨.inr (.inr (.inr ⟨data, rfl, congrArg Host.Outcome.next hRestart⟩)), _, _, _,
        hRestart ▸ s.restartAll_resetValues⟩
    · exact .inl (.of_keeps h hKeeps (by decide))
  case replyEnd =>
    refine (leads_next _ _).2 ?_
    split
    · dsimp only
      split
      · next hAtEnd => exact .inr ⟨.inr (.inr (.inl ⟨rfl, hAtEnd⟩)), _, _, _, State.restartAll_resetValues _⟩
      · exact .inl (.refl h)
    · exact .inl (.refl h)
    · exact .inl (.refl h)
  case restartAll via =>
    cases via with
    | addressed => exact (leads_next _ _).2 (.inl (.refl h))
    | broadcast => exact (leads_next _ _).2 (.inr ⟨.inr (.inl rfl), _, _, _, s.restartAll_resetValues⟩)
  all_goals cases hi

end

/-- Settles O38: a command leaves the epoch number alone (`exec_epoch`), takes a boundary to a number not below it, or
resets. -/
theorem epochNeverFalls : Obligations.EpochNeverFalls := by
  unfold Obligations.EpochNeverFalls
  intro i s t h hStep
  cases hi : i.movesEpoch with
  | false => exact .inl (EpochRises.of_eq h (exec_epoch s hi t hStep))
  | true => exact exec_movesEpoch h hi t hStep

end Sys2Proof.Machine
end

section
/-! SUPPORT. Which member records are FREE (R63): the accruals, boundaries and visits rewrite records, and neither define nor
free one. -/

namespace Sys2Proof.Machine

section

variable (s : State) (n : MemberNo)

/-! ### Accruals and closes -/

@[simp] theorem State.isSome_accrueMember (rep : CloseReport) (load : Nat) (j : MemberNo) :
    ((State.accrueMember rep load s j).member n).isSome = (s.member n).isSome := by
  by_cases h : n = j
  · subst h
    rw [s.member_accrueMember_self, Option.isSome_map]
  · rw [s.member_accrueMember_ne rep load h]

@[simp] theorem State.isSome_handOn (g : SegNo) (d : SegDef) (kind : CloseKind) (mm : Nat) :
    ((s.handOn g d kind mm).member n).isSome = (s.member n).isSome := by
  unfold State.handOn
  rw [State.member_accrueAll]
  simp

@[simp] theorem State.isSome_reckon (g : SegNo) (d : SegDef) (ms : Nat) :
    ((s.reckon g d ms).member n).isSome = (s.member n).isSome := by simp [State.reckon]

@[simp] theorem State.isSome_reckonPart (g : SegNo) (d : SegDef) (tick : Tick) :
    ((s.reckonPart g d tick).member n).isSome = (s.member n).isSome := by
  obtain ⟨-, e⟩ | ⟨-, e⟩ := s.reckonPart_cases g d tick <;> simp [e]

@[simp] theorem State.isSome_partialClose (g : SegNo) (d : SegDef) (w : MeasWindow) :
    ((s.partialClose g d w).member n).isSome = (s.member n).isSome := by simp [State.partialClose]

@[simp] theorem State.isSome_closeOnBehalf (g : SegNo) (d : SegDef) (tick : Tick) (reckons : Bool) :
    ((s.closeOnBehalf g d tick reckons).member n).isSome = (s.member n).isSome := by
  unfold State.closeOnBehalf
  (repeat' split) <;> simp

@[simp] theorem State.isSome_countPulse (g : SegNo) (d : SegDef) (w : MeasWindow) :
    ((s.countPulse g d w).member n).isSome = (s.member n).isSome := by
  unfold State.countPulse
  dsimp only
  split <;> simp

/-! ### Events and expiries -/

@[simp] theorem State.isSome_drivePulse (g : SegNo) (d : SegDef) :
    ((s.drivePulse g d).member n).isSome = (s.member n).isSome := by
  unfold State.drivePulse
  dsimp only
  split <;> (repeat' split) <;> simp

@[simp] theorem State.isSome_pulseAt (l : LineNo) (g : SegNo) :
    ((State.pulseAt l s g).member n).isSome = (s.member n).isSome := by
  unfold State.pulseAt
  (repeat' split) <;> simp [*]

@[simp] theorem State.isSome_runAt (l : LineNo) (on : Bool) (g : SegNo) :
    ((State.runAt l on s g).member n).isSome = (s.member n).isSome := by
  unfold State.runAt State.runOff
  (repeat' split) <;> simp

end

/-- What every step of a fold leaves FREE or not, the whole fold leaves so. -/
theorem isSome_foldl {α : Type} {f : State → α → State} (n : MemberNo)
    (h : ∀ u a, ((f u a).member n).isSome = (u.member n).isSome) (l : List α) (s : State) :
    ((l.foldl f s).member n).isSome = (s.member n).isSome :=
  foldl_rel (R := fun u v => (v.member n).isSome = (u.member n).isSome) (fun _ => rfl) (fun h h' => h'.trans h)
    (fun a _ u => h u a) s

section

variable (s : State) (n : MemberNo)

@[simp] theorem State.isSome_lineEvent (l : LineNo) (level : Level) :
    ((s.lineEvent l level).member n).isSome = (s.member n).isSome := by
  unfold State.lineEvent State.pulseEvent State.runEvent
  split <;> simp [isSome_foldl]

@[simp] theorem State.isSome_acceptTransition (l : LineNo) :
    ((s.acceptTransition l).member n).isSome = (s.member n).isSome := by
  rw [s.acceptTransition_eq, State.isSome_lineEvent]
  rfl

@[simp] theorem State.isSome_sampleLines (raw : BitVec 32) :
    ((s.sampleLines raw).member n).isSome = (s.member n).isSome := by
  unfold State.sampleLines
  dsimp only
  split
  · exact (isSome_foldl n (fun u l => u.isSome_acceptTransition n l) _ _).trans
      (congrArg Option.isSome (State.member_mapLines _ _ n))
  · simp [State.member]

@[simp] theorem State.isSome_emptyExpiry (g : SegNo) (d : SegDef) :
    ((s.emptyExpiry g d).member n).isSome = (s.member n).isSome := by
  unfold State.emptyExpiry State.fullInterval
  dsimp only
  split <;> (repeat' split) <;> simp

@[simp] theorem State.isSome_expire (g : SegNo) (d : SegDef) :
    ((s.expire g d).member n).isSome = (s.member n).isSome := by
  unfold State.expire
  dsimp only
  (repeat' split) <;> simp

@[simp] theorem State.isSome_rearm (g : SegNo) : ((s.rearm g).member n).isSome = (s.member n).isSome := by
  unfold State.rearm
  (repeat' split) <;> simp [*]

/-! ### Boundaries and visits -/

@[simp] theorem State.isSome_setupSegment (tick : Tick) (g : SegNo) :
    ((State.setupSegment tick s g).member n).isSome = (s.member n).isSome := by
  unfold State.setupSegment State.setupClose
  (repeat' split) <;> simp

@[simp] theorem State.isSome_enterSetup (tick : Tick) :
    ((s.enterSetup tick).member n).isSome = (s.member n).isSome :=
  isSome_foldl n (fun u g => u.isSome_setupSegment n tick g) _ s

@[simp] theorem State.isSome_settle : (s.settle.member n).isSome = (s.member n).isSome := by
  unfold State.settle
  split <;> simp

@[simp] theorem State.isSome_closeAccounts (shift minWindows : Nat) :
    ((s.closeAccounts shift minWindows).member n).isSome = (s.member n).isSome := by
  unfold State.closeAccounts State.takeShares
  dsimp only
  (repeat' split) <;> simp

@[simp] theorem State.isSome_boundaryPart (shift minWindows : Nat) (missed : Bool) (p : BoundaryPart) :
    ((State.boundaryPart shift minWindows missed s p).member n).isSome = (s.member n).isSome := by
  unfold State.boundaryPart
  (repeat' split) <;> simp

@[simp] theorem State.isSome_takeBoundary (number : Nat) (tick : Tick) (missed : Bool) :
    ((s.takeBoundary number tick missed).member n).isSome = (s.member n).isSome :=
  (isSome_foldl n (fun u p => u.isSome_boundaryPart n _ _ missed p) _ _).trans (s.isSome_settle n)

end

end Sys2Proof.Machine
end

section
/-! SUPPORT. The windows, the orders and the plan as invariants (R106, R107, R109, R123 to R125): what the window list, the
order pool and the used minutes need to stand, part by part, and what keeps each part. -/

namespace Sys2Proof.Machine

/-! ### The window list (R124, R125) -/

/-- What places a window in the list: its tag and its start. -/
def MaintWindow.place (w : MaintWindow) : Nat × Nat := (w.tag, w.start)

/-- The window list reads the tags and the starts alone. -/
theorem windowInv_iff_places (s : State) : WindowInv s ↔
    let l := s.spl.windows.map MaintWindow.place
    l.length ≤ 8 ∧ l.Pairwise (fun a b => a.2 ≤ b.2) ∧ l.Pairwise (fun a b => a.1 ≠ b.1) ∧ ∀ x ∈ l, 1 ≤ x.1 ∧ x.1 ≤ 255 := by
  simp [WindowInv, List.pairwise_map, MaintWindow.place]

/-- Windows that leave, or keep their tag and start, leave the list in order. -/
theorem WindowInv.of_places {s t : State} (h : WindowInv s)
    (ht : (t.spl.windows.map MaintWindow.place).Sublist (s.spl.windows.map MaintWindow.place)) : WindowInv t := by
  obtain ⟨hLength, hSorted, hTags, hRange⟩ := (windowInv_iff_places s).1 h
  exact (windowInv_iff_places t).2
    ⟨ht.length_le.trans hLength, hSorted.sublist ht, hTags.sublist ht, fun x hx => hRange x (ht.subset hx)⟩

theorem WindowInv.of_windows {s t : State} (h : WindowInv s) (ht : t.spl.windows = s.spl.windows) : WindowInv t :=
  h.of_places (by rw [ht])

/-- A tag names one listed window (R125). -/
theorem WindowInv.eq_of_tag {s : State} (h : WindowInv s) {w x : MaintWindow} (hw : w ∈ s.spl.windows)
    (hx : x ∈ s.spl.windows) (e : w.tag = x.tag) : w = x := by
  have hNodup : (s.spl.windows.map (·.tag)).Nodup := List.pairwise_map.2 h.2.2.1
  exact List.inj_on_of_nodup_map hNodup hw hx e

theorem insertWindow_perm (w : MaintWindow) (ws : List MaintWindow) : (insertWindow w ws).Perm (w :: ws) := by
  induction ws with
  | nil => exact .refl _
  | cons x ws ih =>
    unfold insertWindow
    split
    · exact (ih.cons x).trans (.swap w x ws)
    · exact .refl _

theorem insertWindow_sorted {ws : List MaintWindow} (h : ws.Pairwise fun a b => a.start ≤ b.start) (w : MaintWindow) :
    (insertWindow w ws).Pairwise fun a b => a.start ≤ b.start := by
  induction ws with
  | nil => exact List.pairwise_singleton _ _
  | cons x ws ih =>
    obtain ⟨hx, hws⟩ := List.pairwise_cons.1 h
    unfold insertWindow
    split
    · next hle =>
      refine List.pairwise_cons.2 ⟨fun y hy => ?_, ih hws⟩
      obtain rfl | hy := List.mem_cons.1 ((insertWindow_perm w ws).mem_iff.1 hy)
      · exact hle
      · exact hx y hy
    · next hlt =>
      refine List.pairwise_cons.2 ⟨fun y hy => ?_, h⟩
      obtain rfl | hy := List.mem_cons.1 hy
      · exact (Nat.lt_of_not_le hlt).le
      · exact (Nat.lt_of_not_le hlt).le.trans (hx y hy)

/-- With fewer than 255 windows listed a tag is left, and the next tag is one (R125). -/
theorem nextTag_spec (last : Nat) {ws : List MaintWindow} (h : ws.length < 255) :
    (1 ≤ nextTag last ws ∧ nextTag last ws ≤ 255) ∧ ∀ w ∈ ws, w.tag ≠ nextTag last ws := by
  unfold nextTag
  cases hFind : ((List.range 255).map fun k => (last + k) % 255 + 1).find? fun t => ws.all fun w => w.tag ≠ t with
  | none =>
    rw [List.find?_eq_none] at hFind
    have hUsed : ∀ k ∈ Finset.range 255, (last + k) % 255 + 1 ∈ (ws.map (·.tag)).toFinset := by
      intro k hk
      have := hFind _ (List.mem_map_of_mem (List.mem_range.2 (Finset.mem_range.1 hk)))
      simpa using this
    have hInj : Set.InjOn (fun k => (last + k) % 255 + 1) (Finset.range 255 : Finset Nat) := by
      intro a ha b hb e
      simp only [Finset.coe_range, Set.mem_Iio] at ha hb e
      omega
    have hCard := (Finset.card_le_card_of_injOn _ hUsed hInj).trans (List.toFinset_card_le _)
    rw [Finset.card_range, List.length_map] at hCard
    omega
  | some t =>
    obtain ⟨k, -, rfl⟩ := List.mem_map.1 (List.mem_of_find?_eq_some hFind)
    have hFree := List.find?_some hFind
    simp only [List.all_eq_true, decide_eq_true_eq] at hFree
    exact ⟨⟨by simp, by rw [Option.getD_some]; omega⟩, hFree⟩

/-- A window of tag `tag` entering a list with room, where no listed window has the tag. -/
theorem WindowInv.of_inserted {s t : State} (h : WindowInv s) {w : MaintWindow} (hRoom : s.spl.windows.length < 8)
    (hTag : 1 ≤ w.tag ∧ w.tag ≤ 255) (hNew : ∀ x ∈ s.spl.windows, x.tag ≠ w.tag)
    (ht : t.spl.windows = insertWindow w s.spl.windows) : WindowInv t := by
  obtain ⟨-, hSorted, hTags, hRange⟩ := h
  have hPerm := insertWindow_perm w s.spl.windows
  rw [WindowInv, ht]
  refine ⟨?_, insertWindow_sorted hSorted w, ?_, fun x hx => ?_⟩
  · rw [hPerm.length_eq]
    exact hRoom
  · exact (hPerm.pairwise_iff fun {a b} (e : a.tag ≠ b.tag) => e.symm).2
      (List.pairwise_cons.2 ⟨fun x hx => (hNew x hx).symm, hTags⟩)
  · obtain rfl | hx := List.mem_cons.1 (hPerm.mem_iff.1 hx)
    · exact hTag
    · exact hRange x hx

/-! ### The order pool (R106, R107) -/

/-- Orders that leave, or are rewritten in their slot for the same member, leave the pool in order. -/
theorem OrderInv.of_slots {s t : State} (h : OrderInv s)
    (hSlot : ∀ k p, t.slot k = some p → ∃ o, s.slot k = some o ∧ p.member = o.member ∧ (OrderOk o → OrderOk p))
    (hMember : ∀ n, (s.member n).isSome = true → (t.member n).isSome = true) : OrderInv t := by
  obtain ⟨hOk, hOne⟩ := h
  refine ⟨fun k p hp => ?_, fun k k' p p' hp hp' e => ?_⟩
  · obtain ⟨o, ho, hm, hKeeps⟩ := hSlot k p hp
    exact ⟨hKeeps (hOk k o ho).1, hm ▸ hMember _ (hOk k o ho).2⟩
  · obtain ⟨o, ho, hm, -⟩ := hSlot k p hp
    obtain ⟨o', ho', hm', -⟩ := hSlot k' p' hp'
    exact hOne k k' o o' ho ho' (hm.symm.trans (e.trans hm'))

theorem State.slot_of_orders {s t : State} (h : t.spl.orders = s.spl.orders) (k : SlotNo) : t.slot k = s.slot k := by
  rw [State.slot, h, State.slot]

theorem OrderInv.of_orders {s t : State} (h : OrderInv s) (ht : t.spl.orders = s.spl.orders)
    (hMember : ∀ n, (s.member n).isSome = true → (t.member n).isSome = true) : OrderInv t :=
  h.of_slots (fun k p hp => ⟨p, (State.slot_of_orders ht k).symm.trans hp, rfl, id⟩) hMember

/-- A new order in an empty slot, for a member that is not FREE and has no order. -/
theorem OrderInv.of_created {s : State} (h : OrderInv s) {k : SlotNo} {o : Order} (hNone : NoOrder s o.member)
    (hMember : (s.member o.member).isSome = true) (hOk : OrderOk o) : OrderInv (s.setSlot k (some o)) := by
  have hSlot : ∀ j p, (s.setSlot k (some o)).slot j = some p → (j = k ∧ p = o) ∨ (j ≠ k ∧ s.slot j = some p) := by
    intro j p hp
    by_cases hj : j = k
    · subst hj
      rw [State.slot_setSlot_self, Option.some.injEq] at hp
      exact .inl ⟨rfl, hp.symm⟩
    · exact .inr ⟨hj, (s.slot_setSlot_ne hj _).symm.trans hp⟩
  refine ⟨fun j p hp => ?_, fun j j' p p' hp hp' e => ?_⟩
  · obtain ⟨rfl, rfl⟩ | ⟨-, hp⟩ := hSlot j p hp
    · exact ⟨hOk, hMember⟩
    · exact h.1 j p hp
  · obtain ⟨rfl, rfl⟩ | ⟨-, hs⟩ := hSlot j p hp <;> obtain ⟨rfl, rfl⟩ | ⟨-, hs'⟩ := hSlot j' p' hp'
    · rfl
    · exact absurd e.symm (hNone _ _ hs')
    · exact absurd e (hNone _ _ hs)
    · exact h.2 j j' p p' hs hs' e

theorem OrderOk.tag_of_proposed {o : Order} (h : OrderOk o) (hs : o.state = .proposed) : o.tag = none := by
  have := h.tag
  rw [hs] at this
  simpa using this

/-- An order back in PROPOSED (R107). -/
theorem OrderOk.propose {o : Order} (h : OrderOk o) : OrderOk o.propose :=
  ⟨by simp [Order.propose], fun _ => ⟨rfl, rfl⟩, h.missed⟩

/-! ### The minutes that name a window (R123) -/

/-- The minutes with which what a slot holds names the window of a tag. -/
def minutesFor (tag : Nat) : Option Order → Nat
  | some o => if o.tag = some tag then o.minutes else 0
  | none => 0

theorem minutesFor_some (tag : Nat) (o : Order) : minutesFor tag (some o) = if o.tag = some tag then o.minutes else 0 := rfl

theorem minutesFor_of_untagged {o : Order} (h : o.tag = none) (tag : Nat) : minutesFor tag (some o) = 0 := by
  simp [minutesFor, h]

theorem State.namedMinutes_eq (s : State) (tag : Nat) :
    s.namedMinutes tag = (allSlots.map fun k => minutesFor tag (s.slot k)).sum := rfl

theorem namedMinutes_le_of_slots {s t : State} {tag : Nat}
    (h : ∀ k, minutesFor tag (t.slot k) ≤ minutesFor tag (s.slot k)) : t.namedMinutes tag ≤ s.namedMinutes tag := by
  rw [s.namedMinutes_eq, t.namedMinutes_eq]
  exact List.sum_le_sum fun k _ => h k

/-- What one slot holds moves the sum by its own minutes. -/
theorem namedMinutes_of_rewritten {s t : State} {k : SlotNo} (h : ∀ j, j ≠ k → t.slot j = s.slot j) (tag : Nat) :
    t.namedMinutes tag + minutesFor tag (s.slot k) = s.namedMinutes tag + minutesFor tag (t.slot k) := by
  have hSum : ∀ u : State, u.namedMinutes tag
      = minutesFor tag (u.slot k) + ∑ j ∈ Finset.univ.erase k, minutesFor tag (u.slot j) := fun u => by
    rw [Finset.add_sum_erase _ (fun j => minutesFor tag (u.slot j)) (Finset.mem_univ k), Fin.sum_univ_def, u.namedMinutes_eq]
    rfl
  have hOff : ∑ j ∈ Finset.univ.erase k, minutesFor tag (t.slot j) = ∑ j ∈ Finset.univ.erase k, minutesFor tag (s.slot j) :=
    Finset.sum_congr rfl fun j hj => by rw [h j (Finset.ne_of_mem_erase hj)]
  rw [hSum, hSum, hOff]
  omega

theorem namedMinutes_eq_zero {s : State} {tag : Nat} (h : ∀ k o, s.slot k = some o → o.tag ≠ some tag) :
    s.namedMinutes tag = 0 := by
  rw [s.namedMinutes_eq, List.sum_eq_zero_iff]
  intro x hx
  obtain ⟨k, -, rfl⟩ := List.mem_map.1 hx
  cases hk : s.slot k with
  | none => rfl
  | some o => rw [minutesFor_some, if_neg (h k o hk)]

/-! ### The plan, order by order and window by window (R107, R109, R123, R132, R145) -/

/-- At this stage slot `k` holds no SCHEDULED order: the placement reset has passed it, and placement has not begun (R145). -/
def Stage.bares (st : Stage) (k : SlotNo) : Prop :=
  match st with
  | .sort | .copyMinutes _ => True
  | .takeBack i => k.val < i
  | .idle | .walk _ | .placement _ | .ganging _ | .gangRollers _ _ _ _ => False

theorem Stage.bares_iff (st : Stage) (k : SlotNo) :
    st.bares k ↔ st = .sort ∨ (∃ i, st = .copyMinutes i) ∨ ∃ i, st = .takeBack i ∧ k.val < i := by
  cases st <;> simp [Stage.bares]

/-- An order's figures in their ranges (06 section 6.2). -/
def OrderFigures (o : Order) : Prop :=
  (1 ≤ o.minutes ∧ o.minutes ≤ 600) ∧ o.due ≤ 2 ^ 32 - 1 ∧ o.missed ≤ 15 ∧ o.created ≤ 2 ^ 32 - 1

/-- A window's figures in their ranges (07 section 7.1). -/
def WindowFigures (w : MaintWindow) : Prop :=
  (1 ≤ w.start ∧ w.start ≤ 2 ^ 32 - 1) ∧ (1 ≤ w.length ∧ w.length ≤ 255) ∧ (1 ≤ w.capacity ∧ w.capacity ≤ 65535)
    ∧ w.mask ≠ 0

/-- A template's figures in their ranges (07 section 7.4). -/
def TemplateFigures (x : Template) : Prop :=
  (1 ≤ x.offset ∧ x.offset ≤ 65535) ∧ (1 ≤ x.length ∧ x.length ≤ 255) ∧ (1 ≤ x.capacity ∧ x.capacity ≤ 65535) ∧ x.mask ≠ 0

/-- The order's state is one that a window in state `w` may have named in it (R109). -/
def Order.fits (o : Order) (w : WindowState) : Prop :=
  (o.state = .scheduled → w = .opened) ∧ (o.state = .released → w = .active)

/-- What the plan asks of the order of slot `k`: its tag names a listed window that it fits, but for the tags in `loose`,
whose windows have ended and are still to leave; it is not SCHEDULED where the placement reset has passed; and its figures are
in range. -/
structure OrderStands (loose : List Nat) (ws : List MaintWindow) (st : Stage) (k : SlotNo) (o : Order) : Prop where
  tag : ∀ tag, o.tag = some tag → ∃ w ∈ ws, w.tag = tag ∧ (tag ∉ loose → o.fits w.state)
  bare : st.bares k → o.state ≠ .scheduled
  figures : OrderFigures o

/-- The plan, but for the windows of the tags in `loose`, which have ended and are still to leave (R129, R130). -/
structure PlanBut (loose : List Nat) (s : State) : Prop where
  orders : ∀ k o, s.slot k = some o → OrderStands loose s.spl.windows s.spl.planner.stage k o
  used : ∀ w ∈ s.spl.windows, s.namedMinutes w.tag ≤ w.used ∧ w.used ≤ w.capacity
  windows : ∀ w ∈ s.spl.windows, WindowFigures w
  templates : s.spl.generator.templates.length ≤ 16 ∧ ∀ x ∈ s.spl.generator.templates, TemplateFigures x

theorem planInv_iff (s : State) : PlanInv s ↔ PlanBut [] s := by
  constructor
  · intro h
    refine ⟨fun k o ho => ⟨fun tag ht => ?_, fun hb => h.bare k o ho ((Stage.bares_iff _ k).1 hb), h.orders k o ho⟩,
      h.used, h.windows, h.templates⟩
    obtain ⟨w, hw, hTag, hFits⟩ := h.tags k o tag ho ht
    exact ⟨w, hw, hTag, fun _ => hFits⟩
  · intro h
    refine ⟨fun k o tag ho ht => ?_, h.used, fun k o ho hb => (h.orders k o ho).bare ((Stage.bares_iff _ k).2 hb),
      fun k o ho => (h.orders k o ho).figures, h.windows, h.templates⟩
    obtain ⟨w, hw, hTag, hFits⟩ := (h.orders k o ho).tag tag ht
    exact ⟨w, hw, hTag, hFits List.not_mem_nil⟩

/-- What new orders are made of: an epoch number, and of each member service minutes and a projection in range (R110, R143,
R145). -/
def OrderSources (s : State) : Prop :=
  s.etm.epoch ≤ 2 ^ 32 - 1 ∧ ∀ n m, s.member n = some m →
    (1 ≤ m.minutes ∧ m.minutes ≤ 600) ∧ ∀ x, m.projection = some x → x ≤ 2 ^ 32 - 1

theorem MemberInv.orderSources {s : State} (h : MemberInv s) : OrderSources s := by
  obtain ⟨hOk, hEpoch, hEpochs, -⟩ := h
  exact ⟨hEpoch, fun n m hm => ⟨(hOk n m hm).minutes, (hEpochs n m hm).2⟩⟩

end Sys2Proof.Machine
end

section
/-! SUPPORT. The operations of the SPL (06, 07, 08) and the invariants of the plan: an order created, rewritten or removed,
placed or ganged, the placement reset, and the walk. -/

namespace Sys2Proof.Machine

/-! ### What keeps the plan -/

/-- From `s` to `t` the window list and the order pool stay in order, and, where what new orders are made of is in range, so
does the plan. -/
structure KeepsPlans (s t : State) : Prop where
  windows : WindowInv s → WindowInv t
  orders : OrderInv s → OrderInv t
  plan : OrderSources s → WindowInv s → OrderInv s → PlanInv s → PlanInv t

/-- The same, by the SPL and the NQ alone. -/
structure PlansWithin (s t : State) : Prop extends KeepsPlans s t where
  frame : KeepsAllBut [.spl, .nq] s t

section

variable {s t u : State}

theorem KeepsPlans.refl (s : State) : KeepsPlans s s := ⟨id, id, fun _ _ _ => id⟩

theorem KeepsPlans.trans (h : KeepsPlans s t) (hs : OrderSources s → OrderSources t) (h' : KeepsPlans t u) : KeepsPlans s u :=
  ⟨h'.windows ∘ h.windows, h'.orders ∘ h.orders,
    fun hSources hw ho hp => h'.plan (hs hSources) (h.windows hw) (h.orders ho) (h.plan hSources hw ho hp)⟩

theorem member_of_wau (h : t.wau = s.wau) (n : MemberNo) : t.member n = s.member n := by rw [State.member, h, State.member]

theorem OrderSources.of_keeps {bs : List Block} (h : OrderSources s) (hk : KeepsAllBut bs s t) (hw : Block.wau ∉ bs)
    (he : Block.etm ∉ bs) : OrderSources t := by
  have hEtm : t.etm = s.etm := hk.1 .etm he
  refine ⟨hEtm ▸ h.1, fun n m hm => h.2 n m ?_⟩
  rwa [member_of_wau (hk.1 .wau hw)] at hm

theorem PlansWithin.sources (h : PlansWithin s t) (hs : OrderSources s) : OrderSources t :=
  hs.of_keeps h.frame (by decide) (by decide)

theorem member_of_frame (h : KeepsAllBut [.spl, .nq] s t) (n : MemberNo) : t.member n = s.member n :=
  member_of_wau (h.1 .wau (by decide)) n

theorem PlansWithin.refl (s : State) : PlansWithin s s := ⟨.refl s, .refl _ s⟩

theorem PlansWithin.trans (h : PlansWithin s t) (h' : PlansWithin t u) : PlansWithin s u :=
  ⟨h.toKeepsPlans.trans h.sources h'.toKeepsPlans, h.frame.trans h'.frame⟩

/-- The plan reads the orders, the windows, the templates and the stage alone. -/
theorem PlanBut.of_quiet {loose : List Nat} (h : PlanBut loose s) (ho : t.spl.orders = s.spl.orders)
    (hw : t.spl.windows = s.spl.windows) (hg : t.spl.generator.templates = s.spl.generator.templates)
    (hst : ∀ k, t.spl.planner.stage.bares k → s.spl.planner.stage.bares k) : PlanBut loose t := by
  have hSlot := State.slot_of_orders ho
  refine ⟨fun k o hk => ?_, fun w hm => ?_, by rw [hw]; exact h.windows, by rw [hg]; exact h.templates⟩
  · obtain ⟨hTag, hBare, hFigures⟩ := h.orders k o (hSlot k ▸ hk)
    exact ⟨hw ▸ hTag, fun hb => hBare (hst k hb), hFigures⟩
  · have hNamed : t.namedMinutes w.tag ≤ s.namedMinutes w.tag := namedMinutes_le_of_slots fun k => by rw [hSlot k]
    obtain ⟨hUsed, hCapacity⟩ := h.used w (hw ▸ hm)
    exact ⟨hNamed.trans hUsed, hCapacity⟩

theorem PlanInv.of_quiet (h : PlanInv s) (ho : t.spl.orders = s.spl.orders) (hw : t.spl.windows = s.spl.windows)
    (hg : t.spl.generator.templates = s.spl.generator.templates)
    (hst : ∀ k, t.spl.planner.stage.bares k → s.spl.planner.stage.bares k) : PlanInv t :=
  (planInv_iff t).2 (((planInv_iff s).1 h).of_quiet ho hw hg hst)

theorem KeepsPlans.of_quiet (ho : t.spl.orders = s.spl.orders) (hw : t.spl.windows = s.spl.windows)
    (hg : t.spl.generator.templates = s.spl.generator.templates)
    (hst : ∀ k, t.spl.planner.stage.bares k → s.spl.planner.stage.bares k)
    (hMember : ∀ n, (s.member n).isSome = true → (t.member n).isSome = true) : KeepsPlans s t :=
  ⟨fun h => h.of_windows hw, fun h => h.of_orders ho hMember, fun _ _ _ h => h.of_quiet ho hw hg hst⟩

theorem KeepsPlans.of_spl (h : t.spl = s.spl) (hMember : ∀ n, (s.member n).isSome = true → (t.member n).isSome = true) :
    KeepsPlans s t := .of_quiet (by rw [h]) (by rw [h]) (by rw [h]) (fun k hk => by rwa [h] at hk) hMember

theorem PlansWithin.of_quiet (hf : KeepsAllBut [.spl, .nq] s t) (ho : t.spl.orders = s.spl.orders)
    (hw : t.spl.windows = s.spl.windows) (hg : t.spl.generator.templates = s.spl.generator.templates)
    (hst : ∀ k, t.spl.planner.stage.bares k → s.spl.planner.stage.bares k) : PlansWithin s t :=
  ⟨.of_quiet ho hw hg hst fun n hn => by rwa [member_of_frame hf], hf⟩

theorem PlansWithin.of_nq (hf : KeepsAllBut [.nq] s t) : PlansWithin s t := by
  have hSpl : t.spl = s.spl := hf.1 .spl (by decide)
  exact ⟨.of_spl hSpl fun n hn => by rwa [member_of_wau (hf.1 .wau (by decide))], hf.mono (by decide)⟩

theorem PlansWithin.post (h : PlansWithin s t) (k : NoticeKind) (x v : Nat) : PlansWithin s (t.post k x v) :=
  h.trans (.of_nq (by simp [keepsAllBut_iff]))

/-- What follows may rewrite records that are not FREE, and of the SPL what the plan does not read. -/
theorem KeepsPlans.then_quiet (h : KeepsPlans s t) (ho : u.spl.orders = t.spl.orders) (hw : u.spl.windows = t.spl.windows)
    (hg : u.spl.generator.templates = t.spl.generator.templates) (hst : u.spl.planner.stage = t.spl.planner.stage)
    (hMember : ∀ n, (t.member n).isSome = true → (u.member n).isSome = true) : KeepsPlans s u :=
  ⟨fun hs => (h.windows hs).of_windows hw, fun hs => (h.orders hs).of_orders ho hMember,
    fun hSources hs hos hp => (h.plan hSources hs hos hp).of_quiet ho hw hg fun _ hk => hst ▸ hk⟩

/-- What follows outside the SPL leaves the plan as it is. -/
theorem KeepsPlans.then_spl (h : KeepsPlans s t) (hu : u.spl = t.spl)
    (hMember : ∀ n, (t.member n).isSome = true → (u.member n).isSome = true) : KeepsPlans s u :=
  h.then_quiet (by rw [hu]) (by rw [hu]) (by rw [hu]) (by rw [hu]) hMember

theorem KeepsPlans.answer (h : KeepsPlans s t) (k : ReqKind) (st : Status) (d : List Byte) :
    KeepsPlans s (t.answer k st d) := h.then_spl rfl fun _ => id

theorem PlansWithin.of_planner {p : Planner} (h : ∀ k, p.stage.bares k → s.spl.planner.stage.bares k) :
    PlansWithin s (s.setPlanner p) := .of_quiet (by simp [keepsAllBut_iff]) rfl rfl rfl h

theorem PlansWithin.of_generator {x : Generator} (h : x.templates = s.spl.generator.templates) :
    PlansWithin s (s.setGenerator x) := .of_quiet (by simp [keepsAllBut_iff]) rfl rfl h fun _ => id

/-- The run comes to a stage at which no slot that it bares holds a SCHEDULED order. -/
theorem PlansWithin.of_stage {st : Stage}
    (h : PlanInv s → ∀ k o, s.slot k = some o → st.bares k → o.state ≠ .scheduled) : PlansWithin s (s.setStage st) := by
  refine ⟨⟨id, fun h => ⟨h.1, h.2⟩, fun _ _ _ hPlan => ?_⟩, by simp [keepsAllBut_iff]⟩
  have hBut := (planInv_iff s).1 hPlan
  refine (planInv_iff _).2 ⟨fun k o hk => ?_, hBut.used, hBut.windows, hBut.templates⟩
  obtain ⟨hTag, -, hFigures⟩ := hBut.orders k o hk
  exact ⟨hTag, h hPlan k o hk, hFigures⟩

end

/-! ### One slot rewritten -/

/-- The windows with their used minutes as `f` gives them. -/
def withUsed (f : MaintWindow → Nat) (ws : List MaintWindow) : List MaintWindow := ws.map fun w => { w with used := f w }

theorem withUsed_self (ws : List MaintWindow) : withUsed (·.used) ws = ws := List.map_id' ws

theorem withUsed_places (f : MaintWindow → Nat) (ws : List MaintWindow) :
    (withUsed f ws).map MaintWindow.place = ws.map MaintWindow.place := by
  simp [withUsed, MaintWindow.place]

theorem mem_withUsed {f : MaintWindow → Nat} {ws : List MaintWindow} {w : MaintWindow} :
    w ∈ withUsed f ws ↔ ∃ x ∈ ws, w = { x with used := f x } := by
  simp [withUsed, eq_comm]

theorem WindowFigures.withUsed {w : MaintWindow} (h : WindowFigures w) (n : Nat) : WindowFigures { w with used := n } := h

/-- An order that stands among windows stands among them whatever their used minutes. -/
theorem OrderStands.withUsed {loose : List Nat} {ws : List MaintWindow} {st : Stage} {k : SlotNo} {o : Order}
    (h : OrderStands loose ws st k o) (f : MaintWindow → Nat) : OrderStands loose (withUsed f ws) st k o := by
  refine ⟨fun tag ht => ?_, h.bare, h.figures⟩
  obtain ⟨w, hw, hTag, hFits⟩ := h.tag tag ht
  exact ⟨_, mem_withUsed.2 ⟨w, hw, rfl⟩, hTag, hFits⟩

/-- Slot `k` comes to hold `x`, and the windows' used minutes become those of `f`; the order in `x`, if any, is in order and
stands, and no window's minutes grow by less than the order in the slot comes to name it by, nor beyond its capacity. -/
theorem PlansWithin.of_rewritten {s t : State} {k : SlotNo} {x : Option Order} {f : MaintWindow → Nat}
    (hf : KeepsAllBut [.spl, .nq] s t) (hk : t.slot k = x) (hOthers : KeepsOtherSlots k s t)
    (hw : t.spl.windows = withUsed f s.spl.windows) (hg : t.spl.generator.templates = s.spl.generator.templates)
    (hst : ∀ j, t.spl.planner.stage.bares j → s.spl.planner.stage.bares j)
    (hPool : OrderInv s → OrderInv t)
    (hStands : OrderSources s → WindowInv s → OrderInv s → PlanBut [] s →
      ∀ p, x = some p → OrderStands [] s.spl.windows t.spl.planner.stage k p)
    (hUsed : WindowInv s → OrderInv s → PlanBut [] s → ∀ w ∈ s.spl.windows,
      w.used + minutesFor w.tag x ≤ f w + minutesFor w.tag (s.slot k) ∧ f w ≤ w.capacity) : PlansWithin s t := by
  refine ⟨⟨fun h => h.of_places (by rw [hw, withUsed_places]), hPool, fun hSources hWindows hOrders h => ?_⟩, hf⟩
  have hPlan := (planInv_iff s).1 h
  refine (planInv_iff t).2 ⟨fun j p hp => ?_, fun w hm => ?_, fun w hm => ?_, by rw [hg]; exact hPlan.templates⟩
  · rw [hw]
    refine OrderStands.withUsed ?_ f
    by_cases hj : j = k
    · subst hj
      exact hStands hSources hWindows hOrders hPlan p (hk.symm.trans hp)
    · obtain ⟨hTag, hBare, hFigures⟩ := hPlan.orders j p ((hOthers j hj).symm.trans hp)
      exact ⟨hTag, fun hb => hBare (hst j hb), hFigures⟩
  · obtain ⟨v, hv, rfl⟩ := mem_withUsed.1 (hw ▸ hm)
    obtain ⟨hGrows, hCapacity⟩ := hUsed hWindows hOrders hPlan v hv
    have hSum := namedMinutes_of_rewritten hOthers v.tag
    have hNamed := (hPlan.used v hv).1
    rw [hk] at hSum
    exact ⟨by dsimp only; omega, hCapacity⟩
  · obtain ⟨v, hv, rfl⟩ := mem_withUsed.1 (hw ▸ hm)
    exact (hPlan.windows v hv).withUsed _

/-- The pool with one order rewritten in its slot, or removed. -/
theorem OrderInv.of_rewritten {s t : State} {k : SlotNo} {o : Order} {x : Option Order} (h : OrderInv s)
    (hf : KeepsAllBut [.spl, .nq] s t) (ho : s.slot k = some o) (hk : t.slot k = x) (hOthers : KeepsOtherSlots k s t)
    (hx : ∀ p, x = some p → p.member = o.member ∧ (OrderOk o → OrderOk p)) : OrderInv t := by
  refine h.of_slots (fun j p hp => ?_) fun n hn => by rwa [member_of_frame hf]
  by_cases hj : j = k
  · subst hj
    exact ⟨o, ho, hx p (hk.symm.trans hp)⟩
  · exact ⟨p, (hOthers j hj).symm.trans hp, rfl, id⟩

/-- An order rewritten in its slot that names the same window by the same minutes in the same state, or none; the windows
stand. -/
theorem State.setSlot_plansWithin {s : State} {k : SlotNo} {o p : Order} (ho : s.slot k = some o)
    (hMember : p.member = o.member) (hOk : OrderOk o → OrderOk p)
    (hTag : OrderOk o → p.tag = none ∨ p.tag = o.tag ∧ p.minutes = o.minutes ∧ p.state = o.state)
    (hBare : p.state = .scheduled → o.state = .scheduled)
    (hFigures : OrderSources s → (s.member o.member).isSome = true → OrderFigures o → OrderFigures p) :
    PlansWithin s (s.setSlot k (some p)) := by
  have hf : KeepsAllBut [.spl, .nq] s (s.setSlot k (some p)) := by simp [keepsAllBut_iff]
  have hOthers : KeepsOtherSlots k s (s.setSlot k (some p)) := fun j hj => s.slot_setSlot_ne hj _
  refine .of_rewritten (x := some p) (f := (·.used)) hf (s.slot_setSlot_self k _) hOthers (withUsed_self _).symm rfl
    (fun _ => id)
    (fun h => h.of_rewritten hf ho (s.slot_setSlot_self k _) hOthers fun q hq => by cases hq; exact ⟨hMember, hOk⟩) ?_ ?_
  · intro hSources _ hOrders hPlan q hq
    cases hq
    obtain ⟨hTags, hBares, hFigs⟩ := hPlan.orders k o ho
    obtain ⟨hOrderOk, hSome⟩ := hOrders.1 k o ho
    refine ⟨fun tag ht => ?_, fun hb hs => hBares hb (hBare hs), hFigures hSources hSome hFigs⟩
    obtain hNone | ⟨hSame, -, hState⟩ := hTag hOrderOk
    · rw [hNone] at ht
      cases ht
    · obtain ⟨w, hw, hwTag, hFits⟩ := hTags tag (hSame ▸ ht)
      exact ⟨w, hw, hwTag, fun hl => by rw [Order.fits, hState]; exact hFits hl⟩
  · intro _ hOrders hPlan w hw
    refine ⟨?_, (hPlan.used w hw).2⟩
    rw [ho, minutesFor_some, minutesFor_some]
    obtain hNone | ⟨hSame, hMinutes, -⟩ := hTag (hOrders.1 k o ho).1
    · simp [hNone]
    · rw [hSame, hMinutes]

/-! ### Orders created, removed and started (R110 to R112, R144) -/

theorem newOrder_ok (n : MemberNo) (r : Reason) (due minutes epoch : Nat) : OrderOk (newOrder n r due minutes epoch) :=
  ⟨by simp [newOrder], fun _ => ⟨rfl, rfl⟩, Nat.zero_le _⟩

/-- A new order in an empty slot. -/
theorem State.create_plansWithin {s : State} {k : SlotNo} {n : MemberNo} {m : Member} {due : Nat}
    (hm : s.member n = some m) (hNone : NoOrder s n) (hDue : OrderSources s → due ≤ 2 ^ 32 - 1) (r : Reason) :
    PlansWithin s (s.setSlot k (some (newOrder n r due m.minutes s.etm.epoch))) := by
  refine .of_rewritten (f := (·.used)) (by simp [keepsAllBut_iff]) (s.slot_setSlot_self k _)
    (fun j hj => s.slot_setSlot_ne hj _) (withUsed_self _).symm rfl (fun _ => id)
    (fun h => h.of_created hNone (by rw [show (newOrder n r due m.minutes s.etm.epoch).member = n from rfl, hm]; rfl)
      (newOrder_ok n r due m.minutes s.etm.epoch)) ?_ ?_
  · rintro hSources - - - p hp
    cases hp
    exact ⟨fun tag ht => (nomatch ht), fun _ hs => (nomatch hs),
      (hSources.2 n m hm).1, hDue hSources, Nat.zero_le _, hSources.1⟩
  · intro _ _ hPlan w hw
    exact ⟨Nat.add_le_add_left (Nat.zero_le _) _, (hPlan.used w hw).2⟩

/-- The used minutes of a window after the order `o` has left it by a request (R109, R123). -/
def usedWithout (o : Order) (w : MaintWindow) : Nat :=
  if o.state = .scheduled ∧ o.tag = some w.tag then w.used - o.minutes else w.used

theorem usedWithout_le (o : Order) (w : MaintWindow) : usedWithout o w ≤ w.used := by
  unfold usedWithout
  split <;> omega

theorem le_usedWithout_add (o : Order) (w : MaintWindow) : w.used ≤ usedWithout o w + minutesFor w.tag (some o) := by
  unfold usedWithout
  rw [minutesFor_some]
  split
  · next h => rw [if_pos h.2]; omega
  · omega

theorem windowsWithout_eq (o : Order) (ws : List MaintWindow) : windowsWithout o ws = withUsed (usedWithout o) ws := by
  unfold windowsWithout withUsed usedWithout
  by_cases h : o.state = .scheduled
  · rw [if_pos h]
    refine List.map_congr_left fun w _ => ?_
    by_cases ht : o.tag = some w.tag <;> simp [h, ht, eq_comm]
  · simp [h]

/-- An order leaves its window by a request: it leaves the pool, or goes on in its slot with no tag. -/
theorem State.leave_plansWithin {s t : State} {k : SlotNo} {o : Order} {x : Option Order} (ho : s.slot k = some o)
    (hf : KeepsAllBut [.spl, .nq] s t) (hk : t.slot k = x) (hOthers : KeepsOtherSlots k s t)
    (hw : t.spl.windows = windowsWithout o s.spl.windows) (hg : t.spl.generator.templates = s.spl.generator.templates)
    (hst : t.spl.planner.stage = s.spl.planner.stage)
    (hx : ∀ p, x = some p → p.member = o.member ∧ (OrderOk o → OrderOk p) ∧ p.tag = none ∧ p.state ≠ .scheduled
      ∧ (OrderFigures o → OrderFigures p)) : PlansWithin s t := by
  refine .of_rewritten hf hk hOthers (hw.trans (windowsWithout_eq o _)) hg (fun j hb => hst ▸ hb)
    (fun h => h.of_rewritten hf ho hk hOthers fun p hp => ⟨(hx p hp).1, (hx p hp).2.1⟩) ?_ ?_
  · intro _ _ _ hPlan p hp
    obtain ⟨-, -, hTag, hState, hFigures⟩ := hx p hp
    exact ⟨fun tag ht => (nomatch hTag.symm.trans ht), fun _ => hState, hFigures (hPlan.orders k o ho).figures⟩
  · intro _ _ hPlan w hm
    have hNone : minutesFor w.tag x = 0 := by
      cases x with
      | none => rfl
      | some p => exact minutesFor_of_untagged (hx p rfl).2.2.1 _
    rw [hNone, ho]
    exact ⟨le_usedWithout_add o w, (usedWithout_le o w).trans (hPlan.used w hm).2⟩

theorem State.removeOrder_plansWithin {s : State} {k : SlotNo} {o : Order} (ho : s.slot k = some o) :
    PlansWithin s (s.removeOrder k o) := by
  obtain ⟨hEmpty, hOthers, hWindows⟩ := s.removeOrder_removed k o
  exact State.leave_plansWithin ho ((s.removeOrder_keeps k o).mono (by decide)) hEmpty hOthers hWindows
    (by rw [s.removeOrder_spl]) (by rw [s.removeOrder_spl]) fun p hp => nomatch hp

theorem State.removeOrderOf_plansWithin (s : State) (n : MemberNo) : PlansWithin s (s.removeOrderOf n) := by
  unfold State.removeOrderOf
  cases h : s.openOrder n with
  | none => exact .refl s
  | some p => exact State.removeOrder_plansWithin (s.openOrder_eq_some h).1

theorem State.requestRerun_plansWithin (s : State) : PlansWithin s s.requestRerun :=
  .of_quiet (s.requestRerun_keeps.mono (by decide)) (by rw [s.requestRerun_spl]) (by rw [s.requestRerun_spl])
    (by rw [s.requestRerun_spl]) fun k hk => by rwa [s.requestRerun_spl] at hk

/-- `s` with the order `o` of slot `k` IN_WORK, its minutes returned as R109 says (R111). -/
def State.started (s : State) (k : SlotNo) (o : Order) : State :=
  (s.setSlot k (some { o with state := .inWork, tag := none })).returnMinutes o

theorem State.started_spl (s : State) (k : SlotNo) (o : Order) : (s.started k o).spl = { s.spl with
    orders := s.spl.orders.set k (some { o with state := .inWork, tag := none })
    windows := windowsWithout o s.spl.windows } := State.returnMinutes_spl _ o

theorem State.started_keeps (s : State) (k : SlotNo) (o : Order) : KeepsAllBut [.spl] s (s.started k o) := by
  simp [State.started, keepsAllBut_iff]

theorem State.slot_started (s : State) (k : SlotNo) (o : Order) (j : SlotNo) :
    (s.started k o).slot j = (s.setSlot k (some { o with state := .inWork, tag := none })).slot j := by
  rw [State.slot, s.started_spl]
  rfl

theorem State.slot_started_self (s : State) (k : SlotNo) (o : Order) :
    (s.started k o).slot k = some { o with state := .inWork, tag := none } :=
  (s.slot_started k o k).trans (s.slot_setSlot_self k _)

theorem State.started_keepsOthers (s : State) (k : SlotNo) (o : Order) : KeepsOtherSlots k s (s.started k o) :=
  fun j hj => (s.slot_started k o j).trans (s.slot_setSlot_ne hj _)

theorem State.started_plansWithin {s : State} {k : SlotNo} {o : Order} (ho : s.slot k = some o) :
    PlansWithin s (s.started k o) := by
  refine State.leave_plansWithin ho ((s.started_keeps k o).mono (by decide)) (s.slot_started_self k o)
    (s.started_keepsOthers k o) (by rw [s.started_spl]) (by rw [s.started_spl]) (by rw [s.started_spl]) fun p hp => ?_
  cases hp
  exact ⟨rfl, fun h => ⟨by simp, fun hs => (nomatch hs), h.missed⟩, rfl, fun hs => (nomatch hs), id⟩

/-! ### Placement and ganging (R147, R149) -/

/-- The used minutes of a window with `minutes` more for that of tag `tag`, from those of `f`. -/
def usedWith (tag minutes : Nat) (f : MaintWindow → Nat) (w : MaintWindow) : Nat :=
  if w.tag = tag then f w + minutes else f w

theorem mapUsed_withUsed (tag minutes : Nat) (f : MaintWindow → Nat) (ws : List MaintWindow) :
    mapUsed tag (· + minutes) (withUsed f ws) = withUsed (usedWith tag minutes f) ws := by
  simp only [mapUsed, withUsed, List.map_map]
  refine List.map_congr_left fun w _ => ?_
  simp only [Function.comp, usedWith]
  split <;> rfl

/-- Order `o` of slot `k` goes SCHEDULED into the listed OPEN window `w`, whose free capacity takes its minutes, from no
window or from another (R147, R149). -/
theorem State.schedule_plansWithin {s t : State} {k : SlotNo} {o p : Order} {w : MaintWindow} (ho : s.slot k = some o)
    (hw : w ∈ s.spl.windows) (hOpen : w.state = .opened) (hFree : o.minutes ≤ w.free)
    (hOther : OrderOk o → o.tag ≠ some w.tag) (hf : KeepsAllBut [.spl, .nq] s t) (hk : t.slot k = some p)
    (hOthers : KeepsOtherSlots k s t)
    (hWindows : t.spl.windows = withUsed (usedWith w.tag o.minutes (usedWithout o)) s.spl.windows)
    (hg : t.spl.generator.templates = s.spl.generator.templates) (hst : ∀ j, ¬ t.spl.planner.stage.bares j)
    (hp : ∃ late ganged, p = { o with state := .scheduled, tag := some w.tag, late, ganged }) : PlansWithin s t := by
  obtain ⟨late, ganged, rfl⟩ := hp
  refine .of_rewritten hf hk hOthers hWindows hg (fun j hb => absurd hb (hst j))
    (fun h => h.of_rewritten hf ho hk hOthers fun q hq => ?_) ?_ ?_
  · cases hq
    exact ⟨rfl, fun h => ⟨by simp, fun hs => (nomatch hs), h.missed⟩⟩
  · rintro - - - hPlan q hq
    cases hq
    refine ⟨fun tag ht => ?_, fun hb => absurd hb (hst k), (hPlan.orders k o ho).figures⟩
    cases ht
    exact ⟨w, hw, rfl, fun _ => ⟨fun _ => hOpen, fun hs => (nomatch hs)⟩⟩
  · intro hUnique hOrders hPlan v hv
    have hCapacity := (hPlan.used v hv).2
    have hLe := usedWithout_le o v
    have hGrows := le_usedWithout_add o v
    rw [ho, minutesFor_some]
    by_cases hTag : v.tag = w.tag
    · obtain rfl := hUnique.eq_of_tag hv hw hTag
      have hNot := hOther (hOrders.1 k o ho).1
      have hSame : usedWithout o v = v.used := if_neg fun h => hNot h.2
      rw [usedWith, if_pos rfl, hSame]
      unfold MaintWindow.free at hFree
      simp only [if_true]
      omega
    · rw [usedWith, if_neg hTag, if_neg (by simpa [eq_comm] using hTag)]
      exact ⟨hGrows, hLe.trans hCapacity⟩

theorem latest_mem {ws : List MaintWindow} {w : MaintWindow} (h : latest ws = some w) : w ∈ ws := by
  induction ws generalizing w with
  | nil => cases h
  | cons x ws ih =>
    unfold latest at h
    split at h
    · next y hy =>
      split at h
      · obtain rfl := Option.some.inj h
        exact List.mem_cons_of_mem _ (ih hy)
      · obtain rfl := Option.some.inj h
        exact List.mem_cons_self
    · obtain rfl := Option.some.inj h
      exact List.mem_cons_self

theorem earliest_mem {ws : List MaintWindow} {w : MaintWindow} (h : earliest ws = some w) : w ∈ ws := by
  induction ws generalizing w with
  | nil => cases h
  | cons x ws ih =>
    unfold earliest at h
    split at h
    · next y hy =>
      split at h
      · obtain rfl := Option.some.inj h
        exact List.mem_cons_of_mem _ (ih hy)
      · obtain rfl := Option.some.inj h
        exact List.mem_cons_self
    · obtain rfl := Option.some.inj h
      exact List.mem_cons_self

theorem MaintWindow.takes_iff (w : MaintWindow) (g : SegNo) (minutes : Nat) :
    w.takes g minutes = true ↔ CanTake w g minutes := by
  simp only [MaintWindow.takes, CanTake, Bool.and_eq_true, decide_eq_true_eq, and_assoc]
  rfl

/-- The candidates of an order are the listed windows that can take it for its member's segment (R147, R148). -/
theorem State.mem_candidates {s : State} {o : Order} {w : MaintWindow} : w ∈ s.candidates o ↔
    ∃ m g, s.member o.member = some m ∧ m.segment = some g ∧ w ∈ s.spl.windows ∧ CanTake w g o.minutes := by
  unfold State.candidates
  cases hm : s.member o.member with
  | none => simp
  | some m => cases hg : m.segment <;> simp [hg, MaintWindow.takes_iff]

theorem State.chooseWindow_mem {s : State} {o : Order} {w : MaintWindow} {late : Bool}
    (h : s.chooseWindow o = some (w, late)) : w ∈ s.candidates o := by
  unfold State.chooseWindow at h
  dsimp only at h
  split at h
  · next hLatest =>
    cases h
    exact List.mem_of_mem_filter (latest_mem hLatest)
  · obtain ⟨x, hx, e⟩ := Option.map_eq_some_iff.1 h
    cases e
    exact earliest_mem hx

theorem State.slot_placeOrder (s : State) (k : SlotNo) (o : Order) (w : MaintWindow) (late : Bool) (j : SlotNo) :
    (s.placeOrder k o w late).slot j
      = (s.setSlot k (some { o with state := .scheduled, tag := some w.tag, late := late })).slot j := rfl

theorem State.placeOrder_plansWithin {s : State} {k : SlotNo} {o : Order} {w : MaintWindow} {late : Bool}
    (ho : s.slot k = some o) (hs : o.state = .proposed) (h : s.chooseWindow o = some (w, late))
    (hst : ∀ j, ¬ s.spl.planner.stage.bares j) : PlansWithin s (s.placeOrder k o w late) := by
  obtain ⟨m, g, -, -, hw, hOpen, -, hFree⟩ := State.mem_candidates.1 (State.chooseWindow_mem h)
  have hSame : usedWithout o = (·.used) := funext fun v => if_neg fun h => by simp [hs] at h
  refine State.schedule_plansWithin ho hw hOpen hFree (fun hOk e => ?_) ((s.placeOrder_keeps k o w late).mono (by decide))
    ((s.slot_placeOrder k o w late k).trans (s.slot_setSlot_self k _))
    (fun j hj => (s.slot_placeOrder k o w late j).trans (s.slot_setSlot_ne hj _)) ?_ rfl hst ⟨late, o.ganged, rfl⟩
  · rw [hOk.tag_of_proposed hs] at e
    cases e
  · rw [hSame, ← mapUsed_withUsed, withUsed_self]
    rfl

theorem State.leaveUnplaced_plansWithin (s : State) (o : Order) : PlansWithin s (s.leaveUnplaced o) := by
  have hCounted : PlansWithin s (s.setPlanner { s.spl.planner with
      unplaced := s.spl.planner.unplaced + 1, leftUnplaced := o.member :: s.spl.planner.leftUnplaced }) :=
    .of_planner fun _ => id
  unfold State.leaveUnplaced
  dsimp only
  split
  · exact hCounted.post _ _ _
  · exact hCounted

theorem State.placeMember_plansWithin {s : State} (hst : ∀ j, ¬ s.spl.planner.stage.bares j) (n : MemberNo) :
    PlansWithin s (s.placeMember n) := by
  unfold State.placeMember
  split
  · exact .refl s
  · next k o hOpen =>
    split
    · next hs =>
      split
      · next w late hw => exact State.placeOrder_plansWithin (s.openOrder_eq_some hOpen).1 hs hw hst
      · exact s.leaveUnplaced_plansWithin o
    · exact .refl s

theorem State.windowOf_eq_some {s : State} {tag : Nat} {w : MaintWindow} (h : s.windowOf tag = some w) :
    w ∈ s.spl.windows ∧ w.tag = tag :=
  ⟨List.mem_of_find?_eq_some h, by simpa using List.find?_some h⟩

/-- What the model asks of a roller's order and the belt's window (R149, R109). -/
theorem State.gangs_iff (s : State) (o : Order) (w : MaintWindow) : s.gangs o w = true ↔
    w.state = .opened
      ∧ ((o.state = .proposed ∧ o.member ∈ s.spl.planner.leftUnplaced)
        ∨ (o.state = .scheduled ∧ ∃ x, o.tag.bind s.windowOf = some x ∧ w.start < x.start))
      ∧ o.due ≤ w.start + s.spl.planner.runGangHorizon ∧ o.minutes ≤ w.free := by
  unfold State.gangs
  cases h : o.tag.bind s.windowOf <;> simp [and_assoc]

/-- What a move of a roller's order into window `w` writes (R149). -/
theorem State.gangOrder_spl (s : State) (k : SlotNo) (o : Order) (w : MaintWindow) : (s.gangOrder k o w).spl = { s.spl with
    orders := s.spl.orders.set k
      (some { o with state := .scheduled, tag := some w.tag, ganged := true, late := decide (o.due < w.start) })
    windows := windowsWith w.tag o.minutes (windowsWithout o s.spl.windows)
    planner := s.spl.planner.countMove o (decide (o.due < w.start)) } := by
  show ({ (s.returnMinutes o).spl with
    orders := (s.returnMinutes o).spl.orders.set k
      (some { o with state := .scheduled, tag := some w.tag, ganged := true, late := decide (o.due < w.start) })
    windows := windowsWith w.tag o.minutes (s.returnMinutes o).spl.windows
    planner := (s.returnMinutes o).spl.planner.countMove o (decide (o.due < w.start)) } : Spl) = _
  rw [s.returnMinutes_spl]

theorem State.slot_gangOrder (s : State) (k : SlotNo) (o : Order) (w : MaintWindow) (j : SlotNo) :
    (s.gangOrder k o w).slot j = (s.setSlot k (some { o with
      state := .scheduled, tag := some w.tag, ganged := true, late := decide (o.due < w.start) })).slot j := by
  rw [State.slot, s.gangOrder_spl]
  rfl

theorem Planner.countMove_stage (p : Planner) (o : Order) (late : Bool) : (p.countMove o late).stage = p.stage := by
  unfold Planner.countMove
  dsimp only
  split <;> rfl

theorem State.gangMember_plansWithin {s : State} (hst : ∀ j, ¬ s.spl.planner.stage.bares j) (tag : Nat) (n : MemberNo) :
    PlansWithin s (State.gangMember tag s n) := by
  unfold State.gangMember
  split
  · next k o w hOpen hWindow =>
    split
    · next hGangs =>
      obtain ⟨ho, -⟩ := s.openOrder_eq_some hOpen
      obtain ⟨hw, rfl⟩ := State.windowOf_eq_some hWindow
      obtain ⟨hOpened, hFrom, -, hFree⟩ := (s.gangs_iff o w).1 hGangs
      refine State.schedule_plansWithin ho hw hOpened hFree (fun hOk e => ?_)
        ((s.gangOrder_keeps k o w).mono (by decide)) ((s.slot_gangOrder k o w k).trans (s.slot_setSlot_self k _))
        (fun j hj => (s.slot_gangOrder k o w j).trans (s.slot_setSlot_ne hj _)) ?_ (by rw [s.gangOrder_spl])
        (fun j => ?_) ⟨_, true, rfl⟩
      · obtain ⟨hs, -⟩ | ⟨-, x, hx, hLater⟩ := hFrom
        · rw [hOk.tag_of_proposed hs] at e
          cases e
        · rw [e, Option.bind_some, hWindow, Option.some.injEq] at hx
          exact absurd (hx ▸ hLater) (lt_irrefl _)
      · rw [s.gangOrder_spl, ← mapUsed_withUsed, ← windowsWithout_eq]
        rfl
      · rw [s.gangOrder_spl, Planner.countMove_stage]
        exact hst j
    · exact .refl s
  · exact .refl s

end Sys2Proof.Machine
end

section
/-! SUPPORT. The stages of the planning run (R143 to R146, R149) and the invariants of the plan. -/

namespace Sys2Proof.Machine

/-! ### The member walk (R143, R144) -/

/-- The due epoch that the walk gives an order is an epoch number (R143). -/
theorem reasonFor_due {m : Member} {epoch horizon due : Nat} {r : Reason} (h : reasonFor m epoch horizon = some (r, due))
    (he : epoch ≤ 2 ^ 32 - 1) (hp : ∀ x, m.projection = some x → x ≤ 2 ^ 32 - 1) : due ≤ 2 ^ 32 - 1 := by
  unfold reasonFor at h
  split at h
  · cases h
    exact he
  · split at h
    · cases h
      cases hm : m.projection with
      | none => exact satAdd_le _ _ _
      | some x => exact hp x hm
    · split at h
      · next p hm =>
        split at h
        · cases h
          exact hp _ hm
        · cases h
      · cases h

section

variable {s : State}

theorem State.walkMember_plansWithin {n : MemberNo} {m : Member} (hm : s.member n = some m) :
    PlansWithin s (s.walkMember n m) := by
  unfold State.walkMember
  split
  · next r due hNone hFound =>
    unfold State.walkCreate
    split
    · exact State.create_plansWithin hm (s.openOrder_eq_none.1 hNone)
        (fun hs => reasonFor_due hFound hs.1 (hs.2 n m hm).2) r
    · exact .of_planner fun _ => id
  · exact .refl s
  · next k o hOpen =>
    obtain ⟨ho, -⟩ := s.openOrder_eq_some hOpen
    split
    · exact .refl s
    · split
      · next r due hFound =>
        refine State.setSlot_plansWithin ho rfl (fun h => ⟨h.tag, h.flags, h.missed⟩) (fun _ => .inr ⟨rfl, rfl, rfl⟩) id ?_
        rintro hs - ⟨hMinutes, -, hMissed, hCreated⟩
        exact ⟨hMinutes, reasonFor_due hFound hs.1 (hs.2 n m hm).2, hMissed, hCreated⟩
      · split
        · exact (State.removeOrder_plansWithin ho).post _ _ _
        · exact .refl s

/-- A stage at which the pool may hold SCHEDULED orders anywhere. -/
theorem PlansWithin.then_stage {t : State} (h : PlansWithin s t) {st : Stage} (hst : ∀ k, ¬ st.bares k) :
    PlansWithin s (t.setStage st) := h.trans (.of_stage fun _ k _ _ hb => absurd hb (hst k))

theorem State.walkStep_plansWithin (next : Nat) : PlansWithin s (s.walkStep next) := by
  unfold State.walkStep
  split
  · exact (PlansWithin.refl s).then_stage fun _ => id
  · split
    · next m hm => exact (State.walkMember_plansWithin hm).then_stage fun _ => id
    · exact .refl s

theorem State.walkCommand_plansWithin : PlansWithin s s.walkCommand := by
  unfold State.walkCommand
  split
  · exact State.walkStep_plansWithin _
  all_goals exact .refl s

theorem State.walkVisits_plansWithin (k : Nat) {s : State} : PlansWithin s (State.walkVisits k s) := by
  induction k generalizing s with
  | zero => exact .refl s
  | succ k ih => exact State.walkCommand_plansWithin.trans ih

/-! ### The placement reset (R145) and the sort (R146) -/

theorem State.mapSlot_of_slot {k : SlotNo} {o : Order} (h : s.slot k = some o) (f : Order → Order) :
    State.mapSlot f s k = s.setSlot k (some (f o)) := by rw [State.mapSlot, h, Option.map_some]

theorem State.copyMinutes_plansWithin {k : SlotNo} {o : Order} (ho : s.slot k = some o) (hs : o.state = .proposed) :
    PlansWithin s (State.mapSlot s.copyMinutes s k) := by
  rw [State.mapSlot_of_slot ho]
  refine State.setSlot_plansWithin ho rfl (fun h => ⟨h.tag, h.flags, h.missed⟩) (fun h => .inl (h.tag_of_proposed hs)) id ?_
  rintro hSources hSome ⟨-, hDue, hMissed, hCreated⟩
  obtain ⟨m, hm⟩ := Option.isSome_iff_exists.1 hSome
  refine ⟨?_, hDue, hMissed, hCreated⟩
  simp only [State.copyMinutes, hm]
  exact (hSources.2 _ m hm).1

theorem State.propose_plansWithin {k : SlotNo} {o : Order} (ho : s.slot k = some o) :
    PlansWithin s (State.mapSlot Order.propose s k) := by
  rw [State.mapSlot_of_slot ho]
  exact State.setSlot_plansWithin ho rfl OrderOk.propose (fun _ => .inl rfl) (fun h => (nomatch h)) fun _ _ h => h

/-- With no order SCHEDULED, the orders that name a window are RELEASED, and the windows' used minutes are theirs. -/
theorem State.rebuildUsed_plansWithin (hst : ∀ k, s.spl.planner.stage.bares k) : PlansWithin s s.rebuildUsed := by
  have hWindows : s.rebuildUsed.spl.windows = withUsed (fun w => s.releasedMinutes w.tag) s.spl.windows := rfl
  refine ⟨⟨fun h => h.of_places (by rw [hWindows, withUsed_places]), fun h => h, fun _ _ hOrders h => ?_⟩,
    s.rebuildUsed_keeps.mono (by decide)⟩
  have hPlan := (planInv_iff s).1 h
  have hReleased : ∀ tag, s.releasedMinutes tag = s.namedMinutes tag := fun tag => by
    rw [s.namedMinutes_eq]
    refine congrArg List.sum (List.map_congr_left fun k _ => ?_)
    cases hk : s.slot k with
    | none => rfl
    | some o =>
      have hNot := (hPlan.orders k o hk).bare (hst k)
      have hTag := (hOrders.1 k o hk).1.tag
      rw [minutesFor_some]
      refine if_congr (and_iff_right_of_imp fun ht => ?_) rfl rfl
      rw [ht] at hTag
      exact (hTag.1 rfl).resolve_left hNot
  refine (planInv_iff _).2 ⟨fun k o hk => (hPlan.orders k o hk).withUsed _, fun w hm => ?_, fun w hm => ?_, hPlan.templates⟩
  · obtain ⟨v, hv, rfl⟩ := mem_withUsed.1 hm
    obtain ⟨hUsed, hCapacity⟩ := hPlan.used v hv
    exact ⟨(hReleased v.tag).ge, (hReleased v.tag).trans_le (hUsed.trans hCapacity)⟩
  · obtain ⟨v, hv, rfl⟩ := mem_withUsed.1 hm
    exact (hPlan.windows v hv).withUsed _

theorem State.mapSlot_setStage (f : Order → Order) (k : SlotNo) (st : Stage) :
    (State.mapSlot f s k).setStage st = State.mapSlot f (s.setStage st) k := rfl

theorem State.copyMinutes_setStage (s : State) (st : Stage) : (s.setStage st).copyMinutes = s.copyMinutes := rfl

theorem State.rebuildUsed_setStage (st : Stage) : s.rebuildUsed.setStage st = (s.setStage st).rebuildUsed := rfl

/-- From here on no order is SCHEDULED, and the reset goes on to copy minutes, or to the used minutes and the sort. -/
theorem State.copyStep_plansWithin (h : PlanInv s → ∀ k o, s.slot k = some o → o.state ≠ .scheduled) (next : Nat) :
    PlansWithin s (s.copyStep next) := by
  have hStage : ∀ st, PlansWithin s (s.setStage st) := fun st => .of_stage fun hp k o ho _ => h hp k o ho
  unfold State.copyStep
  split
  · next k hk =>
    obtain ⟨⟨-, o, ho, hs⟩, -⟩ := s.nextSlotIn_eq_some.1 hk
    have hSlot := (s.slot_setStage (.copyMinutes (k.val + 1)) k).trans ho
    rw [State.mapSlot_setStage, ← s.copyMinutes_setStage (.copyMinutes (k.val + 1))]
    exact (hStage _).trans (State.copyMinutes_plansWithin hSlot hs)
  · rw [State.rebuildUsed_setStage]
    exact (hStage .sort).trans (State.rebuildUsed_plansWithin fun _ => trivial)

/-- Where no slot before `next` holds a SCHEDULED order, the reset takes back the next one. -/
theorem State.takeBackStep_plansWithin {next : Nat} (h : ∀ k : SlotNo, k.val < next → s.spl.planner.stage.bares k) :
    PlansWithin s (s.takeBackStep next) := by
  have hBefore : PlanInv s → ∀ (k : SlotNo) o, k.val < next → s.slot k = some o → o.state ≠ .scheduled :=
    fun hp k o hk ho => (((planInv_iff s).1 hp).orders k o ho).bare (h k hk)
  unfold State.takeBackStep
  split
  · next k hk =>
    obtain ⟨⟨-, o, ho, -⟩, hLeast⟩ := s.nextSlotIn_eq_some.1 hk
    refine (State.propose_plansWithin ho).trans (.of_stage fun hp j p hj hb => ?_)
    rw [State.mapSlot_of_slot ho] at hp hj
    by_cases hjk : j = k
    · subst hjk
      rw [State.slot_setSlot_self] at hj
      cases hj
      exact fun hs => (nomatch hs)
    · have hlt : j.val < k.val := lt_of_le_of_ne (Nat.le_of_lt_succ hb) fun e => hjk (Fin.ext e)
      by_cases hn : j.val < next
      · exact (((planInv_iff _).1 hp).orders j p hj).bare (h j hn)
      · rw [State.slot_setSlot_ne _ hjk] at hj
        exact fun hs => absurd (hLeast j ⟨Nat.le_of_not_lt hn, p, hj, hs⟩) (not_le.2 hlt)
  · next hNone =>
    refine State.copyStep_plansWithin (fun hp k o ho => ?_) 0
    by_cases hk : k.val < next
    · exact hBefore hp k o hk ho
    · exact s.nextSlotIn_eq_none.1 hNone k o (Nat.le_of_not_lt hk) ho

/-! ### Ganging (R149) -/

theorem State.gangStep_plansWithin (i : Nat) : PlansWithin s (s.gangStep i) := by
  unfold State.gangStep
  split
  · exact (PlansWithin.refl s).then_stage fun _ => id
  · split <;> exact (PlansWithin.refl s).then_stage fun _ => id

theorem State.gangRollerStep_plansWithin (hst : ∀ j, ¬ s.spl.planner.stage.bares j) (j : Nat) (g : SegNo) (tag next : Nat) :
    PlansWithin s (s.gangRollerStep j g tag next) := by
  unfold State.gangRollerStep
  split
  · exact (State.gangMember_plansWithin hst tag _).then_stage fun _ => id
  · exact State.gangStep_plansWithin _

end

end Sys2Proof.Machine
end

section
/-! SUPPORT. The windows of the SPL (07) and the invariants of the plan: activation and end at a boundary, generation, and the
window requests. -/

namespace Sys2Proof.Machine

/-! ### Orders rewritten slot after slot -/

section

variable (s : State)

theorem State.slotsThat_nodup (test : Order → Bool) : (s.slotsThat test).Nodup := (List.nodup_finRange 48).filter _

theorem State.mem_slotsThat {test : Order → Bool} {k : SlotNo} :
    k ∈ s.slotsThat test ↔ ∃ o, s.slot k = some o ∧ test o = true := by
  unfold State.slotsThat allSlots
  cases h : s.slot k <;> simp [h]

theorem State.slot_mapSlot (f : Order → Order) (k j : SlotNo) :
    (State.mapSlot f s k).slot j = if j = k then (s.slot j).map f else s.slot j := by
  unfold State.mapSlot
  by_cases h : j = k
  · subst h
    rw [State.slot_setSlot_self, if_pos rfl]
  · rw [s.slot_setSlot_ne h, if_neg h]

/-- The orders of a state under a test, each rewritten by `f`. -/
def rewriteIf (test : Order → Bool) (f : Order → Order) (o : Order) : Order := if test o then f o else o

/-- A fold that rewrites one slot a step by `f`, over the slots whose orders pass a test. -/
theorem State.slot_foldl_slotsThat {g : State → SlotNo → State} {f : Order → Order}
    (hg : ∀ u k j, (g u k).slot j = (State.mapSlot f u k).slot j) (test : Order → Bool) (j : SlotNo) :
    ((s.slotsThat test).foldl g s).slot j = (s.slot j).map (rewriteIf test f) := by
  have hFold : ∀ (l : List SlotNo), l.Nodup → ∀ u : State,
      (l.foldl g u).slot j = if j ∈ l then (u.slot j).map f else u.slot j := by
    intro l
    induction l with
    | nil => simp
    | cons k l ih =>
      intro hl u
      obtain ⟨hk, hl⟩ := List.nodup_cons.1 hl
      rw [List.foldl_cons, ih hl, hg, u.slot_mapSlot]
      by_cases hj : j = k
      · subst hj
        simp [hk]
      · simp [hj]
  rw [hFold _ (s.slotsThat_nodup test)]
  simp only [s.mem_slotsThat]
  cases h : s.slot j with
  | none => simp
  | some o => cases ht : test o <;> simp [rewriteIf, ht]

/-- What every step of a fold leaves of the SPL but for its orders, the whole fold leaves. -/
theorem spl_foldl {α : Type} {g : State → α → State} (hg : ∀ u a, ∃ orders, (g u a).spl = { u.spl with orders })
    (l : List α) : ∃ orders, (l.foldl g s).spl = { s.spl with orders } :=
  foldl_rel (R := fun u v => ∃ orders, v.spl = { u.spl with orders }) (fun u => ⟨_, rfl⟩)
    (fun {_ _ _} h h' => by
      obtain ⟨_, e⟩ := h
      obtain ⟨_, e'⟩ := h'
      rw [e] at e'
      exact ⟨_, e'⟩) (fun a _ u => hg u a) s

end

/-- The plan with every order rewritten by `f`, which never names a window by more minutes, and windows that keep all but their
state, or leave; each tag that stays names a window that stays, as the orders then stand. -/
theorem PlanBut.of_mapped {loose loose' : List Nat} {s t : State} {f : Order → Order} (h : PlanBut loose s)
    (hSlot : ∀ k, t.slot k = (s.slot k).map f)
    (hWindows : ∀ w ∈ t.spl.windows, ∃ v ∈ s.spl.windows, w = { v with state := w.state })
    (hFigures : ∀ o, OrderFigures o → OrderFigures (f o))
    (hMinutes : ∀ o, (f o).tag = none ∨ (f o).tag = o.tag ∧ (f o).minutes = o.minutes)
    (hBare : ∀ o, (f o).state = .scheduled → o.state = .scheduled)
    (hTags : ∀ k o tag, s.slot k = some o → (f o).tag = some tag →
      ∃ w ∈ t.spl.windows, w.tag = tag ∧ (tag ∉ loose' → (f o).fits w.state))
    (hg : t.spl.generator.templates = s.spl.generator.templates)
    (hst : t.spl.planner.stage = s.spl.planner.stage) : PlanBut loose' t := by
  refine ⟨fun k p hp => ?_, fun w hw => ?_, fun w hw => ?_, by rw [hg]; exact h.templates⟩
  · rw [hSlot] at hp
    obtain ⟨o, ho, rfl⟩ := Option.map_eq_some_iff.1 hp
    obtain ⟨-, hBares, hFigs⟩ := h.orders k o ho
    exact ⟨fun tag ht => hTags k o tag ho ht, fun hb hs => hBares (hst ▸ hb) (hBare o hs), hFigures o hFigs⟩
  · obtain ⟨v, hv, e⟩ := hWindows w hw
    obtain ⟨hUsed, hCapacity⟩ := h.used v hv
    have hNamed : t.namedMinutes v.tag ≤ s.namedMinutes v.tag := namedMinutes_le_of_slots fun k => by
      rw [hSlot]
      cases s.slot k with
      | none => exact le_rfl
      | some o =>
        rw [Option.map_some, minutesFor_some, minutesFor_some]
        obtain hNone | ⟨hTag, hMin⟩ := hMinutes o
        · simp [hNone]
        · rw [hTag, hMin]
    rw [e]
    exact ⟨hNamed.trans hUsed, hCapacity⟩
  · obtain ⟨v, hv, e⟩ := hWindows w hw
    rw [e]
    exact h.windows v hv

/-- The pool with every order rewritten by `f` for its own member. -/
theorem OrderInv.of_mapped {s t : State} {f : Order → Order} (h : OrderInv s) (hf : KeepsAllBut [.spl, .nq] s t)
    (hSlot : ∀ k, t.slot k = (s.slot k).map f) (hMember : ∀ o, (f o).member = o.member)
    (hOk : ∀ o, OrderOk o → OrderOk (f o)) : OrderInv t := by
  refine h.of_slots (fun k p hp => ?_) fun n hn => by rwa [member_of_frame hf]
  rw [hSlot] at hp
  obtain ⟨o, ho, rfl⟩ := Option.map_eq_some_iff.1 hp
  exact ⟨o, ho, hMember o, hOk o⟩

/-! ### Activation (R129) -/

/-- The orders that the activation of the window of tag `tag` releases. -/
def Order.awaits (tag : Nat) (o : Order) : Bool := o.state = .scheduled && o.tag = some tag

/-- An order RELEASED (R129). -/
def Order.release (o : Order) : Order := { o with state := .released }

theorem Order.awaits_iff (tag : Nat) (o : Order) : o.awaits tag = true ↔ o.state = .scheduled ∧ o.tag = some tag := by
  simp [Order.awaits]

/-- What an activation does to an order: nothing where the window's end has come with its start. -/
def Order.atActivation (n : Nat) (w : MaintWindow) (o : Order) : Order :=
  if n < w.endEpoch then rewriteIf (Order.awaits w.tag) Order.release o else o

theorem Order.atActivation_cases (n : Nat) (w : MaintWindow) (o : Order) :
    (n < w.endEpoch ∧ o.state = .scheduled ∧ o.tag = some w.tag ∧ o.atActivation n w = o.release)
      ∨ ((n < w.endEpoch → o.state = .scheduled → o.tag ≠ some w.tag) ∧ o.atActivation n w = o) := by
  unfold Order.atActivation rewriteIf
  by_cases hn : n < w.endEpoch
  · by_cases ho : o.awaits w.tag = true
    · obtain ⟨hs, ht⟩ := (o.awaits_iff w.tag).1 ho
      exact .inl ⟨hn, hs, ht, by rw [if_pos hn, if_pos ho]⟩
    · exact .inr ⟨fun _ hs ht => ho ((o.awaits_iff w.tag).2 ⟨hs, ht⟩), by rw [if_pos hn, if_neg ho]⟩
  · exact .inr ⟨fun h => absurd h hn, by rw [if_neg hn]⟩

theorem mem_activateTag {tag : Nat} {ws : List MaintWindow} {w : MaintWindow} :
    w ∈ activateTag tag ws ↔ ∃ v ∈ ws, w = { v with state := if v.tag = tag then .active else v.state } := by
  unfold activateTag
  simp only [List.mem_map]
  refine exists_congr fun v => and_congr_right fun _ => ?_
  split <;> exact eq_comm

section

variable (s : State) (n : Nat) (w : MaintWindow)

theorem State.activateWindow_spl : ∃ orders, (State.activateWindow n s w).spl
    = { s.spl with orders, windows := activateTag w.tag s.spl.windows } := by
  obtain ⟨_, h⟩ := spl_foldl (s.setWindows (activateTag w.tag s.spl.windows))
    (g := State.mapSlot fun o => { o with state := .released }) (fun u k => ⟨_, rfl⟩)
    ((s.setWindows (activateTag w.tag s.spl.windows)).slotsThat fun o => o.state = .scheduled && o.tag = some w.tag)
  unfold State.activateWindow
  dsimp only
  split
  · exact ⟨_, h⟩
  · exact ⟨_, rfl⟩

theorem State.slot_activateWindow (k : SlotNo) :
    (State.activateWindow n s w).slot k = (s.slot k).map (Order.atActivation n w) := by
  unfold State.activateWindow Order.atActivation
  dsimp only
  split
  · exact (s.setWindows (activateTag w.tag s.spl.windows)).slot_foldl_slotsThat (fun _ _ _ => rfl) _ k
  · exact Option.map_id'.symm

theorem State.activateWindow_windowInv (h : WindowInv s) : WindowInv (State.activateWindow n s w) := by
  obtain ⟨_, hSpl⟩ := s.activateWindow_spl n w
  refine h.of_places ?_
  rw [hSpl]
  have hPlaces : (activateTag w.tag s.spl.windows).map MaintWindow.place = s.spl.windows.map MaintWindow.place := by
    unfold activateTag
    rw [List.map_map]
    refine List.map_congr_left fun v _ => ?_
    rw [Function.comp]
    split <;> rfl
  exact hPlaces ▸ List.Sublist.refl _

theorem State.activateWindow_orderInv (h : OrderInv s) : OrderInv (State.activateWindow n s w) := by
  refine h.of_mapped (s.activateWindow_keeps n w) (s.slot_activateWindow n w) (fun o => ?_) fun o hOk => ?_
  all_goals obtain ⟨-, hs, ht, e⟩ | ⟨-, e⟩ := o.atActivation_cases n w <;> rw [e]
  · rfl
  · exact ⟨by simp [Order.release, ht], fun hs' => (nomatch hs'), hOk.missed⟩
  · exact hOk

/-- An activation keeps the plan but for the windows that have ended. -/
theorem State.activateWindow_planBut {loose : List Nat} (h : PlanBut loose s)
    (hLoose : w.endEpoch ≤ n → w.tag ∈ loose) : PlanBut loose (State.activateWindow n s w) := by
  obtain ⟨_, hSpl⟩ := s.activateWindow_spl n w
  refine h.of_mapped (s.slot_activateWindow n w) (fun x hx => ?_) (fun o => ?_) (fun o => ?_) (fun o => ?_)
    (fun k o tag ho ht => ?_) (by rw [hSpl]) (by rw [hSpl])
  · rw [hSpl] at hx
    obtain ⟨v, hv, rfl⟩ := mem_activateTag.1 hx
    exact ⟨v, hv, rfl⟩
  · obtain ⟨-, -, -, e⟩ | ⟨-, e⟩ := o.atActivation_cases n w <;> rw [e]
    · exact id
    · exact id
  · obtain ⟨-, -, -, e⟩ | ⟨-, e⟩ := o.atActivation_cases n w <;> rw [e] <;> exact .inr ⟨rfl, rfl⟩
  · obtain ⟨-, hs, -, e⟩ | ⟨-, e⟩ := o.atActivation_cases n w <;> rw [e]
    · exact fun _ => hs
    · exact id
  · have hTag : o.tag = some tag := by
      obtain ⟨-, -, -, e⟩ | ⟨-, e⟩ := o.atActivation_cases n w <;> rw [e] at ht <;> exact ht
    obtain ⟨v, hv, rfl, hFits⟩ := (h.orders k o ho).tag tag hTag
    rw [hSpl]
    refine ⟨_, mem_activateTag.2 ⟨v, hv, rfl⟩, rfl, fun hNot => ?_⟩
    by_cases hw : v.tag = w.tag
    · have hAhead : n < w.endEpoch := Nat.lt_of_not_le fun hEnd => hNot (hw ▸ hLoose hEnd)
      dsimp only
      rw [if_pos hw]
      obtain ⟨-, -, -, e⟩ | ⟨hOther, e⟩ := o.atActivation_cases n w <;> rw [e]
      · exact ⟨fun hs => (nomatch hs), fun _ => rfl⟩
      · exact ⟨fun hs => absurd (hw ▸ hTag) (hOther hAhead hs), fun _ => rfl⟩
    · dsimp only
      rw [if_neg hw]
      obtain ⟨-, -, ht', -⟩ | ⟨-, e⟩ := o.atActivation_cases n w
      · exact absurd (Option.some.inj (hTag.symm.trans ht')) hw
      · rw [e]
        exact hFits hNot

end

/-- The tags of the windows that end at the boundary to epoch `n` (R130). -/
def endedTags (n : Nat) (ws : List MaintWindow) : List Nat := (ws.filter fun w => decide (w.endEpoch ≤ n)).map (·.tag)

theorem mem_endedTags {n : Nat} {ws : List MaintWindow} {tag : Nat} :
    tag ∈ endedTags n ws ↔ ∃ w ∈ ws, w.endEpoch ≤ n ∧ w.tag = tag := by
  simp [endedTags, and_assoc]

theorem endedTags_activateTag (n tag : Nat) (ws : List MaintWindow) : endedTags n (activateTag tag ws) = endedTags n ws := by
  induction ws with
  | nil => rfl
  | cons w ws ih =>
    have hHead : activateTag tag (w :: ws)
        = { w with state := if w.tag = tag then .active else w.state } :: activateTag tag ws := by
      simp only [activateTag, List.map_cons]
      split <;> rfl
    have hEnd : ∀ st, ({ w with state := st } : MaintWindow).endEpoch = w.endEpoch := fun _ => rfl
    rw [hHead, endedTags, endedTags, List.filter_cons, List.filter_cons, hEnd]
    split
    · exact congrArg (w.tag :: ·) ih
    · exact ih

/-- The windows and the orders after the activations, and the plan but for the windows that have ended. -/
theorem State.activateWindows_planBut {s : State} (n : Nat) (h : PlanBut [] s) :
    PlanBut (endedTags n (s.activateWindows n).spl.windows) (s.activateWindows n) := by
  have hStart : PlanBut (endedTags n s.spl.windows) s :=
    ⟨fun k o ho => ⟨fun tag ht => by
      obtain ⟨w, hw, e, hFits⟩ := (h.orders k o ho).tag tag ht
      exact ⟨w, hw, e, fun _ => hFits List.not_mem_nil⟩, (h.orders k o ho).bare, (h.orders k o ho).figures⟩,
      h.used, h.windows, h.templates⟩
  have hFold : ∀ (l : List MaintWindow), (∀ w ∈ l, w ∈ s.spl.windows) → ∀ u : State,
      endedTags n u.spl.windows = endedTags n s.spl.windows → PlanBut (endedTags n s.spl.windows) u →
      let v := l.foldl (State.activateWindow n) u
      endedTags n v.spl.windows = endedTags n s.spl.windows ∧ PlanBut (endedTags n s.spl.windows) v := by
    intro l
    induction l with
    | nil => exact fun _ u hu hPlan => ⟨hu, hPlan⟩
    | cons w l ih =>
      intro hl u hu hPlan
      refine ih (fun x hx => hl x (List.mem_cons_of_mem w hx)) _ ?_ ?_
      · obtain ⟨_, hSpl⟩ := u.activateWindow_spl n w
        rw [hSpl]
        exact (endedTags_activateTag n w.tag _).trans hu
      · exact u.activateWindow_planBut n w hPlan fun hEnd => mem_endedTags.2 ⟨w, hl w List.mem_cons_self, hEnd, rfl⟩
  obtain ⟨hEnded, hPlan⟩ := hFold _ (fun w hw => List.mem_of_mem_filter hw) s rfl hStart
  rw [State.activateWindows, hEnded]
  exact hPlan

/-! ### The end of windows (R130) -/

/-- The orders that the end of the window of tag `tag` returns. -/
def Order.endsWith (tag : Nat) (o : Order) : Bool := (o.state = .released || o.state = .scheduled) && o.tag = some tag

/-- An order back in PROPOSED with one more window missed (R130). -/
def Order.miss (o : Order) : Order := { o.propose with missed := satAdd 15 o.missed 1 }

/-- What the end of the window of tag `tag` does to an order. -/
def Order.atEnd (tag : Nat) : Order → Order := rewriteIf (Order.endsWith tag) Order.miss

/-- Every order that names the window of tag `tag` is missed, since its tag says that it is SCHEDULED or RELEASED (R107). -/
theorem Order.atEnd_cases (tag : Nat) (o : Order) :
    o.atEnd tag = o.miss ∨ ((OrderOk o → o.tag ≠ some tag) ∧ o.atEnd tag = o) := by
  unfold Order.atEnd rewriteIf
  by_cases h : o.endsWith tag = true
  · exact .inl (if_pos h)
  · refine .inr ⟨fun hOk ht => h ?_, if_neg h⟩
    have hState := hOk.tag.1 (by rw [ht]; rfl)
    simp [Order.endsWith, ht, hState.symm]

section

variable (s : State)

theorem State.missOrder_slot (tag : Nat) (k j : SlotNo) :
    (State.missOrder tag s k).slot j = (State.mapSlot Order.miss s k).slot j := by
  unfold State.missOrder State.mapSlot
  cases h : s.slot k with
  | none =>
    by_cases hj : j = k
    · subst hj
      rw [State.slot_setSlot_self, h]
      rfl
    · rw [s.slot_setSlot_ne hj]
  | some o => rfl

theorem State.missOrder_spl (tag : Nat) (k : SlotNo) : ∃ orders, (State.missOrder tag s k).spl = { s.spl with orders } := by
  unfold State.missOrder
  split
  · exact ⟨_, rfl⟩
  · exact ⟨_, rfl⟩

variable (w : MaintWindow)

theorem State.endWindow_spl : ∃ orders rerun, (s.endWindow w).spl = { s.spl with
    orders, windows := s.spl.windows.filter fun x => x.tag ≠ w.tag, planner := { s.spl.planner with rerun } } := by
  obtain ⟨_, h⟩ := spl_foldl s (g := State.missOrder w.tag) (fun u k => u.missOrder_spl w.tag k) (s.slotsToMiss w.tag)
  unfold State.endWindow
  dsimp only
  split
  · simp only [State.setWindows, h]
    exact ⟨_, _, rfl⟩
  · rw [State.requestRerun_spl]
    simp only [State.setWindows, h]
    exact ⟨_, _, rfl⟩

theorem State.slot_endWindow (k : SlotNo) : (s.endWindow w).slot k = (s.slot k).map (Order.atEnd w.tag) := by
  have hMissed := s.slot_foldl_slotsThat (fun u k j => u.missOrder_slot w.tag k j) (Order.endsWith w.tag) k
  unfold State.endWindow
  dsimp only
  split
  · exact hMissed
  · rw [State.slot, State.requestRerun_spl]
    exact hMissed

theorem State.endWindow_windowInv (h : WindowInv s) : WindowInv (s.endWindow w) := by
  obtain ⟨_, _, hSpl⟩ := s.endWindow_spl w
  refine h.of_places ?_
  rw [hSpl]
  exact List.filter_sublist.map _

theorem OrderOk.miss {o : Order} (h : OrderOk o) : OrderOk o.miss :=
  ⟨h.propose.tag, h.propose.flags, satAdd_le 15 _ _⟩

theorem State.endWindow_orderInv (h : OrderInv s) : OrderInv (s.endWindow w) := by
  refine h.of_mapped (s.endWindow_keeps w) (s.slot_endWindow w) (fun o => ?_) fun o hOk => ?_
  all_goals obtain e | ⟨-, e⟩ := o.atEnd_cases w.tag <;> rw [e]
  · rfl
  · exact hOk.miss
  · exact hOk

/-- The end of a window takes its tag, and all that name it, out of the plan. -/
theorem State.endWindow_planBut {loose : List Nat} (hOrders : OrderInv s) (h : PlanBut (w.tag :: loose) s) :
    PlanBut loose (s.endWindow w) := by
  obtain ⟨_, _, hSpl⟩ := s.endWindow_spl w
  refine h.of_mapped (s.slot_endWindow w) (fun x hx => ?_) (fun o => ?_) (fun o => ?_) (fun o => ?_)
    (fun k o tag ho ht => ?_) (by rw [hSpl]) (by rw [hSpl])
  · rw [hSpl] at hx
    exact ⟨x, List.mem_of_mem_filter hx, rfl⟩
  · obtain e | ⟨-, e⟩ := o.atEnd_cases w.tag <;> rw [e]
    · exact fun ⟨hMinutes, hDue, _, hCreated⟩ => ⟨hMinutes, hDue, satAdd_le 15 _ _, hCreated⟩
    · exact id
  · obtain e | ⟨-, e⟩ := o.atEnd_cases w.tag <;> rw [e]
    · exact .inl rfl
    · exact .inr ⟨rfl, rfl⟩
  · obtain e | ⟨-, e⟩ := o.atEnd_cases w.tag <;> rw [e]
    · exact fun hs => (nomatch hs)
    · exact id
  · obtain e | ⟨hOther, e⟩ := o.atEnd_cases w.tag <;> rw [e] at ht ⊢
    · cases ht
    · obtain ⟨v, hv, rfl, hFits⟩ := (h.orders k o ho).tag tag ht
      have hNe : v.tag ≠ w.tag := fun he => hOther (hOrders.1 k o ho).1 (he ▸ ht)
      rw [hSpl]
      exact ⟨v, List.mem_filter.2 ⟨hv, by simpa using hNe⟩, rfl,
        fun hNot => hFits fun hm => (List.mem_cons.1 hm).elim hNe hNot⟩

end

theorem State.endWindows_planBut {s : State} (n : Nat) (hOrders : OrderInv s) (h : PlanBut (endedTags n s.spl.windows) s) :
    PlanBut [] (s.endWindows n) := by
  have hFold : ∀ (l : List MaintWindow) (u : State), OrderInv u → PlanBut (l.map (·.tag)) u →
      PlanBut [] (l.foldl State.endWindow u) := by
    intro l
    induction l with
    | nil => exact fun _ _ => id
    | cons w l ih => exact fun u hu hPlan => ih _ (u.endWindow_orderInv w hu) (u.endWindow_planBut w hu hPlan)
  exact hFold _ s hOrders h

/-- Activation and then end at a boundary (R129, R130). -/
theorem State.endActivated_plansWithin (s : State) (n : Nat) : PlansWithin s ((s.activateWindows n).endWindows n) := by
  have hActive (P : State → Prop) (h : ∀ u w, P u → P (State.activateWindow n u w)) (hs : P s) : P (s.activateWindows n) :=
    foldl_rel (R := fun u v => P u → P v) (fun _ => id) (fun h h' => h' ∘ h) (fun w _ u => h u w) s hs
  have hEnded (P : State → Prop) (h : ∀ u w, P u → P (State.endWindow u w)) (u : State) (hu : P u) : P (u.endWindows n) :=
    foldl_rel (R := fun u v => P u → P v) (fun _ => id) (fun h h' => h' ∘ h) (fun w _ u => h u w) u hu
  have hOrders : OrderInv s → OrderInv (s.activateWindows n) := hActive _ fun u w => u.activateWindow_orderInv n w
  refine ⟨⟨fun h => ?_, fun h => ?_, fun _ _ ho hp => ?_⟩,
    (s.activateWindows_keeps n).trans (State.endWindows_keeps _ n)⟩
  · exact hEnded _ (fun u w => u.endWindow_windowInv w) _ (hActive _ (fun u w => u.activateWindow_windowInv n w) h)
  · exact hEnded _ (fun u w => u.endWindow_orderInv w) _ (hOrders h)
  · exact (planInv_iff _).2
      (State.endWindows_planBut n (hOrders ho) (State.activateWindows_planBut n ((planInv_iff s).1 hp)))

/-! ### Windows listed, generated and removed (R124, R126, R127, R135, R136) -/

section

variable (s : State)

/-- A window with figures in range enters a list with room. -/
theorem State.listWindow_plansWithin (start length capacity : Nat) (mask : BitVec 24) (source : WindowSource)
    (hRoom : s.spl.windows.length < 8) (h : PlanInv s → (1 ≤ start ∧ start ≤ 2 ^ 32 - 1) ∧ (1 ≤ length ∧ length ≤ 255)
      ∧ (1 ≤ capacity ∧ capacity ≤ 65535) ∧ mask ≠ 0) :
    PlansWithin s (s.listWindow start length capacity mask source) := by
  obtain ⟨hTag, hNew⟩ := nextTag_spec s.spl.lastTag (hRoom.trans (by decide))
  refine ⟨⟨fun hw => hw.of_inserted hRoom hTag hNew rfl, fun ho => ho.of_orders rfl fun n hn => by simpa using hn,
    fun _ _ _ hp => ?_⟩, (s.listWindow_keeps _ _ _ _ _).mono (by decide)⟩
  have hPlan := (planInv_iff s).1 hp
  set w : MaintWindow := { tag := nextTag s.spl.lastTag s.spl.windows, start, length, capacity, used := 0, mask, source,
                           state := .opened } with hw
  have hMem : ∀ x, x ∈ (s.listWindow start length capacity mask source).spl.windows ↔ x = w ∨ x ∈ s.spl.windows := fun x =>
    (insertWindow_perm w s.spl.windows).mem_iff.trans List.mem_cons
  refine (planInv_iff _).2 ⟨fun k o ho => ?_, fun x hx => ?_, fun x hx => ?_, hPlan.templates⟩
  · obtain ⟨hTags, hBare, hFigures⟩ := hPlan.orders k o ho
    refine ⟨fun tag ht => ?_, hBare, hFigures⟩
    obtain ⟨v, hv, hvTag, hFits⟩ := hTags tag ht
    exact ⟨v, (hMem v).2 (.inr hv), hvTag, hFits⟩
  · obtain rfl | hx := (hMem x).1 hx
    · have hNone : s.namedMinutes w.tag = 0 := namedMinutes_eq_zero fun k o ho ht => by
        obtain ⟨v, hv, hvTag, -⟩ := (hPlan.orders k o ho).tag _ ht
        exact hNew v hv hvTag
      exact ⟨hNone.le, Nat.zero_le _⟩
    · exact hPlan.used x hx
  · obtain rfl | hx := (hMem x).1 hx
    · exact h hp
    · exact hPlan.windows x hx

theorem State.endStep_plansWithin (stuck : Bool) : PlansWithin s (s.endStep stuck) := by
  have hMoved (u : State) (x : Generator) (hx : x.templates = u.spl.generator.templates) :
      PlansWithin u (u.setGenerator x) := .of_generator hx
  have hWrapped := (hMoved s { s.spl.generator with index := 0 } rfl).post .patternWrap 0 s.spl.generator.lastStart
  unfold State.endStep
  dsimp only
  split <;> split
  · refine (hWrapped.trans ?_).post _ _ _
    exact hMoved _ _ (by simp)
  · refine PlansWithin.post ?_ _ _ _
    exact hMoved s _ rfl
  · exact hWrapped
  · exact .refl s

/-- A generation step with a template of the pattern, where the list has room. -/
theorem State.generateStep_plansWithin {t : Template} (ht : t ∈ s.spl.generator.templates)
    (hRoom : s.spl.windows.length < 8) : PlansWithin s (s.generateStep t).1 := by
  have hMoved : PlansWithin s (s.stepped t) := .of_generator rfl
  by_cases hPast : s.stepStart t ≤ s.etm.epoch
  · rw [State.generateStep_of_past hPast]
    exact (hMoved.post _ _ _).trans (State.endStep_plansWithin _ _)
  · rw [State.generateStep_of_ahead hPast]
    refine (hMoved.trans (State.listWindow_plansWithin _ _ _ _ _ _ hRoom fun hp => ?_)).trans
      (State.endStep_plansWithin _ _)
    obtain ⟨-, hLength, hCapacity, hMask⟩ := hp.templates.2 t ht
    exact ⟨⟨Nat.lt_of_le_of_lt (Nat.zero_le _) (Nat.lt_of_not_le hPast), satAdd_le _ _ _⟩, hLength, hCapacity, hMask⟩

theorem State.generateSteps_plansWithin (fuel : Nat) : PlansWithin s (State.generateSteps fuel s) := by
  induction fuel generalizing s with
  | zero => exact .refl s
  | succ fuel ih =>
    unfold State.generateSteps
    split
    · next hMay =>
      have hRoom : s.spl.windows.length < 8 := by
        simp only [State.mayGenerate, Bool.and_eq_true, decide_eq_true_eq] at hMay
        exact hMay.2
      split
      · exact .refl s
      · next t ht =>
        have hStep := s.generateStep_plansWithin (List.mem_of_getElem? ht) hRoom
        dsimp only
        split
        · exact hStep
        · exact hStep.trans (ih _)
    · exact .refl s

theorem State.generate_plansWithin : PlansWithin s s.generate := s.generateSteps_plansWithin _

theorem State.tendWindows_plansWithin : PlansWithin s s.tendWindows :=
  (s.endActivated_plansWithin _).trans (State.generate_plansWithin _)

/-- What the removal of the window of tag `tag` does to an order (R127). -/
def Order.atRemoval (tag : Nat) : Order → Order := rewriteIf (Order.awaits tag) Order.propose

theorem Order.atRemoval_cases (tag : Nat) (o : Order) :
    o.atRemoval tag = o.propose ∨ ((o.state = .scheduled → o.tag ≠ some tag) ∧ o.atRemoval tag = o) := by
  unfold Order.atRemoval rewriteIf
  by_cases h : o.awaits tag = true
  · exact .inl (if_pos h)
  · exact .inr ⟨fun hs ht => h ((o.awaits_iff tag).2 ⟨hs, ht⟩), if_neg h⟩

theorem State.removeWindow_spl (tag : Nat) : ∃ orders, (s.removeWindow tag).1.spl
    = { s.spl with orders, windows := s.spl.windows.filter fun x => x.tag ≠ tag } := by
  obtain ⟨_, h⟩ := spl_foldl s (g := State.mapSlot Order.propose) (fun u k => ⟨_, rfl⟩)
    (s.slotsThat fun o => o.state = .scheduled && o.tag = some tag)
  unfold State.removeWindow
  simp only [State.setWindows, h]
  exact ⟨_, rfl⟩

theorem State.slot_removeWindow (tag : Nat) (k : SlotNo) :
    (s.removeWindow tag).1.slot k = (s.slot k).map (Order.atRemoval tag) :=
  s.slot_foldl_slotsThat (g := State.mapSlot Order.propose) (fun _ _ _ => rfl) (Order.awaits tag) k

/-- An OPEN window leaves the list, and with it all that names it, since a RELEASED order names an ACTIVE one (R109, R127). -/
theorem State.removeWindow_plansWithin {tag : Nat} {w : MaintWindow} (hw : s.windowOf tag = some w)
    (hOpen : w.state = .opened) : PlansWithin s (s.removeWindow tag).1 := by
  obtain ⟨_, hSpl⟩ := s.removeWindow_spl tag
  obtain ⟨hMem, rfl⟩ := State.windowOf_eq_some hw
  have hf : KeepsAllBut [.spl, .nq] s (s.removeWindow w.tag).1 := (s.removeWindow_keeps w.tag).mono (by decide)
  refine ⟨⟨fun h => h.of_places ?_, fun h => ?_, fun _ hUnique hOrders hp => ?_⟩, hf⟩
  · rw [hSpl]
    exact List.filter_sublist.map _
  · refine h.of_mapped hf (s.slot_removeWindow w.tag) (fun o => ?_) fun o hOk => ?_
    all_goals obtain e | ⟨-, e⟩ := o.atRemoval_cases w.tag <;> rw [e]
    · rfl
    · exact hOk.propose
    · exact hOk
  · have hPlan := (planInv_iff s).1 hp
    refine (planInv_iff _).2 (hPlan.of_mapped (s.slot_removeWindow w.tag) (fun x hx => ?_) (fun o => ?_) (fun o => ?_)
      (fun o => ?_) (fun k o tag ho ht => ?_) (by rw [hSpl]) (by rw [hSpl]))
    · rw [hSpl] at hx
      exact ⟨x, List.mem_of_mem_filter hx, rfl⟩
    · obtain e | ⟨-, e⟩ := o.atRemoval_cases w.tag <;> rw [e] <;> exact id
    · obtain e | ⟨-, e⟩ := o.atRemoval_cases w.tag <;> rw [e]
      · exact .inl rfl
      · exact .inr ⟨rfl, rfl⟩
    · obtain e | ⟨-, e⟩ := o.atRemoval_cases w.tag <;> rw [e]
      · exact fun hs => (nomatch hs)
      · exact id
    · obtain e | ⟨hOther, e⟩ := o.atRemoval_cases w.tag <;> rw [e] at ht ⊢
      · cases ht
      · obtain ⟨v, hv, rfl, hFits⟩ := (hPlan.orders k o ho).tag tag ht
        have hNe : v.tag ≠ w.tag := fun he => by
          obtain rfl := hUnique.eq_of_tag hv hMem he
          obtain hs | hs := (hOrders.1 k o ho).1.tag.1 (by rw [ht]; rfl)
          · exact hOther hs ht
          · have hActive := (hFits List.not_mem_nil).2 hs
            rw [hOpen] at hActive
            cases hActive
        rw [hSpl]
        exact ⟨v, List.mem_filter.2 ⟨hv, by simpa using hNe⟩, rfl, hFits⟩

end

end Sys2Proof.Machine
end

section
/-! SUPPORT. The plan through every command and every step: O53. -/

namespace Sys2Proof

/-- The commands that may reach the order pool, the windows, the generator or the run: boundaries, resets, the stages of a
run, and the requests about them. -/
def Instr.reachesPlan : Instr → Bool
  | .coldReset _ | .localBoundary | .graceDeadline | .projectionsRefreshed | .planMemberWalk | .placementReset | .planSort
  | .orderPlacement | .ganging | .planDone | .characterReceived _ _ _ | .replyEnd | .restartPlan _ | .restartAll _
  | .epochSet _ | .epochMark _ _ | .memberRetire _ | .serviceDoneReplaced _ _ | .serviceDoneInspected _ _
  | .planSet _ _ _ _ | .planRun | .windowAdd _ _ _ _ | .windowRemove _ | .patternLoad _ _ | .patternControl _ _ _ _
  | .orderRaise _ _ | .orderStart _ | .orderCancel _ => true
  | _ => false

end Sys2Proof

namespace Sys2Proof.Machine

section

variable (s : State)

/-! ### The commands that do not reach the plan -/

@[simp] theorem State.isSome_answerVia (via : Delivery) (k : ReqKind) (st : Status) (d : List Byte) (n : MemberNo) :
    ((s.answerVia via k st d).member n).isSome = (s.member n).isSome := by cases via <;> rfl

/-- The SPL stands, and every record not FREE stays so. -/
def LeavesPlan (s t : State) : Prop :=
  t.spl = s.spl ∧ ∀ n, (s.member n).isSome = true → (t.member n).isSome = true

theorem LeavesPlan.keepsPlans {s t : State} (h : LeavesPlan s t) : KeepsPlans s t := .of_spl h.1 h.2

theorem LeavesPlan.of_keeps {bs : List Block} {s t : State} (h : KeepsAllBut bs s t) (hs : Block.spl ∉ bs)
    (hw : Block.wau ∉ bs) : LeavesPlan s t :=
  ⟨h.1 .spl hs, fun n hn => by rwa [member_of_wau (h.1 .wau hw)]⟩

@[simp] theorem State.isSome_setMember_some (n j : MemberNo) (m : Member) :
    ((s.setMember n (some m)).member j).isSome = (decide (j = n) || (s.member j).isSome) := by
  by_cases hj : j = n
  · subst hj
    simp
  · rw [s.member_setMember_ne hj, decide_eq_false hj, Bool.false_or]

@[simp] theorem State.isSome_writeEvaluated (n j : MemberNo) (e : Member × List (NoticeKind × Nat)) :
    ((s.writeEvaluated n e).member j).isSome = (decide (j = n) || (s.member j).isSome) := by simp [State.writeEvaluated]

@[simp] theorem State.isSome_visit (p : RatePass) (n j : MemberNo) :
    ((s.visit p n).member j).isSome = (s.member j).isSome := by
  unfold State.visit
  split
  · next m hm =>
    split
    · rw [State.isSome_setMember_some]
      by_cases hj : j = n
      · subst hj
        simp [hm]
      · simp [hj]
    · rfl
  · rfl

/-- Every other command is made of operations that leave the SPL alone and free no record, in each of its branches. -/
theorem exec_leavesPlan {i : Instr} (h : i.reachesPlan = false) : Leads (LeavesPlan s) (exec i s) := by
  cases i
  case coldReset | localBoundary | graceDeadline | projectionsRefreshed | planMemberWalk | placementReset | planSort
    | orderPlacement | ganging | planDone | characterReceived | replyEnd | restartPlan | restartAll | epochSet | epochMark
    | memberRetire | serviceDoneReplaced | serviceDoneInspected | planSet | planRun | windowAdd | windowRemove | patternLoad
    | patternControl | orderRaise | orderStart | orderCancel => cases h
  case status => exact (leads_next _ _).2 ⟨rfl, fun _ => id⟩
  case noticeMask settings =>
    show Leads _ (execNoticeMask settings s)
    unfold execNoticeMask
    split <;> exact (leads_next _ _).2 ⟨rfl, fun _ => id⟩
  case tick => exact (leads_next _ _).2 ⟨s.settle_spl, fun n hn => (s.isSome_settle n).trans hn⟩
  case restartTracking via =>
    have hKeeps := restartTracking_keeps s
    refine (leads_next _ _).2 ⟨(State.answerVia_spl _ via _ _ _).trans (hKeeps.1 .spl (by decide)), fun n hn => ?_⟩
    rwa [State.isSome_answerVia, member_of_wau (hKeeps.1 .wau (by decide))]
  all_goals
    simp only [exec, execAcceptedTransition, execSample, execSegmentTimerExpiry, execSegmentSet, execSegmentUndefine,
      execSegmentRead, execSegmentRearm, execItemAnnounce, execRatePassVisit, execGapLimitExpiry, execReplyStart,
      execBlankingEnd, execUnknownKind,
      execIdent, execModeSetup, execModeCounting, execLinkSet, execCounters, execLineSet,
      execLineStatus, execMemberDefine, execMemberRead, execMemberHold, execMemberAdjust, execMemberRelease,
      execWindowReadList, execWindowReadPattern, execOrderRead,
      execOrderList, execNoticeTake]
    (repeat' split) <;> simp +contextual [LeavesPlan, State.answerVia_spl]

end

/-! ### Resets and boundaries -/

/-- With no order and no window, and templates in range, the plan is in order whatever it was before. -/
theorem KeepsPlans.of_cleared {s t : State} (hSlot : ∀ k, t.slot k = none) (hw : t.spl.windows = [])
    (hg : PlanInv s → t.spl.generator.templates.length ≤ 16 ∧ ∀ x ∈ t.spl.generator.templates, TemplateFigures x) :
    KeepsPlans s t := by
  refine ⟨fun _ => ?_, fun _ => ⟨fun k o hk => ?_, fun k _ o _ hk => ?_⟩, fun _ _ _ h => (planInv_iff t).2
    ⟨fun k o hk => ?_, fun w hm => ?_, fun w hm => ?_, hg h⟩⟩
  · simp [WindowInv, hw]
  · cases (hSlot k).symm.trans hk
  · cases (hSlot k).symm.trans hk
  · cases (hSlot k).symm.trans hk
  · rw [hw] at hm
    cases hm
  · rw [hw] at hm
    cases hm

/-- A reset leaves an empty plan. -/
theorem KeepsPlans.of_reset {s t : State} (h : t.spl = State.reset.spl) : KeepsPlans s t := by
  refine .of_cleared (fun k => ?_) (by rw [h]; rfl) fun _ => by simp [h, State.reset, Generator.reset]
  rw [State.slot, h]
  exact Vector.getElem_replicate _

theorem OrderSources.settle {s : State} (h : OrderSources s) : OrderSources s.settle := by
  have hEpoch : s.settle.etm.epoch = s.etm.epoch := by rw [s.etm_settle]
  refine ⟨hEpoch ▸ h.1, fun n m hm => ?_⟩
  unfold State.settle at hm
  split at hm
  · exact h.2 n m hm
  · exact h.2 n m (by simpa using hm)
  · rw [State.member_beginPass] at hm
    obtain ⟨x, hx, rfl⟩ := Option.map_eq_some_iff.1 hm
    rw [Member.snapshot_eq]
    exact h.2 n x hx

section

variable (s : State)

/-- A boundary to an epoch number keeps the plan: the SPL tends its windows in the new epoch. -/
theorem State.takeBoundary_keepsPlans {number : Nat} (h : OrderSources s → number ≤ 2 ^ 32 - 1) (tick : Tick)
    (missed : Bool) : KeepsPlans s (s.takeBoundary number tick missed) := by
  have hTended := (s.settle.inEpoch number).tendWindows_plansWithin
  have hStart : KeepsPlans s (s.settle.inEpoch number) := .of_spl s.settle_spl fun n hn => (s.isSome_settle n).trans hn
  have hSources (hs : OrderSources s) : OrderSources (s.settle.inEpoch number) := ⟨h hs, hs.settle.2⟩
  refine (hStart.trans hSources hTended.toKeepsPlans).then_spl (s.takeBoundary_spl number tick missed) fun n hn => ?_
  rw [member_of_frame hTended.frame] at hn
  rw [State.isSome_takeBoundary, ← s.isSome_settle]
  exact hn

theorem State.takeNext_keepsPlans (tick : Tick) (missed : Bool) :
    KeepsPlans s (s.takeBoundary s.etm.nextEpoch tick missed) :=
  s.takeBoundary_keepsPlans (fun _ => satAdd_le _ _ _) tick missed

theorem State.replaceSettings_keepsPlans (e : EpochSettings) : KeepsPlans s (s.replaceSettings e) := by
  have hSettings : KeepsPlans s { s with etm := { s.etm with settings := e } } := .of_spl rfl fun _ => id
  unfold State.replaceSettings
  dsimp only
  split
  · exact hSettings.trans id (State.takeNext_keepsPlans _ _ _)
  · exact hSettings

theorem State.takeMark_keepsPlans (number : BitVec 32) : KeepsPlans s (s.takeMark number.toNat).1 := by
  unfold State.takeMark
  split
  · exact .of_spl rfl fun _ => id
  · split
    · exact s.takeBoundary_keepsPlans (fun _ => Nat.le_sub_one_of_lt number.isLt) _ _
    · have hCounted : KeepsPlans s { s with etm := { s.etm with markMismatches := bump16 s.etm.markMismatches } } :=
        .of_spl rfl fun _ => id
      exact hCounted.trans id (State.takeNext_keepsPlans _ _ _)

/-! ### RESTART PLAN, and the requests that remove an order -/

theorem restartPlan_keepsPlans : KeepsPlans s s.clearPlan.abandonRun := by
  have hSpl := s.clearPlan.abandonRun_spl
  refine .of_cleared (fun k => ?_) (by rw [hSpl]; rfl) fun h => ?_
  · rw [State.slot, hSpl]
    exact s.slot_clearPlan k
  · rw [hSpl]
    exact ((planInv_iff s).1 h).templates

variable {s}

theorem OrderInv.noOrder_removeOrderOf (h : OrderInv s) (n : MemberNo) : NoOrder (s.removeOrderOf n) n := by
  unfold State.removeOrderOf
  cases hOpen : s.openOrder n with
  | none => exact s.openOrder_eq_none.1 hOpen
  | some p =>
    obtain ⟨k, o⟩ := p
    obtain ⟨ho, hn⟩ := s.openOrder_eq_some hOpen
    obtain ⟨hEmpty, hOthers, -⟩ := s.removeOrder_removed k o
    intro j q hq hqn
    by_cases hj : j = k
    · subst hj
      cases hEmpty.symm.trans hq
    · exact hj (h.2 j k q o ((hOthers j hj).symm.trans hq) ho (hqn.trans hn.symm))

/-- A record goes FREE with its order removed first (R113). -/
theorem State.retired_keepsPlans (n : MemberNo) : KeepsPlans s (s.retired n) := by
  obtain ⟨⟨hWindows, hOrders, hPlan⟩, hFrame⟩ := s.removeOrderOf_plansWithin n
  have hSpl : (s.retired n).spl = (s.removeOrderOf n).requestRerun.spl := s.retired_spl n
  rw [State.requestRerun_spl] at hSpl
  have hSlot : ∀ k, (s.retired n).slot k = (s.removeOrderOf n).slot k := State.slot_of_orders (by rw [hSpl])
  refine ⟨fun h => (hWindows h).of_windows (by rw [hSpl]), fun h => ?_, fun hs hw ho hp =>
    (hPlan hs hw ho hp).of_quiet (by rw [hSpl]) (by rw [hSpl]) (by rw [hSpl]) fun k hk => by rwa [hSpl] at hk⟩
  have hInv := hOrders h
  refine ⟨fun k o ho => ?_, fun k k' o o' ho ho' => hInv.2 k k' o o' (hSlot k ▸ ho) (hSlot k' ▸ ho')⟩
  rw [hSlot] at ho
  have hNe : o.member ≠ n := h.noOrder_removeOrderOf n k o ho
  obtain ⟨hOk, hMember⟩ := hInv.1 k o ho
  rw [(s.retired_keepsOthers n).1 _ hNe]
  rw [member_of_frame hFrame] at hMember
  exact ⟨hOk, hMember⟩

/-- A record written with service minutes and projection in range. -/
theorem OrderSources.setMember (h : OrderSources s) {n : MemberNo} {m x : Member} (hm : s.member n = some m)
    (hMinutes : x.minutes = m.minutes) (hProjection : x.projection = m.projection) :
    OrderSources (s.setMember n (some x)) := by
  refine ⟨h.1, fun j y hy => ?_⟩
  by_cases hj : j = n
  · subst hj
    rw [State.member_setMember_self] at hy
    cases hy
    rw [hMinutes, hProjection]
    exact h.2 j m hm
  · rw [s.member_setMember_ne hj] at hy
    exact h.2 j y hy

/-- A service report keeps the plan, whatever visits the walk makes in between (R117, R121). -/
theorem State.service_keepsPlans {n : MemberNo} {m m' : Member} (hm : s.member n = some m)
    (hMinutes : m'.minutes = m.minutes) (hProjection : m'.projection = m.projection) (outcome : Byte) :
    KeepsPlans s (s.service n m' outcome) := by
  let u := (s.setMember n (some m'.evalFull.1)).postAll n.val m'.evalFull.2
  have hWritten : KeepsPlans s u := .of_spl (by simp [u]) fun j hj => by simp [u, hj]
  have hSources (hs : OrderSources s) : OrderSources u :=
    (OrderSources.setMember (x := m'.evalFull.1) hs hm hMinutes hProjection).of_keeps (State.postAll_keeps _ _ _) (by decide)
      (by decide)
  have hRemoved : PlansWithin u ((State.walkVisits u.arbiter.walkVisits u).removeOrderOf n) :=
    (State.walkVisits_plansWithin _).trans (State.removeOrderOf_plansWithin _ n)
  refine (hWritten.trans hSources hRemoved.toKeepsPlans).then_quiet ?_ ?_ ?_ ?_ fun j hj => ?_
  all_goals unfold State.service
  · simp [u, State.requestRerun_spl]
  · simp [u, State.requestRerun_spl]
  · simp [u, State.requestRerun_spl]
  · simp [u, State.requestRerun_spl]
  · simpa [u] using hj

end

/-! ### Every command that reaches the plan -/

/-- The placement reset keeps the plan: each of its stages has bared the slots it has passed (R145). -/
theorem execPlacementReset_plansWithin (s : State) : Leads (PlansWithin s) (execPlacementReset s) := by
  unfold execPlacementReset
  split
  · refine (leads_next _ _).2 ?_
    split
    · exact State.takeBackStep_plansWithin fun k hk => absurd hk (Nat.not_lt_zero _)
    · exact .refl s
  · next next hStage => exact (leads_next _ _).2 (State.takeBackStep_plansWithin fun k hk => by rw [hStage]; exact hk)
  · next next hStage =>
    refine (leads_next _ _).2 (State.copyStep_plansWithin (fun h k o ho => ?_) next)
    exact h.bare k o ho (.inr (.inl ⟨next, hStage⟩))
  all_goals exact (leads_next _ _).2 (.refl s)

theorem execPlanSort_plansWithin (s : State) : Leads (PlansWithin s) (execPlanSort s) := by
  unfold execPlanSort
  split
  · exact (leads_next _ _).2 (.of_planner fun _ hb => hb.elim)
  all_goals exact (leads_next _ _).2 (.refl s)

theorem execOrderPlacement_plansWithin (s : State) : Leads (PlansWithin s) (execOrderPlacement s) := by
  unfold execOrderPlacement
  split
  · next hStage =>
    split
    · exact (leads_next _ _).2 ((State.placeMember_plansWithin (fun j => by rw [hStage]; exact id) _).then_stage fun _ => id)
    · exact (leads_next _ _).2 (.refl s)
  all_goals exact (leads_next _ _).2 (.refl s)

theorem execGanging_plansWithin (s : State) : Leads (PlansWithin s) (execGanging s) := by
  unfold execGanging
  split
  · refine (leads_next _ _).2 ?_
    split
    · exact State.gangStep_plansWithin _
    · exact .refl s
  · exact (leads_next _ _).2 (State.gangStep_plansWithin _)
  · next hStage =>
    exact (leads_next _ _).2 (State.gangRollerStep_plansWithin (fun j => by rw [hStage]; exact id) _ _ _ _)
  all_goals exact (leads_next _ _).2 (.refl s)

/-- A run that starts is in the walk. -/
theorem Planner.start_bares (p : Planner) (k : SlotNo) : ¬ p.start.stage.bares k := id

theorem Planner.finish_bares (p : Planner) (k : SlotNo) : ¬ p.finish.stage.bares k := by
  unfold Planner.finish
  split <;> exact id

theorem Planner.refreshed_bares {p : Planner} {k : SlotNo} (h : p.refreshed.stage.bares k) : p.stage.bares k := by
  unfold Planner.refreshed at h
  split at h
  · exact h
  · split at h
    · exact h
    · exact (p.start_bares k h).elim

/-- The templates of an acceptable load are in range (R132). -/
theorem checkTemplate_figures {r : TemplateRecord} {x : Template} (h : checkTemplate r = some x) : TemplateFigures x := by
  unfold checkTemplate at h
  split at h
  · next hOk =>
    cases h
    simpa [inRange, TemplateFigures, and_assoc] using hOk
  · cases h

theorem checkTemplates_figures {rs : List TemplateRecord} {xs : List Template} (h : checkTemplates rs = some xs) :
    xs.length = rs.length ∧ ∀ x ∈ xs, TemplateFigures x := by
  induction rs generalizing xs with
  | nil =>
    cases h
    exact ⟨rfl, fun _ hx => nomatch hx⟩
  | cons r rs ih =>
    unfold checkTemplates at h
    split at h
    · next y ys hy hys =>
      cases h
      obtain ⟨hLength, hAll⟩ := ih hys
      exact ⟨congrArg (· + 1) hLength, List.forall_mem_cons.2 ⟨checkTemplate_figures hy, hAll⟩⟩
    · cases h

theorem loadedTemplates_figures {count : Byte} {rs : List TemplateRecord} {xs : List Template}
    (h : loadedTemplates count rs = some xs) : xs.length ≤ 16 ∧ ∀ x ∈ xs, TemplateFigures x := by
  unfold loadedTemplates at h
  split at h
  · next hOk =>
    obtain ⟨hLength, hAll⟩ := checkTemplates_figures h
    simp only [inRange, Config.templateCapacity, Bool.and_eq_true, decide_eq_true_eq] at hOk
    obtain ⟨hRange, hRecords⟩ := hOk
    exact ⟨hLength.trans_le (hRecords.trans_le (of_decide_eq_true hRange).2), hAll⟩
  · cases h

theorem leads_keepsPlans_answer (s : State) (k : ReqKind) (st : Status) (d : List Byte) :
    Leads (KeepsPlans s) (.next (s.answer k st d)) := (leads_next _ _).2 ((KeepsPlans.refl s).answer k st d)

/-! ### The requests about windows, the pattern and the run (R126, R127, R132, R134, R138, R139) -/

theorem execWindowAdd_keepsPlans (s : State) (start : BitVec 32) (length : Byte) (capacity : BitVec 16) (mask : BitVec 24) :
    Leads (KeepsPlans s) (execWindowAdd start length capacity mask s) := by
  unfold execWindowAdd
  split
  · exact leads_keepsPlans_answer s _ _ _
  split
  · exact leads_keepsPlans_answer s _ _ _
  split
  · exact leads_keepsPlans_answer s _ _ _
  next hOk _ hRoom =>
  refine (leads_next _ _).2 ((State.listWindow_plansWithin s _ _ _ _ _ (Nat.lt_of_not_le hRoom) fun _ => ?_).answer _ _ _)
  simp only [not_or] at hOk
  obtain ⟨hStart, hLength, hCapacity, hMask⟩ := hOk
  have hLength' : length.toNat ≠ 0 := fun e => hLength (BitVec.eq_of_toNat_eq e)
  have hCapacity' : capacity.toNat ≠ 0 := fun e => hCapacity (BitVec.eq_of_toNat_eq e)
  refine ⟨⟨?_, ?_⟩, ⟨?_, ?_⟩, ⟨?_, ?_⟩, hMask⟩ <;> omega

theorem execWindowRemove_keepsPlans (s : State) (tag : Byte) : Leads (KeepsPlans s) (execWindowRemove tag s) := by
  unfold execWindowRemove
  split
  · exact leads_keepsPlans_answer s _ _ _
  split
  · exact leads_keepsPlans_answer s _ _ _
  split
  · exact leads_keepsPlans_answer s _ _ _
  · next w hw =>
    split
    · exact leads_keepsPlans_answer s _ _ _
    · next hOpen =>
      have hRemoved := s.removeWindow_plansWithin hw hOpen
      exact (leads_next _ _).2 ((hRemoved.trans (State.generate_plansWithin _)).answer _ _ _)

theorem execPatternLoad_keepsPlans (s : State) (count : Byte) (rs : List TemplateRecord) :
    Leads (KeepsPlans s) (execPatternLoad count rs s) := by
  unfold execPatternLoad
  split
  · exact leads_keepsPlans_answer s _ _ _
  split
  · exact leads_keepsPlans_answer s _ _ _
  next xs hLoaded _ =>
  have hSet : KeepsPlans s (s.setGenerator { s.spl.generator with templates := xs, index := 0 }) := by
    refine ⟨id, fun h => h.of_orders rfl fun _ => id, fun _ _ _ h => ?_⟩
    obtain ⟨hOrders, hUsed, hWindows, -⟩ := (planInv_iff s).1 h
    exact (planInv_iff _).2 ⟨hOrders, hUsed, hWindows, loadedTemplates_figures hLoaded⟩
  exact (leads_next _ _).2 (hSet.answer _ _ _)

theorem execPatternControl_keepsPlans (s : State) (enable rotation : Byte) (anchor : BitVec 32) (reset : Byte) :
    Leads (KeepsPlans s) (execPatternControl enable rotation anchor reset s) := by
  unfold execPatternControl
  split
  · split
    · exact leads_keepsPlans_answer s _ _ _
    · next e r x _ _ _ _ =>
      have hControlled : PlansWithin s (s.setGenerator (s.spl.generator.control e r anchor.toNat x)) := .of_generator rfl
      exact (leads_next _ _).2 ((hControlled.trans (State.generate_plansWithin _)).answer _ _ _)
  · exact leads_keepsPlans_answer s _ _ _

theorem execPlanSet_keepsPlans (s : State) (autoPlan : Byte) (horizon gangHorizon : BitVec 16) (fillLevel : Byte) :
    Leads (KeepsPlans s) (execPlanSet autoPlan horizon gangHorizon fillLevel s) := by
  unfold execPlanSet
  split
  · exact leads_keepsPlans_answer s _ _ _
  split
  · exact leads_keepsPlans_answer s _ _ _
  next auto _ _ =>
  have hSet : PlansWithin s (s.setPlanner { s.spl.planner with
    autoPlan := auto, horizon := horizon.toNat, gangHorizon := gangHorizon.toNat, fillLevel := fillLevel.toNat }) :=
    .of_planner fun _ => id
  exact (leads_next _ _).2 ((hSet.trans (State.generate_plansWithin _)).answer _ _ _)

theorem execPlanRun_keepsPlans (s : State) : Leads (KeepsPlans s) (execPlanRun s) := by
  unfold execPlanRun
  split
  · exact leads_keepsPlans_answer s _ _ _
  · have hStarted : PlansWithin s (s.setPlanner s.spl.planner.start) := .of_planner fun k hk => (Planner.start_bares _ k hk).elim
    exact (leads_next _ _).2 (hStarted.answer _ _ _)

/-! ### The order requests, and those that remove an order (R110 to R113, R117) -/

theorem execOrderRaise_keepsPlans (s : State) (member : Byte) (due : BitVec 32) :
    Leads (KeepsPlans s) (execOrderRaise member due s) := by
  unfold execOrderRaise
  split
  · exact leads_keepsPlans_answer s _ _ _
  split
  · exact leads_keepsPlans_answer s _ _ _
  split
  · exact leads_keepsPlans_answer s _ _ _
  next m hm =>
  split
  · exact leads_keepsPlans_answer s _ _ _
  next hNone =>
  split
  · exact leads_keepsPlans_answer s _ _ _
  · next k hk =>
    rw [s.orderOf_eq_map, Option.map_eq_none_iff] at hNone
    exact (leads_next _ _).2 ((State.create_plansWithin hm (s.openOrder_eq_none.1 hNone)
      (fun _ => Nat.le_sub_one_of_lt due.isLt) .host).answer _ _ _)

theorem execOrderStart_keepsPlans (s : State) (member : Byte) : Leads (KeepsPlans s) (execOrderStart member s) := by
  unfold execOrderStart
  split
  · exact leads_keepsPlans_answer s _ _ _
  split
  · exact leads_keepsPlans_answer s _ _ _
  next k o hOpen =>
  split
  · exact leads_keepsPlans_answer s _ _ _
  · exact (leads_next _ _).2 (((State.started_plansWithin (s.openOrder_eq_some hOpen).1).trans
      (State.requestRerun_plansWithin _)).answer _ _ _)

theorem execOrderCancel_keepsPlans (s : State) (member : Byte) : Leads (KeepsPlans s) (execOrderCancel member s) := by
  unfold execOrderCancel
  split
  · exact leads_keepsPlans_answer s _ _ _
  split
  · exact leads_keepsPlans_answer s _ _ _
  next k o hOpen =>
  exact (leads_next _ _).2 (((State.removeOrder_plansWithin (s.openOrder_eq_some hOpen).1).trans
    (State.requestRerun_plansWithin _)).answer _ _ _)

theorem execMemberRetire_keepsPlans (s : State) (member : Byte) : Leads (KeepsPlans s) (execMemberRetire member s) := by
  unfold execMemberRetire
  split
  · exact leads_keepsPlans_answer s _ _ _
  split
  · exact leads_keepsPlans_answer s _ _ _
  · exact (leads_next _ _).2 ((State.retired_keepsPlans _).answer _ _ _)

theorem execServiceDoneReplaced_keepsPlans (s : State) (member : Byte) (l : Option (BitVec 40)) :
    Leads (KeepsPlans s) (execServiceDoneReplaced member l s) := by
  unfold execServiceDoneReplaced
  split
  · exact leads_keepsPlans_answer s _ _ _
  split
  · exact leads_keepsPlans_answer s _ _ _
  split
  · exact leads_keepsPlans_answer s _ _ _
  next m hm =>
  split
  · exact leads_keepsPlans_answer s _ _ _
  · exact (leads_next _ _).2 (State.service_keepsPlans (m' := m.replaced s.etm.epoch) hm rfl rfl 1)

theorem execServiceDoneInspected_keepsPlans (s : State) (member : Byte) (l : Option (BitVec 40)) :
    Leads (KeepsPlans s) (execServiceDoneInspected member l s) := by
  unfold execServiceDoneInspected
  split
  · exact leads_keepsPlans_answer s _ _ _
  split
  · exact leads_keepsPlans_answer s _ _ _
  split
  · exact leads_keepsPlans_answer s _ _ _
  next m hm =>
  split
  · exact leads_keepsPlans_answer s _ _ _
  split
  · exact leads_keepsPlans_answer s _ _ _
  · have hKept : (m.inspected l).minutes = m.minutes ∧ (m.inspected l).projection = m.projection := by
      cases l <;> exact ⟨rfl, rfl⟩
    exact (leads_next _ _).2 (State.service_keepsPlans hm hKept.1 hKept.2 _)

/-! ### EPOCH_SET and the events of the link (R96, R162, R165, R174) -/

theorem execEpochSet_keepsPlans (s : State) (r : EpochRecord) : Leads (KeepsPlans s) (execEpochSet r s) := by
  unfold execEpochSet
  split
  · exact leads_keepsPlans_answer s _ _ _
  split
  · exact (leads_next _ _).2 ((s.replaceSettings_keepsPlans _).answer _ _ _)
  · exact (leads_next _ _).2 (.of_spl rfl fun _ => id)

theorem execCharacterReceived_keepsPlans (s : State) (start : StartBit) (c : Character) (stop : Bool) :
    Leads (KeepsPlans s) (execCharacterReceived start c stop s) := by
  refine (leads_next _ _).2 ?_
  obtain h | h := s.receive_cases start (lineBits c.data c.mark stop)
  · rw [h]
    exact .of_reset rfl
  · exact (LeavesPlan.of_keeps h (by decide) (by decide)).keepsPlans

theorem execReplyEnd_keepsPlans (s : State) : Leads (KeepsPlans s) (execReplyEnd s) := by
  refine (leads_next _ _).2 ?_
  split
  · dsimp only
    split
    · exact .of_reset rfl
    · exact .of_spl rfl fun _ => id
  · exact .refl s
  · exact .refl s

/-! ### Every command and every step -/

/-- A command keeps the plan in order, or leaves it empty at a reset. -/
theorem exec_keepsPlans (s : State) (i : Instr) : Leads (KeepsPlans s) (exec i s) := by
  have hWithin {o : Host.Outcome State Fault Refusal} (h : Leads (PlansWithin s) o) : Leads (KeepsPlans s) o :=
    h.mono fun _ ht => ht.toKeepsPlans
  cases hi : i.reachesPlan with
  | false => exact (exec_leavesPlan s hi).mono fun _ ht => ht.keepsPlans
  | true =>
    cases i
    case coldReset straps => exact (leads_next _ _).2 (.of_reset rfl)
    case restartAll via =>
      cases via with
      | addressed => exact (leads_next _ _).2 (.of_spl rfl fun _ => id)
      | broadcast => exact (leads_next _ _).2 (.of_reset rfl)
    case characterReceived start c stop => exact execCharacterReceived_keepsPlans s start c stop
    case replyEnd => exact execReplyEnd_keepsPlans s
    case localBoundary | graceDeadline =>
      refine (leads_next _ _).2 ?_
      split
      · exact s.takeNext_keepsPlans _ _
      · exact .refl s
    case epochSet r => exact execEpochSet_keepsPlans s r
    case epochMark via number =>
      exact (leads_next _ _).2 ((s.takeMark_keepsPlans number).then_spl (State.answerVia_spl _ via _ _ _) fun n hn => by
        rwa [State.isSome_answerVia])
    case projectionsRefreshed =>
      refine (leads_next _ _).2 ?_
      have hSettled : KeepsPlans s s.settle := .of_spl s.settle_spl fun n hn => (s.isSome_settle n).trans hn
      split
      · exact .of_quiet (by simp) (by simp) (by simp) (fun k hk => Planner.refreshed_bares (by simpa using hk)) (by simp)
      · exact hSettled
    case planMemberWalk => exact (leads_next _ _).2 s.walkCommand_plansWithin.toKeepsPlans
    case placementReset => exact hWithin (execPlacementReset_plansWithin s)
    case planSort => exact hWithin (execPlanSort_plansWithin s)
    case orderPlacement => exact hWithin (execOrderPlacement_plansWithin s)
    case ganging => exact hWithin (execGanging_plansWithin s)
    case planDone =>
      refine (leads_next _ _).2 ?_
      split
      · have hFinished : PlansWithin s (s.setPlanner s.spl.planner.finish) :=
          .of_planner fun k hk => (Planner.finish_bares _ k hk).elim
        exact (hFinished.post _ _ _).toKeepsPlans
      · exact .refl s
    case restartPlan via =>
      exact (leads_next _ _).2 ((restartPlan_keepsPlans s).then_spl (State.answerVia_spl _ via _ _ _) fun n hn => by
        rwa [State.isSome_answerVia])
    case memberRetire member => exact execMemberRetire_keepsPlans s member
    case serviceDoneReplaced member l => exact execServiceDoneReplaced_keepsPlans s member l
    case serviceDoneInspected member l => exact execServiceDoneInspected_keepsPlans s member l
    case planSet a h g f => exact execPlanSet_keepsPlans s a h g f
    case planRun => exact execPlanRun_keepsPlans s
    case windowAdd st l c m => exact execWindowAdd_keepsPlans s st l c m
    case windowRemove tag => exact execWindowRemove_keepsPlans s tag
    case patternLoad c rs => exact execPatternLoad_keepsPlans s c rs
    case patternControl e r a x => exact execPatternControl_keepsPlans s e r a x
    case orderRaise member due => exact execOrderRaise_keepsPlans s member due
    case orderStart member => exact execOrderStart_keepsPlans s member
    case orderCancel member => exact execOrderCancel_keepsPlans s member
    all_goals cases hi

/-- A frame served is a command, or an answer that leaves the plan alone. -/
theorem serveFrame_keepsPlans (f : Frame) (s : State) : Leads (KeepsPlans s) (serveFrame f s) := by
  have hAnswer : ∀ st, KeepsPlans s (s.answerFrame f st) := fun st => by
    unfold State.answerFrame
    split <;> exact .of_spl rfl fun _ => id
  unfold serveFrame
  split
  · exact exec_keepsPlans s _
  · exact (leads_next _ _).2 (hAnswer _)
  · exact (leads_next _ _).2 (hAnswer _)

theorem step_keepsPlans (s : State) : Leads (KeepsPlans s) (step s) := by
  unfold step
  split
  · next c rest _ =>
    have hTaken : KeepsPlans s { s with pending := rest } := .of_spl rfl fun _ => id
    exact (exec_keepsPlans { s with pending := rest } c).mono fun _ ht => hTaken.trans id ht
  · unfold idle
    split
    · exact serveFrame_keepsPlans _ s
    · exact (leads_next _ _).2 (.refl s)

/-- Settles O53: every step keeps the plan in order (`step_keepsPlans`), command by command; new orders take figures in range
from a member table in order. -/
theorem planKept : Obligations.PlanKept := by
  unfold Obligations.PlanKept
  refine ⟨fun s t hw ho h => ?_, fun s t hm hw ho hp h => ?_⟩
  · obtain ⟨hWindows, hOrders, -⟩ := step_keepsPlans s t h
    exact ⟨hWindows hw, hOrders ho⟩
  · exact (step_keepsPlans s t h).plan hm.orderSources hw ho hp

end Sys2Proof.Machine
end

section
/-! SUPPORT. The placement stage (R147, R148): O51. -/

namespace Sys2Proof.Machine

/-! ### The window an order goes to -/

/-- The latest start, the nearest the head among equals: every window ahead starts earlier, and none behind starts later. -/
theorem latest_of_split {w : MaintWindow} {front back : List MaintWindow} (hFront : ∀ x ∈ front, x.start < w.start)
    (hBack : ∀ x ∈ back, x.start ≤ w.start) : latest (front ++ w :: back) = some w := by
  induction front with
  | nil =>
    rw [List.nil_append, latest]
    split
    · next x hx => rw [if_neg (Nat.not_lt.2 (hBack x (latest_mem hx)))]
    · rfl
  | cons x front ih =>
    obtain ⟨hx, hFront⟩ := List.forall_mem_cons.1 hFront
    rw [List.cons_append, latest, ih hFront]
    exact if_pos hx

/-- The earliest start, the nearest the head among equals. -/
theorem earliest_of_split {w : MaintWindow} {front back : List MaintWindow} (hFront : ∀ x ∈ front, w.start < x.start)
    (hBack : ∀ x ∈ back, w.start ≤ x.start) : earliest (front ++ w :: back) = some w := by
  induction front with
  | nil =>
    rw [List.nil_append, earliest]
    split
    · next x hx => rw [if_neg (Nat.not_lt.2 (hBack x (earliest_mem hx)))]
    · rfl
  | cons x front ih =>
    obtain ⟨hx, hFront⟩ := List.forall_mem_cons.1 hFront
    rw [List.cons_append, earliest, ih hFront]
    exact if_pos hx

/-- A list under a filter that one of its windows passes, split at that window. -/
theorem filter_split {p : MaintWindow → Bool} {w : MaintWindow} (h : p w = true) (front back : List MaintWindow) :
    (front ++ w :: back).filter p = front.filter p ++ w :: back.filter p := by
  rw [List.filter_append, List.filter_cons_of_pos h]

section

variable {s : State} {o : Order} {m : Member} {g : SegNo} {w : MaintWindow} {front back : List MaintWindow}

theorem State.candidates_of_segment (hm : s.member o.member = some m) (hg : m.segment = some g) :
    s.candidates o = s.spl.windows.filter fun x => x.takes g o.minutes := by
  rw [State.candidates, hm, Option.bind_some, hg]

/-- The latest start at or before the due epoch (R147). -/
theorem State.chooseWindow_inTime (hm : s.member o.member = some m) (hg : m.segment = some g)
    (hList : s.spl.windows = front ++ w :: back) (hTakes : CanTake w g o.minutes) (hDue : w.start ≤ o.due)
    (hFront : ∀ x ∈ front, CanTake x g o.minutes → x.start ≤ o.due → x.start < w.start)
    (hBack : ∀ x ∈ back, CanTake x g o.minutes → x.start ≤ o.due → x.start ≤ w.start) :
    s.chooseWindow o = some (w, false) := by
  have hLatest : latest ((s.candidates o).filter fun x => decide (x.start ≤ o.due)) = some w := by
    rw [State.candidates_of_segment hm hg, hList, filter_split ((w.takes_iff g _).2 hTakes),
      filter_split (decide_eq_true hDue)]
    refine latest_of_split (fun x hx => ?_) fun x hx => ?_
    all_goals
      simp only [List.mem_filter, MaintWindow.takes_iff, decide_eq_true_eq] at hx
      obtain ⟨⟨hMem, hCan⟩, hStart⟩ := hx
    · exact hFront x hMem hCan hStart
    · exact hBack x hMem hCan hStart
  rw [State.chooseWindow, hLatest]

/-- With every candidate starting after the due epoch, the earliest start, LATE (R147). -/
theorem State.chooseWindow_late (hm : s.member o.member = some m) (hg : m.segment = some g)
    (hList : s.spl.windows = front ++ w :: back) (hTakes : CanTake w g o.minutes)
    (hAll : ∀ x ∈ s.spl.windows, CanTake x g o.minutes → o.due < x.start)
    (hFront : ∀ x ∈ front, CanTake x g o.minutes → w.start < x.start)
    (hBack : ∀ x ∈ back, CanTake x g o.minutes → w.start ≤ x.start) : s.chooseWindow o = some (w, true) := by
  have hNone : (s.candidates o).filter (fun x => decide (x.start ≤ o.due)) = [] := by
    rw [State.candidates_of_segment hm hg]
    simp only [List.filter_eq_nil_iff, List.mem_filter, MaintWindow.takes_iff, decide_eq_true_eq, Nat.not_le]
    exact fun x hx => hAll x hx.1 hx.2
  have hEarliest : earliest (s.candidates o) = some w := by
    rw [State.candidates_of_segment hm hg, hList, filter_split ((w.takes_iff g _).2 hTakes)]
    refine earliest_of_split (fun x hx => ?_) fun x hx => ?_
    all_goals
      simp only [List.mem_filter, MaintWindow.takes_iff] at hx
      obtain ⟨hMem, hCan⟩ := hx
    · exact hFront x hMem hCan
    · exact hBack x hMem hCan
  rw [State.chooseWindow, hNone, hEarliest]
  rfl

/-- No listed window can take the order (R148). -/
theorem State.chooseWindow_none (h : ∀ m g w, s.member o.member = some m → m.segment = some g → w ∈ s.spl.windows →
    ¬ CanTake w g o.minutes) : s.chooseWindow o = none := by
  have hNone : s.candidates o = [] := List.eq_nil_iff_forall_not_mem.2 fun w hw => by
    obtain ⟨m, g, hm, hg, hMem, hCan⟩ := State.mem_candidates.1 hw
    exact h m g w hm hg hMem hCan
  rw [State.chooseWindow, hNone]
  rfl

end

/-! ### A member's order at its turn -/

section

variable {s : State} {n : MemberNo} {k : SlotNo} {o : Order}

theorem exec_orderPlacement {i : Nat} (hStage : s.spl.planner.stage = .placement i)
    (hList : s.spl.planner.sortList[i]? = some n) :
    exec .orderPlacement s = .next ((s.placeMember n).setStage (.placement (i + 1))) := by
  show execOrderPlacement s = _
  rw [execOrderPlacement, hStage]
  dsimp only
  rw [hList]

theorem State.placeMember_of_noOrder (h : NoOrder s n) : s.placeMember n = s := by
  rw [State.placeMember, s.openOrder_eq_none.2 h]

theorem State.placeMember_passes (h : OrderAt s n k o) (hs : o.state ≠ .proposed) : s.placeMember n = s := by
  simp only [State.placeMember, s.openOrder_of_orderAt h, if_neg hs]

theorem State.placeMember_places (h : OrderAt s n k o) (hs : o.state = .proposed) {w : MaintWindow} {late : Bool}
    (hw : s.chooseWindow o = some (w, late)) : s.placeMember n = s.placeOrder k o w late := by
  simp only [State.placeMember, s.openOrder_of_orderAt h, if_pos hs, hw]

theorem State.placeMember_leaves (h : OrderAt s n k o) (hs : o.state = .proposed) (hw : s.chooseWindow o = none) :
    s.placeMember n = s.leaveUnplaced o := by
  simp only [State.placeMember, s.openOrder_of_orderAt h, if_pos hs, hw]

/-- Placing an order writes its slot, the minutes of its window, and the counts (R147). -/
theorem State.placeOrder_keepsGenerator (s : State) (k : SlotNo) (o : Order) (w : MaintWindow) (late : Bool) :
    KeepsGenerator s (s.placeOrder k o w late) := ⟨rfl, rfl⟩

theorem State.leaveUnplaced_spl (s : State) (o : Order) : (s.leaveUnplaced o).spl = { s.spl with
    planner := { s.spl.planner with
      unplaced := s.spl.planner.unplaced + 1, leftUnplaced := o.member :: s.spl.planner.leftUnplaced } } := by
  unfold State.leaveUnplaced
  dsimp only
  split <;> rfl

/-- DUE_UNPLACED for an order of reason LIMIT, and nothing else (R148). -/
theorem State.leaveUnplaced_posts (s : State) (o : Order) :
    Posts (if o.reason = .limit then [(.dueUnplaced, o.member.val, o.minutes)] else []) s (s.leaveUnplaced o) := by
  unfold State.leaveUnplaced
  dsimp only
  split <;> rfl

theorem State.placeMember_keepsGenerator (s : State) (n : MemberNo) : KeepsGenerator s (s.placeMember n) := by
  unfold State.placeMember
  split
  · exact ⟨rfl, rfl⟩
  · split
    · split
      · exact s.placeOrder_keepsGenerator _ _ _ _
      · rw [KeepsGenerator, s.leaveUnplaced_spl]
        exact ⟨rfl, rfl⟩
    · exact ⟨rfl, rfl⟩

end

/-- Settles O51: the window chosen is the one that the statement describes (`chooseWindow_inTime`, `chooseWindow_late`,
`chooseWindow_none`), and the order is placed there or left. -/
theorem ordersArePlaced : Obligations.OrdersArePlaced := by
  unfold Obligations.OrdersArePlaced
  intro i n s hStage hList p moved
  refine ⟨_, exec_orderPlacement hStage hList, ?_, s.placeMember_keepsGenerator n, fun hPassed => ?_,
    fun k o hAt hs => ⟨?_, fun hNone => ?_⟩⟩
  · exact ((s.placeMember_keeps n).mono (by decide)).trans (by simp [keepsAllBut_iff])
  · have hSame : s.placeMember n = s := by
      obtain hNo | ⟨k, o, hAt, hs⟩ := hPassed
      · exact State.placeMember_of_noOrder hNo
      · exact State.placeMember_passes hAt hs
    rw [hSame]
    exact ⟨⟨rfl, rfl⟩, rfl, .of_eq rfl⟩
  · intro m g w front back hm hg hSplit hTakes placed
    obtain rfl : o.member = n := hAt.2.1
    have hPlaced (late : Bool) (hw : s.chooseWindow o = some (w, late)) : placed late := by
      have hEq := State.placeMember_places hAt hs hw
      dsimp only [placed]
      rw [hEq]
      exact ⟨s.slot_setSlot_self k _, fun j hj => s.slot_setSlot_ne hj _, rfl, rfl, .of_eq rfl⟩
    refine ⟨fun hDue hFront hBack => hPlaced false ?_, fun hAll hFront hBack => hPlaced true ?_⟩
    · exact State.chooseWindow_inTime hm hg hSplit hTakes hDue hFront hBack
    · exact State.chooseWindow_late hm hg hSplit hTakes hAll hFront hBack
  · obtain rfl : o.member = n := hAt.2.1
    rw [State.placeMember_leaves hAt hs (State.chooseWindow_none hNone)]
    have hLeft := s.leaveUnplaced_spl o
    refine ⟨?_, ?_, s.leaveUnplaced_posts o⟩
    · rw [KeepsPlan, State.orders_setStage, State.windows_setStage, hLeft]
      exact ⟨rfl, rfl⟩
    · rw [State.planner_setStage, hLeft]

end Sys2Proof.Machine
end

section
/-! SUPPORT. The ganging stage (R149): O52. -/

namespace Sys2Proof.Machine

/-! ### The BELT orders of the sort list -/

/-- Place `j` of the sort list, at or after place `i`, holds a member that is a BELT. -/
def BeltAt (s : State) (i j : Nat) : Prop :=
  i ≤ j ∧ ∃ n m, s.spl.planner.sortList[j]? = some n ∧ s.member n = some m ∧ m.kind = .belt

section

variable {s : State} {i j : Nat}

/-- What the search for the next BELT asks of a place. -/
theorem beltTest_iff : (decide (i ≤ j) && match s.spl.planner.sortList[j]? with
    | some n => s.isBelt n
    | none => false) = true ↔ BeltAt s i j := by
  unfold BeltAt State.isBelt
  cases s.spl.planner.sortList[j]? with
  | none => simp
  | some n => cases h : s.member n <;> simp [h]

theorem BeltAt.lt (h : BeltAt s i j) : j < s.spl.planner.sortList.length := by
  obtain ⟨-, n, -, hn, -⟩ := h
  exact (List.getElem?_eq_some_iff.1 hn).1

theorem State.nextBelt_of_none (h : ∀ j, ¬ BeltAt s i j) : s.nextBelt i = none :=
  List.find?_range_eq_none.2 fun j _ => by
    rw [Bool.not_eq_true', ← Bool.not_eq_true]
    exact fun hj => h j (beltTest_iff.1 hj)

theorem State.nextBelt_of_first (h : BeltAt s i j) (hFirst : ∀ q, BeltAt s i q → j ≤ q) : s.nextBelt i = some j :=
  List.find?_range_eq_some.2 ⟨beltTest_iff.2 h, List.mem_range.2 h.lt, fun k hk => by
    rw [Bool.not_eq_true', ← Bool.not_eq_true]
    exact fun hj => Nat.not_le.2 hk (hFirst k (beltTest_iff.1 hj))⟩

variable {n : MemberNo} {m : Member} {g : SegNo} {k : SlotNo} {o : Order}

theorem State.beltWindow_of_segment (hm : s.member n = some m) (hg : m.segment = some g) (hAt : OrderAt s n k o) :
    s.beltWindow n = if o.state = .scheduled then o.tag.map fun tag => (g, tag) else none := by
  simp only [State.beltWindow, s.openOrder_of_orderAt hAt, hm, Option.bind_some, hg]

theorem State.beltWindow_none (hm : s.member n = some m) (h : NoOrder s n ∨ m.segment = none) : s.beltWindow n = none := by
  unfold State.beltWindow
  obtain h | h := h
  · rw [s.openOrder_eq_none.2 h]
  · rw [hm, Option.bind_some, h]
    cases s.openOrder n <;> rfl

theorem State.gangStep_of_none (h : ∀ j, ¬ BeltAt s i j) :
    s.gangStep i = s.setStage (.ganging s.spl.planner.sortList.length) := by
  rw [State.gangStep, State.nextBelt_of_none h]

/-- The first BELT order is taken with its window, or passed over. -/
theorem State.gangStep_of_first (h : BeltAt s i j) (hFirst : ∀ q, BeltAt s i q → j ≤ q)
    (hn : s.spl.planner.sortList[j]? = some n) : s.gangStep i = s.setStage (match s.beltWindow n with
      | some (g, tag) => .gangRollers j g tag 0
      | none => .ganging (j + 1)) := by
  rw [State.gangStep, State.nextBelt_of_first h hFirst]
  dsimp only
  rw [hn, Option.bind_some]
  cases s.beltWindow n <;> rfl

/-- The stage does not bear on which BELT comes next, nor on its window. -/
theorem State.gangStep_setStage (s : State) (st : Stage) (i : Nat) : (s.setStage st).gangStep i = s.gangStep i := rfl

theorem exec_ganging (h : s.spl.planner.stage = .ganging i
    ∨ ((∃ j, s.spl.planner.stage = .placement j ∧ s.spl.planner.sortList.length ≤ j) ∧ 0 < s.spl.planner.runGangHorizon
      ∧ i = 0)) : exec .ganging s = .next (s.gangStep i) := by
  show execGanging s = _
  unfold execGanging
  obtain hStage | ⟨⟨j, hStage, hDone⟩, hHorizon, rfl⟩ := h
  · rw [hStage]
  · have hBegins : s.spl.planner.gangingBegins j = true := by simp [Planner.gangingBegins, hDone, hHorizon]
    rw [hStage]
    dsimp only
    rw [if_pos hBegins]

theorem exec_ganging_rollers {tag : Nat} (h : s.spl.planner.stage = .gangRollers j g tag i) :
    exec .ganging s = .next (s.gangRollerStep j g tag i) := by
  show execGanging s = _
  rw [execGanging, h]

end

/-! ### One roller order against the belt's window -/

section

variable {s : State} {n : MemberNo} {k : SlotNo} {o : Order} {w : MaintWindow}

theorem State.windowOf_eq_none {tag : Nat} (h : ∀ w ∈ s.spl.windows, w.tag ≠ tag) : s.windowOf tag = none :=
  List.find?_eq_none.2 fun w hw => by simpa using h w hw

theorem State.windowOf_of_mem (h : WindowInv s) (hw : w ∈ s.spl.windows) : s.windowOf w.tag = some w := by
  obtain ⟨x, hx⟩ := Option.isSome_iff_exists.1
    (List.find?_isSome (p := fun x : MaintWindow => decide (x.tag = w.tag)) |>.2 ⟨w, hw, decide_eq_true rfl⟩)
  obtain ⟨hMem, hTag⟩ := State.windowOf_eq_some hx
  exact hx.trans (congrArg some (h.eq_of_tag hMem hw hTag))

theorem State.gangMember_of_unlisted {tag : Nat} (h : ∀ w ∈ s.spl.windows, w.tag ≠ tag) (n : MemberNo) :
    State.gangMember tag s n = s := by
  unfold State.gangMember
  rw [State.windowOf_eq_none h]
  cases s.openOrder n <;> rfl

theorem State.gangMember_of_orderAt (h : WindowInv s) (hAt : OrderAt s n k o) (hw : w ∈ s.spl.windows) :
    State.gangMember w.tag s n = if s.gangs o w then s.gangOrder k o w else s := by
  simp only [State.gangMember, s.openOrder_of_orderAt hAt, State.windowOf_of_mem h hw]

/-- With distinct tags, the window an order names is the listed one with its tag. -/
theorem State.bind_windowOf_iff (h : WindowInv s) (x : MaintWindow) :
    o.tag.bind s.windowOf = some x ↔ x ∈ s.spl.windows ∧ o.tag = some x.tag := by
  rw [Option.bind_eq_some_iff]
  constructor
  · rintro ⟨tag, hTag, hx⟩
    obtain ⟨hMem, rfl⟩ := State.windowOf_eq_some hx
    exact ⟨hMem, hTag⟩
  · rintro ⟨hMem, hTag⟩
    exact ⟨_, hTag, State.windowOf_of_mem h hMem⟩

/-- The run counts after a move (R149). -/
theorem Planner.countMove_eq (p : Planner) (o : Order) (late : Bool) : p.countMove o late = { p with
    late := p.late + late.toNat - o.late.toNat
    placed := if o.state = .proposed then p.placed + 1 else p.placed
    unplaced := if o.state = .proposed then p.unplaced - 1 else p.unplaced
    leftUnplaced := if o.state = .proposed then p.leftUnplaced.erase o.member else p.leftUnplaced } := by
  unfold Planner.countMove
  by_cases h : o.state = .proposed
  · simp only [if_pos h]
  · simp only [if_neg h]

end

/-- Settles O52: the search for the next BELT or roller finds the one that the statement describes, and a roller's order moves
exactly where `State.gangs_iff` says. -/
theorem rollersAreGanged : Obligations.RollersAreGanged := by
  unfold Obligations.RollersAreGanged
  refine ⟨?_, fun j g tag i s hStage => ⟨fun hNone => ?_, ?_⟩, ?_⟩
  · intro i s p staged hStage belt
    have hExec : exec .ganging s = .next (s.gangStep i) := exec_ganging hStage
    refine ⟨fun hNone => ?_, fun j n m hBelt hFirst hn hm hPassed => ?_,
      fun j n m g k o hBelt hFirst hn hm hg hAt => ⟨fun hs => ?_, fun tag hs hTag => ?_⟩⟩
    · rw [hExec, State.gangStep_of_none hNone]
      rfl
    all_goals rw [hExec, State.gangStep_of_first hBelt hFirst hn]
    · rw [State.beltWindow_none hm hPassed]
      rfl
    · rw [State.beltWindow_of_segment hm hg hAt, if_neg hs]
      rfl
    · rw [State.beltWindow_of_segment hm hg hAt, if_pos hs, hTag]
      rfl
  · have hGanging : exec .ganging (s.setStage (.ganging (j + 1))) = .next (s.gangStep (j + 1)) := by
      rw [← s.gangStep_setStage (.ganging (j + 1))]
      exact exec_ganging (.inl rfl)
    rw [exec_ganging_rollers hStage, State.gangRollerStep, s.nextRoller_eq_none.2 hNone]
    exact hGanging.symm
  · intro r hr hRoller hFirst u
    have hNext : s.nextRoller g i = some r := s.nextRoller_eq_some.2 ⟨⟨hr, hRoller⟩, fun q hq => hFirst q hq.1 hq.2⟩
    refine ⟨?_, fun hw => State.gangMember_of_unlisted hw r⟩
    rw [exec_ganging_rollers hStage, State.gangRollerStep, hNext]
    rfl
  · intro n k o w s hInv hAt hw p t moves late
    obtain rfl : o.member = n := hAt.2.1
    have hMoves : s.gangs o w = true ↔ moves := by
      simp only [moves, State.gangs_iff, State.bind_windowOf_iff hInv, and_assoc]
      rfl
    have hMember : t = if s.gangs o w then s.gangOrder k o w else s := State.gangMember_of_orderAt hInv hAt hw
    refine ⟨fun hNot => hMember.trans (if_neg (mt hMoves.1 hNot)), fun hMove => ?_⟩
    rw [hMember, if_pos (hMoves.2 hMove)]
    have hSpl := s.gangOrder_spl k o w
    refine ⟨s.gangOrder_keeps k o w, ⟨by rw [hSpl], by rw [hSpl]⟩, fun j hj => ?_, ?_, by rw [hSpl], ?_⟩
    · exact (s.slot_gangOrder k o w j).trans (s.slot_setSlot_ne hj _)
    · exact (s.slot_gangOrder k o w k).trans (s.slot_setSlot_self k _)
    · rw [hSpl]
      exact Planner.countMove_eq _ _ _

end Sys2Proof.Machine
end

section
/-! SUPPORT. The order requests (R106, R109 to R112, R120): O41. -/

namespace Sys2Proof.Machine

/-- The codes that name an order's reason and state on the line (11 section 11.6). -/
theorem Reason.code_byte (r : Reason) :
    be 1 r.code = [match r with | .projected => 1 | .warn => 2 | .limit => 3 | .host => 4] := by
  cases r <;> rfl

theorem OrderState.code_byte (st : OrderState) :
    be 1 st.code = [match st with | .proposed => 1 | .scheduled => 2 | .released => 3 | .inWork => 4] := by
  cases st <;> rfl

/-- LATE is bit 0 of an order's flag byte, GANGED bit 1. -/
theorem orderFlags_byte (late ganged : Bool) : BitVec.ofNat 8 (late.toNat + 2 * ganged.toNat)
    = ((if late then 1 else 0) + (if ganged then 2 else 0) : Byte) := by
  cases late <;> cases ganged <;> rfl

/-- The order record, as section 11.6 lays it out. -/
theorem Order.bytes_eq (o : Order) : o.bytes = be 1 o.member.val
      ++ [(match o.reason with | .projected => 1 | .warn => 2 | .limit => 3 | .host => 4 : Byte)]
      ++ [(match o.state with | .proposed => 1 | .scheduled => 2 | .released => 3 | .inWork => 4 : Byte)]
      ++ [((if o.late then 1 else 0) + (if o.ganged then 2 else 0) : Byte)] ++ be 4 o.due
      ++ be 1 (match o.tag with | none => 0 | some tag => tag) ++ be 2 o.minutes ++ be 1 o.missed ++ be 4 o.created := by
  have hTag : o.tag.getD 0 = match o.tag with | none => 0 | some tag => tag := getD_zero_eq o.tag
  rw [Order.bytes, Reason.code_byte, OrderState.code_byte, orderFlags_byte, hTag]

section

variable {s : State} {member : Byte} {n : MemberNo} {k : SlotNo} {o : Order}

/-- The lowest-numbered empty slot (R110). -/
theorem State.emptySlot_of_first (hk : s.slot k = none) (hFirst : ∀ j, j < k → (s.slot j).isSome) :
    s.emptySlot = some k :=
  find?_finRange_eq_some.2 ⟨by rw [hk]; rfl, fun j hj => not_lt.1 fun hlt => by
    have hSome := hFirst j hlt
    simp only [Option.isNone_iff_eq_none] at hj
    rw [hj] at hSome
    cases hSome⟩

/-! ### ORDER_RAISE (R106, R110) -/

variable {due : BitVec 32}

theorem exec_orderRaise_badValue (s : State) (due : BitVec 32) (h : 191 < member.toNat) :
    exec (.orderRaise member due) s = .next (s.answer .orderRaise .badValue []) := by
  show execOrderRaise member due s = _
  simp only [execOrderRaise, memberOf_eq_none.2 h]

theorem exec_orderRaise_busy (hn : member.toNat = n.val) (hStage : s.spl.planner.stage ≠ .idle) :
    exec (.orderRaise member due) s = .next (s.answer .orderRaise .busy []) := by
  show execOrderRaise member due s = _
  simp only [execOrderRaise, memberOf_eq_some.2 hn, if_pos ((Planner.running_iff _).2 hStage)]

/-- With no run in flight the request comes to its other checks. -/
theorem Planner.not_running {p : Planner} (h : p.stage = .idle) : ¬ p.running = true := mt p.running_iff.1 (not_not.2 h)

theorem exec_orderRaise_noSuch (hn : member.toNat = n.val) (hStage : s.spl.planner.stage = .idle) (hm : s.member n = none) :
    exec (.orderRaise member due) s = .next (s.answer .orderRaise .noSuch []) := by
  show execOrderRaise member due s = _
  simp only [execOrderRaise, memberOf_eq_some.2 hn, if_neg (Planner.not_running hStage), hm]

variable {m : Member}

theorem exec_orderRaise_conflict (hn : member.toNat = n.val) (hStage : s.spl.planner.stage = .idle)
    (hm : s.member n = some m) (hAt : OrderAt s n k o) :
    exec (.orderRaise member due) s = .next (s.answer .orderRaise .conflict (be 1 o.state.code ++ be 1 o.reason.code)) := by
  show execOrderRaise member due s = _
  simp only [execOrderRaise, memberOf_eq_some.2 hn, if_neg (Planner.not_running hStage), hm, s.orderOf_of_orderAt hAt]

theorem exec_orderRaise_noRoom (hn : member.toNat = n.val) (hStage : s.spl.planner.stage = .idle)
    (hm : s.member n = some m) (hNone : NoOrder s n) (hFull : ∀ k, (s.slot k).isSome) :
    exec (.orderRaise member due) s = .next (s.answer .orderRaise .noRoom []) := by
  show execOrderRaise member due s = _
  simp only [execOrderRaise, memberOf_eq_some.2 hn, if_neg (Planner.not_running hStage), hm, s.orderOf_of_noOrder hNone,
    s.emptySlot_eq_none.2 hFull]

theorem exec_orderRaise_ok (hn : member.toNat = n.val) (hStage : s.spl.planner.stage = .idle)
    (hm : s.member n = some m) (hNone : NoOrder s n) (hk : s.slot k = none) (hFirst : ∀ j, j < k → (s.slot j).isSome) :
    exec (.orderRaise member due) s = .next ((s.setSlot k (some (newOrder n .host due.toNat m.minutes s.etm.epoch))).answer
      .orderRaise .ok (be 1 k.val ++ (newOrder n .host due.toNat m.minutes s.etm.epoch).bytes)) := by
  show execOrderRaise member due s = _
  simp only [execOrderRaise, memberOf_eq_some.2 hn, if_neg (Planner.not_running hStage), hm, s.orderOf_of_noOrder hNone,
    State.emptySlot_of_first hk hFirst]

/-! ### ORDER_START (R109, R111, R120) -/

theorem exec_orderStart_badValue (s : State) (h : 191 < member.toNat) :
    exec (.orderStart member) s = .next (s.answer .orderStart .badValue []) := by
  show execOrderStart member s = _
  simp only [execOrderStart, memberOf_eq_none.2 h]

theorem exec_orderStart_noSuch (hn : member.toNat = n.val) (hNone : NoOrder s n) :
    exec (.orderStart member) s = .next (s.answer .orderStart .noSuch []) := by
  show execOrderStart member s = _
  simp only [execOrderStart, memberOf_eq_some.2 hn, s.openOrder_eq_none.2 hNone]

theorem exec_orderStart_conflict (hn : member.toNat = n.val) (hAt : OrderAt s n k o) (hs : o.state = .inWork) :
    exec (.orderStart member) s = .next (s.answer .orderStart .conflict []) := by
  show execOrderStart member s = _
  simp only [execOrderStart, memberOf_eq_some.2 hn, s.openOrder_of_orderAt hAt, if_pos hs]

theorem exec_orderStart_ok (hn : member.toNat = n.val) (hAt : OrderAt s n k o) (hs : o.state ≠ .inWork) :
    exec (.orderStart member) s = .next ((s.started k o).requestRerun.answer .orderStart .ok
      (({ o with state := .inWork, tag := none } : Order).bytes ++ optFigure 1 o.tag)) := by
  show execOrderStart member s = _
  simp only [execOrderStart, memberOf_eq_some.2 hn, s.openOrder_of_orderAt hAt, if_neg hs]
  rfl

/-! ### ORDER_CANCEL (R112, R120) -/

theorem exec_orderCancel_badValue (s : State) (h : 191 < member.toNat) :
    exec (.orderCancel member) s = .next (s.answer .orderCancel .badValue []) := by
  show execOrderCancel member s = _
  simp only [execOrderCancel, memberOf_eq_none.2 h]

theorem exec_orderCancel_noSuch (hn : member.toNat = n.val) (hNone : NoOrder s n) :
    exec (.orderCancel member) s = .next (s.answer .orderCancel .noSuch []) := by
  show execOrderCancel member s = _
  simp only [execOrderCancel, memberOf_eq_some.2 hn, s.openOrder_eq_none.2 hNone]

theorem exec_orderCancel_ok (hn : member.toNat = n.val) (hAt : OrderAt s n k o) :
    exec (.orderCancel member) s = .next ((s.removeOrder k o).requestRerun.answer .orderCancel .ok
      (be 1 k.val ++ o.bytes)) := by
  show execOrderCancel member s = _
  simp only [execOrderCancel, memberOf_eq_some.2 hn, s.openOrder_of_orderAt hAt]

end

/-- Settles O41: each check by its own answer; then the order is created, started or removed, and a rerun asked for. -/
theorem orderRequests : Obligations.OrderRequests := by
  unfold Obligations.OrderRequests
  refine ⟨Order.bytes_eq, ?_, fun member s => ⟨fun h => ⟨?_, ?_⟩, fun n hn => ⟨fun hNone => ⟨?_, ?_⟩, fun k o hAt =>
    ⟨fun hs => ?_, fun hs => ?_, ?_⟩⟩⟩⟩
  · intro member due s i
    refine ⟨fun h => ⟨_, exec_orderRaise_badValue s due h, refuses_answer s .orderRaise _ _⟩, fun n hn => ⟨fun hs =>
      ⟨_, exec_orderRaise_busy hn hs, refuses_answer s .orderRaise _ _⟩, fun hs hm => ⟨_, exec_orderRaise_noSuch hn hs hm,
      refuses_answer s .orderRaise _ _⟩, fun m hs hm => ⟨fun k o hAt => ⟨_, exec_orderRaise_conflict hn hs hm hAt,
      refuses_answer s .orderRaise _ _⟩, fun hNone hFull => ⟨_, exec_orderRaise_noRoom hn hs hm hNone hFull,
      refuses_answer s .orderRaise _ _⟩, ?_⟩⟩⟩
    intro k hNone hk hFirst o
    refine ⟨_, exec_orderRaise_ok hn hs hm hNone hk hFirst, answers_of_keeps s (k := .orderRaise)
      (by simp [keepsAllBut_iff]) rfl rfl, s.slot_setSlot_self k _, fun j hj => s.slot_setSlot_ne hj _, ⟨rfl, rfl⟩, rfl, rfl⟩
  · exact ⟨_, exec_orderStart_badValue s h, refuses_answer s .orderStart _ _⟩
  · exact ⟨_, exec_orderCancel_badValue s h, refuses_answer s .orderCancel _ _⟩
  · exact ⟨_, exec_orderStart_noSuch hn hNone, refuses_answer s .orderStart _ _⟩
  · exact ⟨_, exec_orderCancel_noSuch hn hNone, refuses_answer s .orderCancel _ _⟩
  · exact ⟨_, exec_orderStart_conflict hn hAt hs, refuses_answer s .orderStart _ _⟩
  · let u := s.started k o
    have hSpl : u.spl = _ := s.started_spl k o
    have hKeeps := (s.started_keeps k o).trans u.requestRerun_keeps
    have hSlot : ∀ j, (u.requestRerun.answer .orderStart .ok (({ o with state := .inWork, tag := none } : Order).bytes
        ++ optFigure 1 o.tag)).slot j = u.slot j := State.slot_of_orders (KeepsPlan.of_requestRerun rfl).1
    exact ⟨_, exec_orderStart_ok hn hAt hs,
      answers_of_keeps s (k := .orderStart) hKeeps (hKeeps.1 .lnk (by decide)) (hKeeps.1 .rqd (by decide)),
      (hSlot k).trans (s.slot_started_self k o), fun j hj => (hSlot j).trans (s.started_keepsOthers k o j hj),
      (KeepsPlan.of_requestRerun rfl).2.trans (by rw [hSpl]),
      .of_requestRerun rfl (by rw [hSpl]) (by rw [hSpl]) (by rw [hSpl])⟩
  · let u := s.removeOrder k o
    have hSpl : u.spl = _ := s.removeOrder_spl k o
    have hKeeps := (s.removeOrder_keeps k o).trans u.requestRerun_keeps
    exact ⟨_, exec_orderCancel_ok hn hAt,
      answers_of_keeps s (k := .orderCancel) hKeeps (hKeeps.1 .lnk (by decide)) (hKeeps.1 .rqd (by decide)),
      (s.removeOrder_removed k o).of_keepsPlan (.of_requestRerun rfl),
      .of_requestRerun rfl (by rw [hSpl]) (by rw [hSpl]) (by rw [hSpl])⟩

end Sys2Proof.Machine
end

section
/-! SUPPORT. The requests that read (R118, R119, R128, R133, R169, R176): O42. -/

namespace Sys2Proof

/-- The codes of section 11.6 are those of the requests (R169, step 1). -/
theorem ReqKind.ofCode_eq_none {kind : Byte} : ReqKind.ofCode kind = none ↔ ∀ k : ReqKind, k.code ≠ kind := by
  have hAll (k : ReqKind) : k ∈ ReqKind.all := by cases k <;> decide
  rw [ReqKind.ofCode, List.find?_eq_none]
  exact ⟨fun h k => by simpa using h k (hAll k), fun h k _ => by simpa using h k⟩

end Sys2Proof

namespace Sys2Proof.Machine

/-! ### Records of one length, one after another -/

section

variable {α β : Type} {f : α → List β} {n : Nat}

theorem length_flatMap_blocks (h : ∀ a, (f a).length = n) (l : List α) : (l.flatMap f).length = n * l.length := by
  induction l with
  | nil => rfl
  | cons a l ih => rw [List.flatMap_cons, List.length_append, h, ih, List.length_cons, Nat.mul_succ, Nat.add_comm]

/-- The block of place `j` in a list of blocks of one length. -/
theorem block_flatMap (h : ∀ a, (f a).length = n) {l : List α} {j : Nat} {a : α} (hj : l[j]? = some a) :
    ((l.flatMap f).drop (n * j)).take n = f a := by
  induction l generalizing j with
  | nil => cases hj
  | cons b l ih =>
    rw [List.flatMap_cons]
    cases j with
    | zero =>
      cases hj
      rw [Nat.mul_zero, List.drop_zero, List.take_left' (h a)]
    | succ j =>
      have hSkip : n * (j + 1) = (f b).length + n * j := by rw [h, Nat.mul_succ, Nat.add_comm]
      rw [hSkip, List.drop_length_add_append]
      exact ih hj

end

/-! ### The data of the reads -/

theorem Order.length_bytes (o : Order) : o.bytes.length = 16 := by simp [Order.bytes]

theorem length_slotBytes (o : Option Order) : (slotBytes o).length = 17 := by
  cases o with
  | none => rfl
  | some o => rw [slotBytes, List.length_cons, o.length_bytes]

theorem WindowSource.code_byte (x : WindowSource) : be 1 x.code = [match x with | .host => 1 | .pattern => 2] := by
  cases x <;> rfl

theorem WindowState.code_byte (x : WindowState) : be 1 x.code = [match x with | .opened => 1 | .active => 2] := by
  cases x <;> rfl

theorem GenState.code_byte (x : GenState) : be 1 x.code = [match x with | .idle => 0 | .running => 1 | .stopped => 2] := by
  cases x <;> rfl

section

variable (s : State)

/-- The slots of a page of ORDER_LIST (R119). -/
def pageSlots (page : Nat) : List SlotNo := (allSlots.drop (8 * page)).take 8

theorem length_pageSlots {page : Nat} (h : page ≤ 5) : (pageSlots page).length = 8 := by
  simp only [pageSlots, allSlots, List.length_take, List.length_drop, List.length_finRange]
  omega

theorem pageSlots_getElem? {page : Nat} {j : Fin 8} {k : SlotNo} (h : k.val = 8 * page + j.val) :
    (pageSlots page)[j.val]? = some k := by
  rw [pageSlots, List.getElem?_take_of_lt j.isLt, List.getElem?_drop, ← h, allSlots, List.getElem?_eq_getElem (by simp)]
  simp

theorem State.orderPage_eq (page : Nat) : s.orderPage page
    = BitVec.ofNat 8 s.orderCount :: (pageSlots page).flatMap fun k => slotBytes (s.slot k) := by
  rw [State.orderPage, be_one]
  rfl

theorem State.length_orderPage {page : Nat} (h : page ≤ 5) : (s.orderPage page).length = 137 := by
  rw [s.orderPage_eq, List.length_cons, length_flatMap_blocks fun k => length_slotBytes (s.slot k), length_pageSlots h]

/-- Place `j` of a page holds the record of slot `8 * page + j` (R119). -/
theorem State.orderPage_block {page : Nat} {j : Fin 8} {k : SlotNo} (h : k.val = 8 * page + j.val) :
    ((s.orderPage page).drop (1 + 17 * j.val)).take 17 = slotBytes (s.slot k) := by
  rw [s.orderPage_eq, Nat.add_comm, List.drop_succ_cons]
  exact block_flatMap (fun k => length_slotBytes (s.slot k)) (pageSlots_getElem? h)

/-- The orders naming a window, counted over the slots (R128). -/
theorem State.ordersNaming_eq (tag : Nat) : s.ordersNaming tag = allSlots.countP fun k => match s.slot k with
    | some o => o.tag = some tag
    | none => false := List.countP_eq_length_filter.symm

theorem State.identData_eq : s.identData
    = [0xE0, 0x24, 0x01, s.lnk.address, 32, 24, 192, 0x01, 0x80, 32, 64, 48, 8, 16, 32] := rfl

theorem Generator.bytes_eq (x : Generator) : x.bytes
    = [(match x.state with | .idle => 0 | .running => 1 | .stopped => 2 : Byte)] ++ [if x.rotation then 1 else 0]
      ++ be 4 x.anchor ++ be 1 x.index ++ be 4 x.lastStart ++ be 1 x.templates.length := by
  rw [Generator.bytes, GenState.code_byte]
  rfl

theorem MaintWindow.bytes_eq (w : MaintWindow) : w.bytes = be 1 w.tag ++ be 4 w.start ++ be 1 w.length ++ be 2 w.capacity
    ++ be 2 w.used ++ be 3 w.mask.toNat ++ [(match w.source with | .host => 1 | .pattern => 2 : Byte)]
    ++ [(match w.state with | .opened => 1 | .active => 2 : Byte)] := by
  rw [MaintWindow.bytes, WindowSource.code_byte, WindowState.code_byte]

/-- The window list, each window with the number of orders that name it (R128). -/
theorem State.windowListData_eq : s.windowListData
    = be 1 s.spl.windows.length ++ be 1 s.spl.lastTag ++ be 1 s.spl.planner.fillLevel
      ++ s.spl.windows.flatMap fun w => be 1 w.tag ++ be 4 w.start ++ be 1 w.length ++ be 2 w.capacity ++ be 2 w.used
        ++ be 3 w.mask.toNat ++ [(match w.source with | .host => 1 | .pattern => 2 : Byte)]
        ++ [(match w.state with | .opened => 1 | .active => 2 : Byte)]
        ++ be 1 (allSlots.countP fun k => match s.slot k with
          | some o => o.tag = some w.tag
          | none => false) := by
  simp only [State.windowListData, MaintWindow.bytes_eq, State.ordersNaming_eq]

/-- The generator record and the templates (R128, R133). -/
theorem State.patternData_eq : s.patternData
    = [(match s.spl.generator.state with | .idle => 0 | .running => 1 | .stopped => 2 : Byte)]
      ++ [if s.spl.generator.rotation then 1 else 0] ++ be 4 s.spl.generator.anchor ++ be 1 s.spl.generator.index
      ++ be 4 s.spl.generator.lastStart ++ be 1 s.spl.generator.templates.length
      ++ s.spl.generator.templates.flatMap fun x => be 2 x.offset ++ be 1 x.length ++ be 2 x.capacity ++ be 3 x.mask.toNat := by
  rw [State.patternData, Generator.bytes_eq]
  rfl

/-! ### The reads -/

/-- A request that reads is answered, and nothing else is written. -/
theorem answers_read (k : ReqKind) {d data : List Byte} (h : d = data) : Answers [] k.code .ok data s (s.answer k .ok d) :=
  h ▸ answers_of_keeps s (KeepsAllBut.refl [] s) rfl rfl

theorem refuses_answerKind (kind : Byte) (st : Status) (d : List Byte) : Refuses kind st d s (s.answerKind kind st d) := by
  refine ⟨?_, rfl, rfl⟩
  simp [keepsAllBut_iff]

theorem exec_unknownKind {kind : Byte} (h : ∀ k : ReqKind, k.code ≠ kind) :
    exec (.unknownKind kind) s = .next (s.answerKind kind .unknownKind []) := by
  show execUnknownKind kind s = _
  rw [execUnknownKind, ReqKind.ofCode_eq_none.2 h]

variable {s} {member : Byte} {n : MemberNo}

theorem exec_orderRead_badValue (h : 191 < member.toNat) :
    exec (.orderRead member) s = .next (s.answer .orderRead .badValue []) := by
  show execOrderRead member s = _
  simp only [execOrderRead, memberOf_eq_none.2 h]

theorem exec_orderRead_noSuch (hn : member.toNat = n.val) (hNone : NoOrder s n) :
    exec (.orderRead member) s = .next (s.answer .orderRead .noSuch []) := by
  show execOrderRead member s = _
  simp only [execOrderRead, memberOf_eq_some.2 hn, s.openOrder_eq_none.2 hNone]

theorem exec_orderRead_ok (hn : member.toNat = n.val) {k : SlotNo} {o : Order} (hAt : OrderAt s n k o) :
    exec (.orderRead member) s = .next (s.answer .orderRead .ok (be 1 k.val ++ o.bytes)) := by
  show execOrderRead member s = _
  simp only [execOrderRead, memberOf_eq_some.2 hn, s.openOrder_of_orderAt hAt]

variable {page : Byte}

theorem exec_orderList_badValue (h : 5 < page.toNat) :
    exec (.orderList page) s = .next (s.answer .orderList .badValue []) := by
  show execOrderList page s = _
  rw [execOrderList, if_pos h]

theorem exec_orderList_ok (h : page.toNat ≤ 5) :
    exec (.orderList page) s = .next (s.answer .orderList .ok (s.orderPage page.toNat)) := by
  show execOrderList page s = _
  rw [execOrderList, if_neg (Nat.not_lt.2 h)]

end

/-- Settles O42: each read answers with its data and writes nothing else (`answers_read`); the data are those of the layout. -/
theorem readsChangeNothing : Obligations.ReadsChangeNothing := by
  unfold Obligations.ReadsChangeNothing
  refine fun s => ⟨⟨_, rfl, answers_read s .ident s.identData_eq⟩, fun member => ⟨fun h => ⟨_, exec_orderRead_badValue h,
    refuses_answer s .orderRead _ _⟩, fun n hn => ⟨fun hNone => ⟨_, exec_orderRead_noSuch hn hNone,
    refuses_answer s .orderRead _ _⟩, fun k o hAt => ⟨_, exec_orderRead_ok hn hAt, answers_read s .orderRead rfl⟩⟩⟩,
    fun page => ⟨fun h => ⟨_, exec_orderList_badValue h, refuses_answer s .orderList _ _⟩, fun h => ⟨_, _,
    exec_orderList_ok h, answers_read s .orderList rfl, s.length_orderPage h, ?_, fun j k hk => ?_⟩⟩,
    ⟨_, rfl, answers_read s .windowRead s.windowListData_eq⟩, ⟨_, rfl, answers_read s .windowRead s.patternData_eq⟩,
    fun kind h => ⟨_, exec_unknownKind s h, refuses_answerKind s kind _ _⟩⟩
  · rw [s.orderPage_eq]
    rfl
  · rw [s.orderPage_block hk]
    refine ⟨fun hNone => ?_, fun o ho => ?_⟩
    · rw [hNone]
      rfl
    · rw [ho]
      rfl

end Sys2Proof.Machine
end

section
/-! SUPPORT. The service reports (R80, R81, R114 to R117, R120, R121): O32. -/

namespace Sys2Proof.Machine

/-! ### The checks (R114) -/

section

variable {s : State} {member : Byte} {n : MemberNo} {m : Member} {limit : Option (BitVec 40)}

theorem exec_serviceReplaced_badValue (s : State) (h : 191 < member.toNat ∨ limit.isSome) :
    exec (.serviceDoneReplaced member limit) s = .next (s.answer .serviceDone .badValue []) := by
  show execServiceDoneReplaced member limit s = _
  unfold execServiceDoneReplaced
  cases hn : memberOf member with
  | none => rfl
  | some n =>
    obtain h | h := h
    · cases hn.symm.trans (memberOf_eq_none.2 h)
    · exact if_pos h

theorem exec_serviceReplaced_noSuch (hn : member.toNat = n.val) (hm : s.member n = none) :
    exec (.serviceDoneReplaced member none) s = .next (s.answer .serviceDone .noSuch []) := by
  show execServiceDoneReplaced member none s = _
  simp only [execServiceDoneReplaced, memberOf_eq_some.2 hn, Option.isSome_none, Bool.false_eq_true, if_false, hm]

theorem exec_serviceReplaced_conflict (hn : member.toNat = n.val) (hm : s.member n = some m) (hHeld : m.held = true) :
    exec (.serviceDoneReplaced member none) s = .next (s.answer .serviceDone .conflict []) := by
  show execServiceDoneReplaced member none s = _
  simp only [execServiceDoneReplaced, memberOf_eq_some.2 hn, Option.isSome_none, Bool.false_eq_true, if_false, hm,
    if_pos hHeld]

theorem exec_serviceReplaced_ok (hn : member.toNat = n.val) (hm : s.member n = some m) (hFree : ¬ m.held = true) :
    exec (.serviceDoneReplaced member none) s = .next (s.service n (m.replaced s.etm.epoch) 1) := by
  show execServiceDoneReplaced member none s = _
  simp only [execServiceDoneReplaced, memberOf_eq_some.2 hn, Option.isSome_none, Bool.false_eq_true, if_false, hm,
    if_neg hFree]

/-- A new limit, where one is given, is a limit (R114, check 1). -/
theorem limitGiven_iff : absentOr limitOk limit = true ↔ ∀ x, limit = some x → 1000 ≤ x.toNat := by
  rw [absentOr_iff]
  exact forall_congr' fun x => imp_congr_right fun _ => limitOk_iff x

theorem exec_serviceInspected_badValue (s : State) (h : 191 < member.toNat ∨ ∃ x, limit = some x ∧ x.toNat < 1000) :
    exec (.serviceDoneInspected member limit) s = .next (s.answer .serviceDone .badValue []) := by
  show execServiceDoneInspected member limit s = _
  unfold execServiceDoneInspected
  cases hn : memberOf member with
  | none => rfl
  | some n =>
    obtain h | ⟨x, hx, hLow⟩ := h
    · cases hn.symm.trans (memberOf_eq_none.2 h)
    · have hBad : ¬ absentOr limitOk limit = true := fun hOk => Nat.not_le.2 hLow (limitGiven_iff.1 hOk x hx)
      exact if_pos (by rw [Bool.eq_false_iff.2 hBad]; rfl)

/-- The new limit given stands at or below the wear (R114, check 4). -/
theorem limitBelowWear_iff {wear : Nat} : limitBelowWear limit wear = true ↔ ∃ x, limit = some x ∧ x.toNat ≤ wear := by
  cases limit <;> simp [limitBelowWear]

section

variable (hn : member.toNat = n.val) (hLimit : ∀ x, limit = some x → 1000 ≤ x.toNat)
include hn hLimit

theorem exec_serviceInspected_noSuch (hm : s.member n = none) :
    exec (.serviceDoneInspected member limit) s = .next (s.answer .serviceDone .noSuch []) := by
  show execServiceDoneInspected member limit s = _
  simp only [execServiceDoneInspected, memberOf_eq_some.2 hn, limitGiven_iff.2 hLimit, Bool.not_true, Bool.false_eq_true,
    if_false, hm]

theorem exec_serviceInspected_conflict (hm : s.member n = some m) (hHeld : m.held = true) :
    exec (.serviceDoneInspected member limit) s = .next (s.answer .serviceDone .conflict []) := by
  show execServiceDoneInspected member limit s = _
  simp only [execServiceDoneInspected, memberOf_eq_some.2 hn, limitGiven_iff.2 hLimit, Bool.not_true, Bool.false_eq_true,
    if_false, hm, if_pos hHeld]

theorem exec_serviceInspected_low (hm : s.member n = some m) (hFree : ¬ m.held = true)
    (hLow : limitBelowWear limit m.wear = true) :
    exec (.serviceDoneInspected member limit) s = .next (s.answer .serviceDone .badValue []) := by
  show execServiceDoneInspected member limit s = _
  simp only [execServiceDoneInspected, memberOf_eq_some.2 hn, limitGiven_iff.2 hLimit, Bool.not_true, Bool.false_eq_true,
    if_false, hm, if_neg hFree, if_pos hLow]

theorem exec_serviceInspected_ok (hm : s.member n = some m) (hFree : ¬ m.held = true)
    (hAbove : ¬ limitBelowWear limit m.wear = true) :
    exec (.serviceDoneInspected member limit) s = .next (s.service n (m.inspected limit) 2) := by
  show execServiceDoneInspected member limit s = _
  simp only [execServiceDoneInspected, memberOf_eq_some.2 hn, limitGiven_iff.2 hLimit, Bool.not_true, Bool.false_eq_true,
    if_false, hm, if_neg hFree, if_neg hAbove]

end

end

/-! ### A report taken (R115 to R117) -/

section

variable (s : State) (n : MemberNo) (b : Member)

/-- The WAU's share of a service report: the record written and evaluated fully, its notices posted (R80, R82). -/
def State.reported : State := (s.setMember n (some b.evalFull.1)).postAll n.val b.evalFull.2

/-- The visits of a member walk in flight that fall inside a service report (R121; log 6). -/
def State.walked : State := State.walkVisits s.arbiter.walkVisits (s.reported n b)

/-- The record as the report leaves it, its projection recomputed (R117). -/
def State.served : Member := b.evalFull.1.project s.etm.epoch

theorem State.service_eq (outcome : Byte) : s.service n b outcome
    = ((((s.walked n b).removeOrderOf n).setMember n (some (s.served b))).requestRerun).answer .serviceDone .ok
        (serviceBytes outcome ((s.walked n b).orderOf n) (s.served b)) := by
  have hEpoch : (s.walked n b).etm.epoch = s.etm.epoch := by simp [State.walked, State.reported]
  unfold State.service
  dsimp only
  rw [← State.reported, ← State.walked, hEpoch]
  rfl

theorem State.reported_keeps : KeepsAllBut [.wau, .nq] s (s.reported n b) := by
  simp [State.reported, keepsAllBut_iff]

theorem State.member_reported_self : (s.reported n b).member n = some { b with state := b.named } := by
  simp [State.reported, Member.evalFull]

theorem State.reported_keepsOthers : KeepsOtherMembers n s (s.reported n b) := by
  refine ⟨fun j hj => ?_, by simp [State.reported]⟩
  simp [State.reported, State.member_setMember_ne, hj]

theorem State.reported_posted :
    Posts ((if b.state = .normal ∧ b.named ≠ .normal then [(.memberWarn, n.val, b.wear / 256)] else [])
      ++ (if b.state ≠ .due ∧ b.named = .due then [(.memberDue, n.val, b.wear / 256)] else [])) s (s.reported n b) := by
  rw [← Member.map_levelNotes]
  exact State.postAll_posted (s.setMember n _) n.val _

/-- Outside the walk no visit is made. -/
theorem State.walkVisits_of_stage {s : State} (h : ∀ i, s.spl.planner.stage ≠ .walk i) (k : Nat) : State.walkVisits k s = s := by
  have hStands : s.walkCommand = s := by
    unfold State.walkCommand
    split
    · next i hStage => exact absurd hStage (h i)
    all_goals rfl
  induction k with
  | zero => rfl
  | succ k ih => rw [State.walkVisits, hStands, ih]

theorem State.walked_of_none (h : s.arbiter.walkVisits = 0 ∨ ∀ i, s.spl.planner.stage ≠ .walk i) :
    s.walked n b = s.reported n b := by
  obtain h | h := h
  · rw [State.walked, h]
    rfl
  · have hSpl : (s.reported n b).spl = s.spl := (s.reported_keeps n b).1 .spl (by decide)
    exact State.walkVisits_of_stage (by rwa [hSpl]) _

theorem State.walked_keeps : KeepsAllBut [.wau, .nq, .spl] s (s.walked n b) :=
  ((s.reported_keeps n b).mono (by decide)).trans ((State.walkVisits_keeps _ _).mono (by decide))

/-- Of the record, the evaluation writes the state and the projection's recomputation the projection alone. -/
theorem State.served_eq : s.served b = { b with state := b.named, projection := (s.served b).projection } := rfl

theorem State.served_projected : Projected s.etm.epoch (s.served b) := Member.project_projected _ _

/-! ### After the SPL has removed the order (R117, R120) -/

/-- The state that a service report leaves, its reply aside. -/
def State.serviced : State := (((s.walked n b).removeOrderOf n).setMember n (some (s.served b))).requestRerun

theorem State.serviced_keeps : KeepsAllBut [.wau, .nq, .spl] s (s.serviced n b) := by
  have hServed : KeepsAllBut [.wau, .nq, .spl] (s.walked n b) (s.serviced n b) := by
    simp [State.serviced, keepsAllBut_iff]
  exact (s.walked_keeps n b).trans hServed

theorem State.serviced_spl : (s.serviced n b).spl = ((s.walked n b).removeOrderOf n).requestRerun.spl := by
  rw [State.serviced, State.requestRerun_spl, State.requestRerun_spl, State.setMember_spl]

theorem State.member_serviced_self : (s.serviced n b).member n = some (s.served b) := by simp [State.serviced]

theorem State.serviced_keepsOthers : KeepsOtherMembers n s (s.serviced n b) := by
  obtain ⟨hOthers, hPass⟩ := s.reported_keepsOthers n b
  refine ⟨fun j hj => ?_, ?_⟩
  · rw [← hOthers j hj]
    simp [State.serviced, State.walked, State.member_setMember_ne, hj]
  · rw [← hPass]
    simp [State.serviced, State.walked]

theorem State.serviced_nq : (s.serviced n b).nq = (s.walked n b).nq := by simp [State.serviced]

theorem State.serviced_rerunAsked : RerunAsked (s.walked n b) (s.serviced n b) := by
  obtain ⟨_, _, h⟩ := (s.walked n b).removeOrderOf_spl n
  exact .of_requestRerun (s.serviced_spl n b) (by rw [h]) (by rw [h]) (by rw [h])

theorem State.serviced_keepsPlan : KeepsPlan ((s.walked n b).removeOrderOf n) (s.serviced n b) :=
  .of_requestRerun (s.serviced_spl n b)

theorem State.serviced_of_noOrder (h : NoOrder (s.walked n b) n) : KeepsPlan (s.walked n b) (s.serviced n b) := by
  have hPlan := s.serviced_keepsPlan n b
  rwa [State.removeOrderOf_of_noOrder _ h] at hPlan

theorem State.serviced_of_orderAt {k : SlotNo} {o : Order} (h : OrderAt (s.walked n b) n k o) :
    OrderRemoved k o (s.walked n b) (s.serviced n b) := by
  have hPlan := s.serviced_keepsPlan n b
  rw [State.removeOrderOf_of_orderAt _ h] at hPlan
  exact (State.removeOrder_removed _ k o).of_keepsPlan hPlan

theorem Member.replaced_eq (m : Member) (epoch : Nat) : m.replaced epoch = { m with
    wear := 0, residue := 0, reckonedWear := 0, unsavedWear := 0, checkpointArmed := true
    serviceCount := min (m.serviceCount + 1) 65535, installedEpoch := epoch } := rfl

theorem Member.inspected_eq (m : Member) (limit : Option (BitVec 40)) : m.inspected limit = { m with
    limit := (limit.map (·.toNat)).getD m.limit
    warnLevel := match limit with
      | some x => x.toNat * m.warn / 1000
      | none => m.warnLevel } := by
  cases limit <;> rfl

theorem servedOrderBytes_some (o : Order) :
    servedOrderBytes (some o) = [1] ++ be 1 o.reason.code ++ be 1 o.state.code ++ be 1 o.missed := rfl

end

/-- Settles O32: each check by its own answer; then the report in its parts, `State.reported`, `State.walked` and
`State.serviced`. -/
theorem serviceDoneRules : Obligations.ServiceDoneRules := by
  unfold Obligations.ServiceDoneRules
  have hRefuses (s : State) (st : Status) : Refuses 0x26 st [] s (s.answer .serviceDone st []) :=
    refuses_answer s .serviceDone st []
  refine ⟨fun member limit s => ⟨fun h => ⟨_, exec_serviceReplaced_badValue s h, hRefuses s _⟩,
    fun h => ⟨_, exec_serviceInspected_badValue s h, hRefuses s _⟩, fun n hn i hi => ?_⟩, ?_⟩
  · have hFree {m : Member} (h : m.held = false) : ¬ m.held = true := Bool.eq_false_iff.1 h
    obtain ⟨rfl, rfl⟩ | ⟨rfl, hLimit⟩ := hi
    · exact ⟨fun hm => ⟨_, exec_serviceReplaced_noSuch hn hm, hRefuses s _⟩,
        fun m hm hHeld => ⟨_, exec_serviceReplaced_conflict hn hm hHeld, hRefuses s _⟩, fun m x _ _ hx => nomatch hx⟩
    · exact ⟨fun hm => ⟨_, exec_serviceInspected_noSuch hn hLimit hm, hRefuses s _⟩,
        fun m hm hHeld => ⟨_, exec_serviceInspected_conflict hn hLimit hm hHeld, hRefuses s _⟩,
        fun m x hm hHeld hx hLow => ⟨_, exec_serviceInspected_low hn hLimit hm (hFree hHeld)
          (limitBelowWear_iff.2 ⟨x, hx, hLow⟩), hRefuses s _⟩⟩
  · intro n limit m s hm hHeld member level served
    have hn : member.toNat = n.val := by
      have := n.isLt
      simp only [member, BitVec.toNat_ofNat]
      omega
    have hServed (b : Member) (outcome : Byte) (hState : b.state = m.state) : served b outcome (s.service n b outcome) := by
      have hEq := s.service_eq n b outcome
      have hKeeps := s.serviced_keeps n b
      have hPosted := s.reported_posted n b
      rw [hState] at hPosted
      rw [hEq]
      refine ⟨s.reported n b, s.walked n b, s.served b, servedOrderBytes ((s.walked n b).orderOf n),
        ⟨s.reported_keeps n b, s.member_reported_self n b, s.reported_keepsOthers n b, hPosted⟩,
        State.walkVisits_eq_execAll _ _, s.walked_of_none n b, s.served_eq b, s.served_projected b,
        s.member_serviced_self n b, s.serviced_keepsOthers n b, s.serviced_nq n b, s.serviced_rerunAsked n b,
        fun hNone => ⟨s.serviced_of_noOrder n b hNone, ?_⟩, fun k o hAt => ⟨s.serviced_of_orderAt n b hAt, ?_⟩,
        answers_of_keeps s (k := .serviceDone) hKeeps (hKeeps.1 .lnk (by decide)) (hKeeps.1 .rqd (by decide))⟩
      · rw [State.orderOf_of_noOrder _ hNone]
        rfl
      · rw [State.orderOf_of_orderAt _ hAt, servedOrderBytes_some]
    have hFree : ¬ m.held = true := Bool.eq_false_iff.1 hHeld
    refine ⟨⟨_, ?_, hServed _ 1 rfl⟩, fun hLimit => ⟨_, ?_, hServed _ 2 rfl⟩⟩
    · rw [← Member.replaced_eq]
      exact exec_serviceReplaced_ok hn hm hFree
    · have hAbove : ¬ limitBelowWear limit m.wear = true := fun h => by
        obtain ⟨x, hx, hLow⟩ := limitBelowWear_iff.1 h
        exact Nat.not_le.2 (hLimit x hx).2 hLow
      have hInspected : m.inspected limit = { m with limit := (limit.map (·.toNat)).getD m.limit, warnLevel := level } :=
        m.inspected_eq limit
      rw [← hInspected]
      exact exec_serviceInspected_ok hn (fun x hx => (hLimit x hx).1) hm hFree hAbove

end Sys2Proof.Machine
end

section
/-! SUPPORT. What the RQD makes of a frame (R169), and the frames handed over (log 3): O2. -/

namespace Sys2Proof

/-! ### The kind code and the payload length (R169) -/

theorem ReqKind.ofCode_code (k : ReqKind) : ReqKind.ofCode k.code = some k := by cases k <;> rfl

end Sys2Proof

namespace Sys2Proof.Machine

/-- The requests whose kind alone fixes the payload length, with that length (11 section 11.6). -/
def fixedLengths : List (ReqKind × Nat) :=
  [(.ident, 0), (.status, 0), (.mode, 1), (.restart, 1), (.linkSet, 1), (.counters, 0), (.epochSet, 9), (.epochMark, 4),
    (.lineSet, 4), (.lineStatus, 0), (.segmentSet, 34), (.segmentRead, 2), (.segmentRearm, 1), (.itemAnnounce, 8),
    (.memberDefine, 23), (.memberRead, 1), (.memberHold, 1), (.memberAdjust, 22), (.memberRelease, 1), (.memberRetire, 1),
    (.serviceDone, 8), (.planSet, 6), (.planRun, 0), (.windowAdd, 10), (.windowRemove, 1), (.windowRead, 1),
    (.patternControl, 7), (.orderRead, 1), (.orderList, 1), (.orderRaise, 5), (.orderStart, 1), (.orderCancel, 1),
    (.noticeTake, 0), (.noticeMask, 1)]

theorem payloadLength_of_fixed {x : ReqKind × Nat} (h : x ∈ fixedLengths) (p : List Byte) :
    x.1.payloadLength p = some x.2 := by
  revert x
  simp [fixedLengths, ReqKind.payloadLength]

section

variable {f : Frame} {k : ReqKind}

theorem decodeFrame_of_unknown (h : ∀ k : ReqKind, k.code ≠ f.kind) : decodeFrame f = .unknown := by
  rw [decodeFrame, ReqKind.ofCode_eq_none.2 h]

theorem decodeFrame_of_kind (h : f.kind = k.code) : decodeFrame f =
    if k.payloadLength f.payload = some f.payload.length then decodePayload k f.delivery f.payload else .badValue := by
  rw [decodeFrame, h, ReqKind.ofCode_code]

theorem decodeFrame_of_wrongLength (h : f.kind = k.code) (hl : k.payloadLength f.payload ≠ some f.payload.length) :
    decodeFrame f = .badValue := by rw [decodeFrame_of_kind h, if_neg hl]

/-- A payload that spells no request is a BAD_VALUE, whatever its length (R170, R173, R114, R128). -/
theorem decodeFrame_of_badPayload (h : f.kind = k.code) (hp : decodePayload k f.delivery f.payload = .badValue) :
    decodeFrame f = .badValue := by
  rw [decodeFrame_of_kind h, hp]
  exact ite_self _

end

/-! ### The codes that name which request of its kind a payload spells -/

theorem byteAt_zero (b : Byte) (p : List Byte) : byteAt (b :: p) 0 = b := by simp [byteAt, bitsAt, fieldAt, ofBytes]

theorem byteAt_one (a b : Byte) (p : List Byte) : byteAt (a :: b :: p) 1 = b := by simp [byteAt, bitsAt, fieldAt, ofBytes]

section

variable {code : Byte} (via : Delivery) (p : List Byte)

/-- A code above another is a different one. -/
theorem ne_of_lt_toNat {a b : Byte} (h : a.toNat < b.toNat) : b ≠ a := fun e => by
  rw [e] at h
  exact lt_irrefl _ h

theorem decodePayload_mode (h : 1 < code.toNat) : decodePayload .mode via (code :: p) = .badValue := by
  have hZero : code ≠ 0 := ne_of_lt_toNat (by simpa using Nat.zero_lt_of_lt h)
  have hOne : code ≠ 1 := ne_of_lt_toNat (by simpa using h)
  simp only [decodePayload, byteAt_zero, if_neg hZero, if_neg hOne]

theorem decodePayload_windowRead (h : 1 < code.toNat) : decodePayload .windowRead via (code :: p) = .badValue := by
  have hZero : code ≠ 0 := ne_of_lt_toNat (by simpa using Nat.zero_lt_of_lt h)
  have hOne : code ≠ 1 := ne_of_lt_toNat (by simpa using h)
  simp only [decodePayload, byteAt_zero, if_neg hZero, if_neg hOne]

theorem decodePayload_restart (h : code = 0 ∨ 3 < code.toNat) : decodePayload .restart via (code :: p) = .badValue := by
  have hOther : code ≠ 1 ∧ code ≠ 2 ∧ code ≠ 3 := by
    obtain rfl | h := h
    · decide
    · refine ⟨ne_of_lt_toNat ?_, ne_of_lt_toNat ?_, ne_of_lt_toNat ?_⟩ <;> simp <;> omega
  obtain ⟨hOne, hTwo, hThree⟩ := hOther
  simp only [decodePayload, byteAt_zero, if_neg hOne, if_neg hTwo, if_neg hThree]

theorem decodePayload_serviceDone {member outcome : Byte} (hOne : outcome ≠ 1) (hTwo : outcome ≠ 2) :
    decodePayload .serviceDone via (member :: outcome :: p) = .badValue := by
  simp only [decodePayload, byteAt_one, if_neg hOne, if_neg hTwo]

end

/-! ### The count of a PATTERN_LOAD (R132, R169) -/

theorem payloadLength_patternLoad_nil : ReqKind.payloadLength .patternLoad [] = none := rfl

theorem payloadLength_patternLoad_cons (count : Byte) (rest : List Byte) :
    ReqKind.payloadLength .patternLoad (count :: rest)
      = if 1 ≤ count.toNat ∧ count.toNat ≤ 16 then some (1 + 8 * count.toNat) else none := by
  have hCount : fieldAt (count :: rest) 0 1 = count.toNat := by simp [fieldAt, ofBytes]
  rw [ReqKind.payloadLength, hCount]

/-- A count outside 1–16, or one that the length does not match, and nothing else is a BAD_VALUE. -/
theorem decodeFrame_patternLoad {f : Frame} (h : f.kind = ReqKind.code .patternLoad) {count : Byte} {rest : List Byte}
    (hp : f.payload = count :: rest) :
    (count.toNat = 0 ∨ 16 < count.toNat ∨ rest.length ≠ 8 * count.toNat) ↔ decodeFrame f = .badValue := by
  rw [decodeFrame_of_kind h, hp, payloadLength_patternLoad_cons, List.length_cons]
  by_cases hCount : 1 ≤ count.toNat ∧ count.toNat ≤ 16
  · rw [if_pos hCount]
    by_cases hLength : 1 + 8 * count.toNat = rest.length + 1
    · rw [if_pos (congrArg some hLength)]
      exact iff_of_false (by omega) fun e => nomatch e
    · rw [if_neg (mt Option.some.inj hLength)]
      exact iff_of_true (by omega) rfl
  · rw [if_neg hCount, if_neg (fun e => nomatch e)]
    exact iff_of_true (by omega) rfl

/-! ### An empty queue (log 3) -/

section

variable {s : State} (hq : s.pending = [])
include hq

theorem step_of_noFrame (h : s.rqd.handed = []) : step s = .next s := by
  rw [step, hq]
  dsimp only
  rw [idle, h]

theorem step_of_frame {f : Frame} {rest : List Frame} (h : s.rqd.handed = f :: rest) : step s = serveFrame f s := by
  rw [step, hq]
  dsimp only
  rw [idle, h]

end

theorem Frame.delivery_addressed {f : Frame} (h : f.address ≠ 0) : f.delivery = .addressed := if_neg h

theorem Frame.delivery_broadcast {f : Frame} (h : f.address = 0) : f.delivery = .broadcast := if_pos h

/-- A frame to this station that spells no request is refused. -/
theorem answerFrame_refuses (s : State) {f : Frame} (h : f.address ≠ 0) (st : Status) :
    Refuses f.kind st [] s (s.answerFrame f st) := by
  rw [State.answerFrame, Frame.delivery_addressed h]
  exact refuses_answerKind s f.kind st []

/-- A broadcast that spells no request is taken with no reply. -/
theorem answerFrame_broadcast (s : State) {f : Frame} (h : f.address = 0) (st : Status) :
    s.answerFrame f st = s.takeHanded := by rw [State.answerFrame, Frame.delivery_broadcast h]

/-- Settles O2: what the step makes of the oldest frame, and what the decoder makes of kind, length and codes. -/
theorem waitingFramesAreServed : Obligations.WaitingFramesAreServed := by
  unfold Obligations.WaitingFramesAreServed
  refine ⟨fun s hq => ⟨step_of_noFrame hq, fun f rest hf => ?_⟩, fun f => ⟨decodeFrame_of_unknown, fun p hp hk hl => ?_,
    fun code hCode => ⟨fun hk h => ?_, fun hk h => ?_, fun hk h => ?_⟩, fun member outcome rest hk hOutcome hOne hTwo => ?_,
    fun hk => ⟨fun hNil => ?_, fun count rest hCount => decodeFrame_patternLoad (by exact hk) hCount⟩⟩⟩
  · have hStep := step_of_frame hq hf
    refine ⟨fun i hi => ?_, fun ha hBad => ⟨_, ?_, answerFrame_refuses s ha .badValue⟩,
      fun ha hUnknown => ⟨_, ?_, answerFrame_refuses s ha .unknownKind⟩, fun ha hBad => ⟨s.takeHanded, ?_, ?_, ?_⟩⟩
    · rw [hStep, serveFrame, hi]
    · rw [hStep, serveFrame, hBad]
    · rw [hStep, serveFrame, hUnknown]
    · rw [hStep, serveFrame, hBad]
      dsimp only
      rw [answerFrame_broadcast s ha]
    · exact s.takeHanded_keeps
    · rw [State.rqd_takeHanded, hf, List.tail_cons]
  · obtain ⟨x, hx, rfl⟩ : ∃ x ∈ fixedLengths, (x.1.code, x.2) = p := List.mem_map.1 hp
    exact decodeFrame_of_wrongLength hk (by rw [payloadLength_of_fixed hx]; exact fun e => hl (Option.some.inj e).symm)
  · exact decodeFrame_of_badPayload (k := .mode) hk (by rw [hCode]; exact decodePayload_mode _ _ h)
  · exact decodeFrame_of_badPayload (k := .restart) hk (by rw [hCode]; exact decodePayload_restart _ _ h)
  · exact decodeFrame_of_badPayload (k := .windowRead) hk (by rw [hCode]; exact decodePayload_windowRead _ _ h)
  · exact decodeFrame_of_badPayload (k := .serviceDone) hk (by rw [hOutcome]; exact decodePayload_serviceDone _ _ hOne hTwo)
  · refine decodeFrame_of_wrongLength (k := .patternLoad) hk ?_
    rw [hNil, payloadLength_patternLoad_nil]
    exact fun e => nomatch e

end Sys2Proof.Machine
end

section
/-! SUPPORT. The generation attempt step by step (R135, R136): what the end of a step leaves, what a step and a whole attempt
write, and that a skipped step leaves an attempt of its own: O46. -/

namespace Sys2Proof.Machine

/-! ### The end of a step (R136, steps 4 and 5) -/

/-- The generator after the end of a step: the index wrapped at the end of the templates; stopped there with rotation off, or
where every later step would be skipped. -/
def Generator.atStepEnd (x : Generator) (stuck : Bool) : Generator :=
  { x with
    index := if x.index = x.templates.length ∨ stuck = true then 0 else x.index
    state := if (x.index = x.templates.length ∧ x.rotation = false) ∨ stuck = true then .stopped else x.state }

/-- The notices that the end of a step posts. -/
def Generator.stepEndNotes (x : Generator) (stuck : Bool) : List (NoticeKind × Nat × Nat) :=
  (if x.index = x.templates.length then [(.patternWrap, 0, x.lastStart)] else [])
    ++ if (x.index = x.templates.length ∧ x.rotation = false) ∨ stuck = true then [(.patternEnd, 0, x.lastStart)] else []

section

variable (x : Generator)

theorem Generator.atStepEnd_free : x.atStepEnd false = { x with
    index := if x.index = x.templates.length then 0 else x.index
    state := if x.index = x.templates.length ∧ x.rotation = false then .stopped else x.state } := by
  simp [Generator.atStepEnd]

theorem Generator.atStepEnd_stuck : x.atStepEnd true = { x with index := 0, state := .stopped } := by
  simp [Generator.atStepEnd]

theorem Generator.stepEndNotes_free : x.stepEndNotes false
    = (if x.index = x.templates.length then [(.patternWrap, 0, x.lastStart)] else [])
      ++ if x.index = x.templates.length ∧ x.rotation = false then [(.patternEnd, 0, x.lastStart)] else [] := by
  simp [Generator.stepEndNotes]

theorem Generator.stepEndNotes_stuck : x.stepEndNotes true
    = (if x.index = x.templates.length then [(.patternWrap, 0, x.lastStart)] else [])
      ++ [(.patternEnd, 0, x.lastStart)] := by
  simp [Generator.stepEndNotes]

end

section

variable (s : State) (stuck : Bool)

theorem State.endStep_spl :
    (s.endStep stuck).spl = { s.spl with generator := s.spl.generator.atStepEnd stuck } := by
  by_cases hWraps : s.spl.generator.index = s.spl.generator.templates.length
  · cases hRotation : s.spl.generator.rotation <;> cases stuck <;>
      simp [State.endStep, Generator.atStepEnd, State.setGenerator, hWraps, hRotation]
  · cases stuck <;> simp [State.endStep, Generator.atStepEnd, State.setGenerator, hWraps]

theorem State.endStep_posted : Posts (s.spl.generator.stepEndNotes stuck) s (s.endStep stuck) := by
  by_cases hWraps : s.spl.generator.index = s.spl.generator.templates.length
  · cases hRotation : s.spl.generator.rotation <;> cases stuck <;>
      simp [Posts, State.endStep, Generator.stepEndNotes, hWraps, hRotation]
  · cases stuck <;> simp [Posts, State.endStep, Generator.stepEndNotes, hWraps]

end

/-! ### One step (R136) -/

section

variable {s : State} {t : Template}

/-- Every later step would be skipped: the start has stopped at the last epoch number, which is running (R136, step 5). -/
def State.stuckAt (s : State) (t : Template) : Bool :=
  decide (Config.max32 < s.spl.generator.lastStart + t.offset) && decide (s.etm.epoch = Config.max32)

/-- `s` after a step whose start had passed. -/
def State.skipped (s : State) (t : Template) : State :=
  ((s.stepped t).post .windowSkipped 0 (s.stepStart t)).endStep (s.stuckAt t)

/-- `s` after a step whose start lies ahead. -/
def State.added (s : State) (t : Template) : State :=
  ((s.stepped t).listWindow (s.stepStart t) t.length t.capacity t.mask .pattern).endStep false

theorem State.skipped_keeps : KeepsAllBut [.spl, .nq] s (s.skipped t) := by
  simp [State.skipped, State.stepped, keepsAllBut_iff]

theorem State.skipped_spl :
    (s.skipped t).spl = { s.spl with generator := (s.stepped t).spl.generator.atStepEnd (s.stuckAt t) } :=
  State.endStep_spl _ _

theorem State.skipped_posted :
    Posts ((.windowSkipped, 0, s.stepStart t) :: (s.stepped t).spl.generator.stepEndNotes (s.stuckAt t)) s (s.skipped t) :=
  State.endStep_posted _ _

theorem State.added_spl : (s.added t).spl =
    { s.spl with
      generator := (s.stepped t).spl.generator.atStepEnd false, lastTag := nextTag s.spl.lastTag s.spl.windows
      windows := insertWindow
        { tag := nextTag s.spl.lastTag s.spl.windows, start := s.stepStart t, length := t.length, capacity := t.capacity
          used := 0, mask := t.mask, source := .pattern, state := .opened } s.spl.windows } :=
  State.endStep_spl _ _

theorem State.added_posted : Posts ((s.stepped t).spl.generator.stepEndNotes false) s (s.added t) :=
  State.endStep_posted ((s.stepped t).listWindow (s.stepStart t) t.length t.capacity t.mask .pattern) false

end

/-! ### The steps of an attempt (R135) -/

section

variable {s : State} {t : Template}

theorem State.mayGenerate_iff : s.mayGenerate = true ↔ s.spl.generator.state = .running
    ∧ (s.spl.windows.filter fun w => w.state = .opened).length < s.spl.planner.fillLevel ∧ s.spl.windows.length < 8 := by
  simp only [State.mayGenerate, Bool.and_eq_true, decide_eq_true_eq, and_assoc]
  rfl

/-- A stopped generator makes no step. -/
theorem State.not_mayGenerate_of_stopped (h : s.spl.generator.state = .stopped) : ¬ s.mayGenerate = true := fun hMay => by
  obtain ⟨hRunning, -⟩ := State.mayGenerate_iff.1 hMay
  rw [h] at hRunning
  cases hRunning

theorem generateSteps_of_not_may (h : ¬ s.mayGenerate = true) (n : Nat) : State.generateSteps n s = s := by
  cases n with
  | zero => rfl
  | succ n => rw [State.generateSteps, if_neg h]

theorem generateSteps_of_noTemplate (h : s.spl.generator.templates[s.spl.generator.index]? = none) (n : Nat) :
    State.generateSteps n s = s := by
  cases n with
  | zero => rfl
  | succ n => simp only [State.generateSteps, h, ite_self]

section

variable (hMay : s.mayGenerate = true) (ht : s.spl.generator.templates[s.spl.generator.index]? = some t)
include hMay ht

/-- A skip, and the attempt goes on (R136, step 2). -/
theorem generateSteps_of_past (h : s.stepStart t ≤ s.etm.epoch) (n : Nat) :
    State.generateSteps (n + 1) s = State.generateSteps n (s.skipped t) := by
  rw [State.generateSteps, if_pos hMay, ht]
  dsimp only
  rw [State.generateStep_of_past h]
  exact if_neg Bool.false_ne_true

/-- A window added ends the attempt (R136, step 3). -/
theorem generateSteps_of_ahead (h : ¬ s.stepStart t ≤ s.etm.epoch) (n : Nat) :
    State.generateSteps (n + 1) s = s.added t := by
  rw [State.generateSteps, if_pos hMay, ht]
  dsimp only
  rw [State.generateStep_of_ahead h]
  exact if_pos rfl

end

/-- Of the SPL the steps write the generator, and add at most one window. -/
theorem generateSteps_spl (n : Nat) (s : State) : ∃ windows lastTag generator,
    (State.generateSteps n s).spl = { s.spl with windows, lastTag, generator }
      ∧ windows.length ≤ s.spl.windows.length + 1 := by
  induction n generalizing s with
  | zero => exact ⟨_, _, _, rfl, Nat.le_succ _⟩
  | succ n ih =>
    by_cases hMay : s.mayGenerate = true
    · cases ht : s.spl.generator.templates[s.spl.generator.index]? with
      | none => exact ⟨_, _, _, by rw [generateSteps_of_noTemplate ht], Nat.le_succ _⟩
      | some t =>
        by_cases hPast : s.stepStart t ≤ s.etm.epoch
        · obtain ⟨_, _, _, hSpl, hLength⟩ := ih (s.skipped t)
          rw [s.skipped_spl] at hSpl hLength
          exact ⟨_, _, _, (congrArg State.spl (generateSteps_of_past hMay ht hPast n)).trans hSpl, hLength⟩
        · exact ⟨_, _, _, (congrArg State.spl (generateSteps_of_ahead hMay ht hPast n)).trans State.added_spl,
            (insertWindow_perm _ _).length_eq.le⟩
    · exact ⟨_, _, _, by rw [generateSteps_of_not_may hMay], Nat.le_succ _⟩

/-! ### The bound on the steps (log 27) -/

theorem State.stepStart_of_le (h : s.spl.generator.lastStart + t.offset ≤ 2 ^ 32 - 1) :
    s.stepStart t = s.spl.generator.lastStart + t.offset := Nat.min_eq_left h

theorem State.stepStart_of_lt (h : 2 ^ 32 - 1 < s.spl.generator.lastStart + t.offset) : s.stepStart t = 2 ^ 32 - 1 :=
  Nat.min_eq_right h.le

theorem State.not_stuckAt_of_le (h : s.spl.generator.lastStart + t.offset ≤ 2 ^ 32 - 1) : s.stuckAt t = false := by
  rw [State.stuckAt, decide_eq_false (show ¬ Config.max32 < _ from Nat.not_lt.2 h), Bool.false_and]

theorem State.stuckAt_of_lt (h : 2 ^ 32 - 1 < s.spl.generator.lastStart + t.offset) (he : s.etm.epoch = 2 ^ 32 - 1) :
    s.stuckAt t = true := by
  rw [State.stuckAt, decide_eq_true (show Config.max32 < _ from h), decide_eq_true (show _ = Config.max32 from he)]
  rfl

theorem State.skipped_of_stuck (h : s.stuckAt t = true) : ¬ (s.skipped t).mayGenerate = true :=
  State.not_mayGenerate_of_stopped (by rw [State.skipped_spl, h]; exact if_pos (.inr rfl))

/-- Any two bounds that suffice give the same attempt: each skip moves the last generated start on, and a start that stops at
the last epoch number ends the attempt (R136; log 27). -/
theorem generateSteps_enough {n k : Nat} (hOffsets : ∀ z ∈ s.spl.generator.templates, 1 ≤ z.offset)
    (hEpoch : s.etm.epoch ≤ 2 ^ 32 - 1) (hn : s.etm.epoch - s.spl.generator.lastStart < n)
    (hk : s.etm.epoch - s.spl.generator.lastStart < k) : State.generateSteps n s = State.generateSteps k s := by
  induction n generalizing s k with
  | zero => cases hn
  | succ n ih =>
    obtain ⟨k, rfl⟩ := Nat.exists_eq_add_one_of_ne_zero (Nat.ne_of_gt (Nat.zero_lt_of_lt hk))
    by_cases hMay : s.mayGenerate = true
    · cases ht : s.spl.generator.templates[s.spl.generator.index]? with
      | none => rw [generateSteps_of_noTemplate ht, generateSteps_of_noTemplate ht]
      | some t =>
        by_cases hPast : s.stepStart t ≤ s.etm.epoch
        · rw [generateSteps_of_past hMay ht hPast, generateSteps_of_past hMay ht hPast]
          have hOffset := hOffsets t (List.mem_of_getElem? ht)
          have hEtm : (s.skipped t).etm = s.etm := State.skipped_keeps.1 .etm (by decide)
          by_cases hFits : s.spl.generator.lastStart + t.offset ≤ 2 ^ 32 - 1
          · have hLast : (s.skipped t).spl.generator.lastStart = s.spl.generator.lastStart + t.offset := by
              rw [State.skipped_spl]
              exact State.stepStart_of_le hFits
            rw [State.stepStart_of_le hFits] at hPast
            refine ih ?_ (hEtm ▸ hEpoch) ?_ ?_
            · rw [State.skipped_spl]
              exact hOffsets
            · rw [hEtm, hLast]
              omega
            · rw [hEtm, hLast]
              omega
          · have hOver := Nat.lt_of_not_le hFits
            rw [State.stepStart_of_lt hOver] at hPast
            have hStops := State.skipped_of_stuck (State.stuckAt_of_lt hOver (hEpoch.antisymm hPast))
            rw [generateSteps_of_not_may hStops, generateSteps_of_not_may hStops]
        · rw [generateSteps_of_ahead hMay ht hPast, generateSteps_of_ahead hMay ht hPast]
    · rw [generateSteps_of_not_may hMay, generateSteps_of_not_may hMay]

/-! ### A whole attempt -/

/-- Of the SPL an attempt writes the generator, and adds at most one window (R135). -/
theorem State.generate_spl (s : State) : ∃ windows lastTag generator,
    s.generate.spl = { s.spl with windows, lastTag, generator } ∧ windows.length ≤ s.spl.windows.length + 1 :=
  generateSteps_spl _ s

@[simp] theorem State.planner_generate (s : State) : s.generate.spl.planner = s.spl.planner := by
  obtain ⟨_, _, _, hSpl, -⟩ := s.generate_spl
  rw [hSpl]

section

variable (hMay : s.mayGenerate = true) (ht : s.spl.generator.templates[s.spl.generator.index]? = some t)
include hMay ht

theorem State.generate_of_ahead (h : s.etm.epoch < s.stepStart t) : s.generate = s.added t :=
  generateSteps_of_ahead hMay ht (Nat.not_le.2 h) _

/-- A skip that stops the generator ends the attempt. -/
theorem State.generate_of_stops (h : s.stepStart t ≤ s.etm.epoch) (hStops : ¬ (s.skipped t).mayGenerate = true) :
    s.generate = s.skipped t := by
  rw [State.generate, generateSteps_of_past hMay ht h, generateSteps_of_not_may hStops]

/-- After a skip the attempt goes on as an attempt of its own. -/
theorem State.generate_of_past (h : s.stepStart t ≤ s.etm.epoch)
    (hFits : s.spl.generator.lastStart + t.offset ≤ 2 ^ 32 - 1)
    (hOffsets : ∀ z ∈ s.spl.generator.templates, 1 ≤ z.offset) (hEpoch : s.etm.epoch ≤ 2 ^ 32 - 1) :
    s.generate = (s.skipped t).generate := by
  have hOffset := hOffsets t (List.mem_of_getElem? ht)
  have hEtm : (s.skipped t).etm = s.etm := State.skipped_keeps.1 .etm (by decide)
  have hLast : (s.skipped t).spl.generator.lastStart = s.spl.generator.lastStart + t.offset := by
    rw [State.skipped_spl]
    exact State.stepStart_of_le hFits
  rw [State.generate, generateSteps_of_past hMay ht h, State.generate]
  rw [State.stepStart_of_le hFits] at h
  refine generateSteps_enough ?_ (hEtm ▸ hEpoch) ?_ ?_
  · rw [State.skipped_spl]
    exact hOffsets
  · rw [hEtm, hLast]
    omega
  · exact Nat.lt_succ_self _

end

end

/-- Settles O46: a step that adds, a step that skips, and the step that stops at the last epoch number, each by its own
lemma. -/
theorem generationAttempt : Obligations.GenerationAttempt := by
  unfold Obligations.GenerationAttempt
  intro s x may
  obtain ⟨_, _, _, hSpl, hLength⟩ := s.generate_spl
  refine ⟨s.generate_keeps, by rw [hSpl], by rw [hSpl], by rwa [hSpl],
    fun hNot => generateSteps_of_not_may (mt State.mayGenerate_iff.1 hNot) _, ?_⟩
  intro hMay y ht start wraps stops stepped ends
  replace hMay : s.mayGenerate = true := State.mayGenerate_iff.2 hMay
  have hStepped : (s.stepped y).spl.generator.atStepEnd false = stepped := Generator.atStepEnd_free _
  have hEnds : (s.stepped y).spl.generator.stepEndNotes false = ends := Generator.stepEndNotes_free _
  refine ⟨fun hAhead => ?_, ?_, fun hEpoch hOver => ?_⟩
  · rw [State.generate_of_ahead hMay ht hAhead]
    have hPosted := s.added_posted (t := y)
    rw [hEnds] at hPosted
    refine ⟨?_, hPosted, ?_, ?_⟩
    all_goals rw [State.added_spl]
    · exact hStepped
    · rfl
  · intro hPast _ hFits hOffsets u
    have hFree : s.stuckAt y = false := State.not_stuckAt_of_le hFits
    have hPosted := s.skipped_posted (t := y)
    rw [hFree, hEnds] at hPosted
    have hSkipped := s.skipped_spl (t := y)
    rw [hFree, hStepped] at hSkipped
    refine ⟨s.skipped y, State.skipped_keeps, hSkipped, hPosted, fun hStops => ?_, fun _ hEpoch => ?_⟩
    · refine State.generate_of_stops hMay ht hPast (State.not_mayGenerate_of_stopped ?_)
      rw [hSkipped]
      exact if_pos hStops
    · exact State.generate_of_past hMay ht hPast hFits hOffsets hEpoch
  · have hStuck : s.stuckAt y = true := State.stuckAt_of_lt hOver hEpoch
    have hStart : s.stepStart y = 2 ^ 32 - 1 := State.stepStart_of_lt hOver
    rw [State.generate_of_stops hMay ht (hStart.trans hEpoch.symm).le (State.skipped_of_stuck hStuck)]
    have hPosted := s.skipped_posted (t := y)
    rw [hStuck, Generator.stepEndNotes_stuck, hStart] at hPosted
    refine ⟨?_, ?_⟩
    · rw [State.skipped_spl, hStuck, Generator.atStepEnd_stuck, State.stepped, hStart]
      rfl
    · have hLast : (s.stepped y).spl.generator.lastStart = 2 ^ 32 - 1 := hStart
      rw [hLast] at hPosted
      exact hPosted

end Sys2Proof.Machine
end

section
/-! SUPPORT. The requests about the planner's settings, its run and the window pattern (R132 to R135, R138, R139): O45 and
O47. -/

namespace Sys2Proof

/-- A record whose template R132 takes: no figure is 0, and each field holds the top of its range. -/
def TemplateRecord.acceptable (x : TemplateRecord) : Prop :=
  x.offset ≠ 0 ∧ x.length ≠ 0 ∧ x.capacity ≠ 0 ∧ x.mask ≠ 0

end Sys2Proof

namespace Sys2Proof.Machine

/-! ### A request that makes a generation attempt (R135) -/

/-- The answer built once a generation attempt has followed what the request wrote at the SPL (R160; log 38). -/
theorem answers_of_generate {s u : State} (h : KeepsAllBut [.spl] s u) (k : ReqKind) (data : List Byte) :
    Answers [.spl, .nq] k.code .ok data s (u.generate.answer k .ok data) := by
  have hKeeps : KeepsAllBut [.spl, .nq] s u.generate := (h.mono (by decide)).trans u.generate_keeps
  exact answers_of_keeps s hKeeps (hKeeps.1 .lnk (by decide)) (hKeeps.1 .rqd (by decide))

theorem toNat_ne_zero_iff {w : Nat} {b : BitVec w} : b.toNat ≠ 0 ↔ b ≠ 0 :=
  not_congr ⟨fun h => BitVec.eq_of_toNat_eq (by simpa using h), fun h => by simp [h]⟩

theorem onOffOf_of_le {b : Byte} (h : ¬ 1 < b.toNat) : onOffOf b = some (decide (b = 1)) :=
  onOffOf_eq_some.2 ⟨Nat.le_of_not_lt h, rfl⟩

/-- The byte of an on/off code, written back (11 section 11.6). -/
theorem flagByte_onOff {b : Byte} (h : ¬ 1 < b.toNat) : flagByte (decide (b = 1)) = b := by
  revert b
  decide

/-! ### PATTERN_LOAD (R132) -/

/-- The template that a record spells (07 section 7.4). -/
def templateOf (x : TemplateRecord) : Template :=
  { offset := x.offset.toNat, length := x.length.toNat, capacity := x.capacity.toNat, mask := x.mask }

theorem checkTemplate_of_acceptable {x : TemplateRecord} (h : x.acceptable) : checkTemplate x = some (templateOf x) := by
  obtain ⟨hOffset, hLength, hCapacity, hMask⟩ := h
  rw [← toNat_ne_zero_iff] at hOffset hLength hCapacity
  refine if_pos ?_
  simp only [Bool.and_eq_true, inRange_iff, decide_eq_true_eq]
  exact ⟨⟨⟨by omega, by omega⟩, by omega⟩, hMask⟩

theorem checkTemplate_of_not_acceptable {x : TemplateRecord} (h : ¬ x.acceptable) : checkTemplate x = none := by
  refine if_neg fun hOk => h ?_
  simp only [Bool.and_eq_true, inRange_iff, decide_eq_true_eq] at hOk
  obtain ⟨⟨⟨hOffset, hLength⟩, hCapacity⟩, hMask⟩ := hOk
  exact ⟨toNat_ne_zero_iff.1 (by omega), toNat_ne_zero_iff.1 (by omega), toNat_ne_zero_iff.1 (by omega), hMask⟩

theorem checkTemplates_of_acceptable {xs : List TemplateRecord} (h : ∀ x ∈ xs, x.acceptable) :
    checkTemplates xs = some (xs.map templateOf) := by
  induction xs with
  | nil => rfl
  | cons x xs ih =>
    obtain ⟨hx, hxs⟩ := List.forall_mem_cons.1 h
    simp only [checkTemplates, checkTemplate_of_acceptable hx, ih hxs, List.map_cons]

theorem checkTemplates_of_not_acceptable {xs : List TemplateRecord} (h : ¬ ∀ x ∈ xs, x.acceptable) :
    checkTemplates xs = none := by
  induction xs with
  | nil => exact absurd (fun x hx => nomatch hx) h
  | cons x xs ih =>
    rw [List.forall_mem_cons, not_and_or] at h
    obtain hx | hxs := h
    · simp only [checkTemplates, checkTemplate_of_not_acceptable hx]
    · simp only [checkTemplates, ih hxs]
      cases checkTemplate x <;> rfl

/-- What a PATTERN_LOAD must carry (R132; log 29). -/
def PatternAcceptable (count : Byte) (xs : List TemplateRecord) : Prop :=
  1 ≤ count.toNat ∧ count.toNat ≤ 16 ∧ xs.length = count.toNat ∧ ∀ x ∈ xs, x.acceptable

section

variable {count : Byte} {xs : List TemplateRecord}

theorem countMatches_iff : (inRange 1 Config.templateCapacity count.toNat && decide (xs.length = count.toNat)) = true ↔
    (1 ≤ count.toNat ∧ count.toNat ≤ 16) ∧ xs.length = count.toNat := by
  rw [Bool.and_eq_true, inRange_iff, decide_eq_true_iff, Config.templateCapacity]

theorem loadedTemplates_of_acceptable (h : PatternAcceptable count xs) :
    loadedTemplates count xs = some (xs.map templateOf) := by
  obtain ⟨hLow, hHigh, hLength, hAll⟩ := h
  rw [loadedTemplates, if_pos (countMatches_iff.2 ⟨⟨hLow, hHigh⟩, hLength⟩), checkTemplates_of_acceptable hAll]

theorem loadedTemplates_of_not_acceptable (h : ¬ PatternAcceptable count xs) : loadedTemplates count xs = none := by
  unfold loadedTemplates
  split
  · next hCount =>
    obtain ⟨⟨hLow, hHigh⟩, hLength⟩ := countMatches_iff.1 hCount
    exact checkTemplates_of_not_acceptable fun hAll => h ⟨hLow, hHigh, hLength, hAll⟩
  · rfl

variable (s : State)

theorem exec_patternLoad_badValue (h : ¬ PatternAcceptable count xs) :
    exec (.patternLoad count xs) s = .next (s.answer .patternLoad .badValue []) := by
  show execPatternLoad count xs s = _
  rw [execPatternLoad, loadedTemplates_of_not_acceptable h]

theorem exec_patternLoad_busy (h : PatternAcceptable count xs) (hStage : s.spl.planner.stage ≠ .idle) :
    exec (.patternLoad count xs) s = .next (s.answer .patternLoad .busy []) := by
  show execPatternLoad count xs s = _
  rw [execPatternLoad, loadedTemplates_of_acceptable h]
  exact if_pos ((Planner.running_iff _).2 hStage)

/-- `s` with these templates for its pattern, the index back at the first (R132). -/
def State.loadPattern (s : State) (ts : List Template) : State :=
  s.setGenerator { s.spl.generator with templates := ts, index := 0 }

theorem exec_patternLoad_ok (h : PatternAcceptable count xs) (hStage : s.spl.planner.stage = .idle) :
    exec (.patternLoad count xs) s = .next ((s.loadPattern (xs.map templateOf)).answer .patternLoad .ok
      ([count] ++ be 1 s.spl.generator.state.code)) := by
  have hCount : be 1 (xs.map templateOf).length = [count] := by
    rw [be_one, List.length_map, h.2.2.1, BitVec.ofNat_toNat, BitVec.setWidth_eq]
  show execPatternLoad count xs s = _
  rw [execPatternLoad, loadedTemplates_of_acceptable h, ← hCount]
  exact if_neg (Planner.not_running hStage)

/-! ### PATTERN_CONTROL (R134) -/

variable {enable rotation reset : Byte} {anchor : BitVec 32}

theorem exec_patternControl_badValue (h : 1 < enable.toNat ∨ 1 < rotation.toNat ∨ 1 < reset.toNat) :
    exec (.patternControl enable rotation anchor reset) s = .next (s.answer .patternControl .badValue []) := by
  show execPatternControl enable rotation anchor reset s = _
  unfold execPatternControl
  split
  · next e r x he hr hx =>
    obtain h | h | h := h
    · cases he.symm.trans (onOffOf_eq_none.2 h)
    · cases hr.symm.trans (onOffOf_eq_none.2 h)
    · cases hx.symm.trans (onOffOf_eq_none.2 h)
  · rfl

section

variable (h : ¬ (1 < enable.toNat ∨ 1 < rotation.toNat ∨ 1 < reset.toNat))
include h

theorem exec_patternControl_defined : exec (.patternControl enable rotation anchor reset) s
    = if decide (enable = 1) = true ∧ s.spl.generator.templates = [] then .next (s.answer .patternControl .conflict [])
      else
        let u := (s.setGenerator (s.spl.generator.control (decide (enable = 1)) (decide (rotation = 1)) anchor.toNat
          (decide (reset = 1)))).generate
        .next (u.answer .patternControl .ok u.spl.generator.bytes) := by
  obtain ⟨hEnable, hRotation, hReset⟩ := not_or.1 h |>.imp_right not_or.1
  show execPatternControl enable rotation anchor reset s = _
  simp only [execPatternControl, onOffOf_of_le hEnable, onOffOf_of_le hRotation, onOffOf_of_le hReset]

theorem exec_patternControl_conflict (hEnable : enable = 1) (hEmpty : s.spl.generator.templates = []) :
    exec (.patternControl enable rotation anchor reset) s = .next (s.answer .patternControl .conflict []) := by
  rw [exec_patternControl_defined s h]
  exact if_pos ⟨decide_eq_true hEnable, hEmpty⟩

theorem exec_patternControl_ok (hFilled : enable = 0 ∨ s.spl.generator.templates ≠ []) :
    exec (.patternControl enable rotation anchor reset) s =
      let u := (s.setGenerator (s.spl.generator.control (decide (enable = 1)) (decide (rotation = 1)) anchor.toNat
        (decide (reset = 1)))).generate
      .next (u.answer .patternControl .ok u.spl.generator.bytes) := by
  rw [exec_patternControl_defined s h]
  refine if_neg fun ⟨hOne, hEmpty⟩ => hFilled.elim (fun hZero => ?_) (absurd hEmpty)
  rw [hZero] at hOne
  cases hOne

end

end

/-- Settles O45: each check by its own answer; then what the request writes of the generator, and the attempt that
PATTERN_CONTROL makes. -/
theorem patternRequests : Obligations.PatternRequests := by
  unfold Obligations.PatternRequests
  refine ⟨?_, ?_⟩
  · intro count xs s good
    refine ⟨fun h => ⟨_, exec_patternLoad_badValue s h, refuses_answer s .patternLoad _ _⟩,
      fun h hStage => ⟨_, exec_patternLoad_busy s h hStage, refuses_answer s .patternLoad _ _⟩, fun h hStage => ?_⟩
    exact ⟨_, exec_patternLoad_ok s h hStage,
      answers_of_keeps s (k := .patternLoad) (u := s.loadPattern _) (by simp [State.loadPattern, keepsAllBut_iff]) rfl rfl,
      rfl⟩
  · intro enable rotation reset anchor s bad x
    refine ⟨fun h => ⟨_, exec_patternControl_badValue s h, refuses_answer s .patternControl _ _⟩,
      fun h hOne hEmpty => ⟨_, exec_patternControl_conflict s h hOne hEmpty, refuses_answer s .patternControl _ _⟩,
      fun h hFilled => ?_⟩
    refine ⟨_, s.setGenerator (x.control (decide (enable = 1)) (decide (rotation = 1)) anchor.toNat (decide (reset = 1))),
      exec_patternControl_ok s h hFilled, ?_, rfl, rfl, ?_⟩
    · simp only [State.setGenerator, Generator.control, decide_eq_true_eq, x]
    · dsimp only
      rw [Generator.bytes_eq]
      exact answers_of_generate (by simp [keepsAllBut_iff]) .patternControl _

/-! ### PLAN_SET (R138) and PLAN_RUN (R139) -/

section

variable {auto fill : Byte} {horizon gang : BitVec 16} (s : State)

theorem exec_planSet_badValue (h : 1 < auto.toNat ∨ horizon = 0 ∨ fill = 0 ∨ 8 < fill.toNat) :
    exec (.planSet auto horizon gang fill) s = .next (s.answer .planSet .badValue []) := by
  show execPlanSet auto horizon gang fill s = _
  unfold execPlanSet
  split
  · rfl
  · next b hb =>
    refine if_pos (h.elim (fun h => ?_) fun h => h.imp_right fun h => ?_)
    · cases hb.symm.trans (onOffOf_eq_none.2 h)
    · rw [Bool.not_eq_true', ← Bool.not_eq_true, inRange_iff]
      obtain rfl | h := h
      · decide
      · omega

/-- `s` with the four settings of PLAN_SET written (R138). -/
def State.setPlan (s : State) (auto fill : Byte) (horizon gang : BitVec 16) : State :=
  s.setPlanner { s.spl.planner with
    autoPlan := decide (auto = 1), horizon := horizon.toNat, gangHorizon := gang.toNat, fillLevel := fill.toNat }

theorem exec_planSet_ok (h : ¬ (1 < auto.toNat ∨ horizon = 0 ∨ fill = 0 ∨ 8 < fill.toNat)) :
    exec (.planSet auto horizon gang fill) s = .next ((s.setPlan auto fill horizon gang).generate.answer .planSet .ok
      (s.setPlan auto fill horizon gang).generate.spl.planner.bytes) := by
  simp only [not_or] at h
  obtain ⟨hAuto, hHorizon, hFill, hTop⟩ := h
  rw [← ne_eq, ← toNat_ne_zero_iff] at hFill
  show execPlanSet auto horizon gang fill s = _
  rw [execPlanSet, onOffOf_of_le hAuto]
  refine if_neg fun hBad => ?_
  rw [Bool.not_eq_true', ← Bool.not_eq_true, inRange_iff] at hBad
  exact hBad.elim hHorizon fun hRange => hRange ⟨by omega, by omega⟩

theorem exec_planRun_busy (h : s.spl.planner.stage ≠ .idle) : exec .planRun s = .next (s.answer .planRun .busy []) := by
  show execPlanRun s = _
  exact if_pos ((Planner.running_iff _).2 h)

theorem exec_planRun_accepted (h : s.spl.planner.stage = .idle) :
    exec .planRun s = .next ((s.setPlanner s.spl.planner.start).answer .planRun .accepted []) := by
  show execPlanRun s = _
  exact if_neg (Planner.not_running h)

/-- The data of PLAN_SET: the settings as given, the planner state and the rerun flag (R138). -/
theorem State.setPlan_bytes (h : ¬ 1 < auto.toNat) : (s.setPlan auto fill horizon gang).generate.spl.planner.bytes
    = [auto] ++ be 2 horizon.toNat ++ be 2 gang.toNat ++ [fill]
      ++ [if s.spl.planner.stage = .idle then 0 else 1, if s.spl.planner.rerun then 1 else 0] := by
  have hRunning : flagByte s.spl.planner.running = if s.spl.planner.stage = .idle then 0 else 1 := by
    by_cases hStage : s.spl.planner.stage = .idle <;> simp [flagByte, Planner.running, hStage]
  have hFill : be 1 fill.toNat = [fill] := by rw [be_one, BitVec.ofNat_toNat, BitVec.setWidth_eq]
  calc
    _ = (s.setPlan auto fill horizon gang).spl.planner.bytes := by rw [State.planner_generate]
    _ = [flagByte (decide (auto = 1))] ++ be 2 horizon.toNat ++ be 2 gang.toNat ++ be 1 fill.toNat
        ++ [flagByte s.spl.planner.running, flagByte s.spl.planner.rerun] := rfl
    _ = _ := by rw [flagByte_onOff h, hRunning, hFill, flagByte]

end

/-- Settles O47: each check by its own answer; then what the request writes of the planner, and the attempt that
PLAN_SET makes. -/
theorem planSetAndRun : Obligations.PlanSetAndRun := by
  unfold Obligations.PlanSetAndRun
  refine ⟨?_, fun s => ⟨fun h => ⟨_, exec_planRun_busy s h, refuses_answer s .planRun _ _⟩, fun h => ⟨_,
    exec_planRun_accepted s h, answers_of_keeps s (k := .planRun) (by simp [keepsAllBut_iff]) rfl rfl, rfl⟩⟩⟩
  intro auto horizon gang fill s bad p
  refine ⟨fun h => ⟨_, exec_planSet_badValue s h, refuses_answer s .planSet _ _⟩, fun h => ?_⟩
  refine ⟨_, s.setPlan auto fill horizon gang, exec_planSet_ok s h, rfl, rfl, rfl, ?_⟩
  rw [← State.setPlan_bytes s (not_or.1 h).1]
  exact answers_of_generate (by simp [State.setPlan, keepsAllBut_iff]) .planSet _

end Sys2Proof.Machine
end

section
/-! SUPPORT. The next tag, WINDOW_ADD and WINDOW_REMOVE (R124 to R127): O43. -/

namespace Sys2Proof.Machine

/-! ### The next tag (R125) -/

/-- The tag `k` places after the last one issued, counting on from 255 to 1. -/
def tagAfter (last k : Nat) : Nat := (last + k) % 255 + 1

/-- Every tag comes at its place. -/
theorem tagAfter_of_range {last x : Nat} (hLast : last ≤ 255) (hx : 1 ≤ x ∧ x ≤ 255) :
    tagAfter last ((x + 254 - last) % 255) = x := by
  unfold tagAfter
  omega

theorem place_tagAfter {last k : Nat} (hLast : last ≤ 255) (hk : k < 255) : (tagAfter last k + 254 - last) % 255 = k := by
  unfold tagAfter
  omega

/-- The next tag comes first of the tags that no listed window uses. -/
theorem nextTag_first {last : Nat} {ws : List MaintWindow} (hLast : last ≤ 255) {x : Nat}
    (hx : 1 ≤ x ∧ x ≤ 255) (hFree : ∀ w ∈ ws, w.tag ≠ x) :
    (nextTag last ws + 254 - last) % 255 ≤ (x + 254 - last) % 255 := by
  have hFind : ((List.range 255).map (tagAfter last)).find? (fun t => ws.all fun w => w.tag ≠ t)
      = some (nextTag last ws) := by
    have hSome : (((List.range 255).map (tagAfter last)).find? fun t => ws.all fun w => w.tag ≠ t).isSome := by
      rw [List.find?_isSome]
      refine ⟨x, List.mem_map.2 ⟨_, List.mem_range.2 (Nat.mod_lt _ (by decide)), tagAfter_of_range hLast hx⟩, ?_⟩
      simpa using hFree
    obtain ⟨t, ht⟩ := Option.isSome_iff_exists.1 hSome
    rw [ht]
    exact congrArg some (congrArg (Option.getD · 0) ht).symm
  obtain ⟨-, k, hk, hTag, hBefore⟩ := List.find?_eq_some_iff_getElem.1 hFind
  rw [List.length_map, List.length_range] at hk
  rw [List.getElem_map, List.getElem_range] at hTag
  rw [← hTag, place_tagAfter hLast hk]
  by_contra hLess
  have hPlace := hBefore ((x + 254 - last) % 255) (Nat.lt_of_not_le hLess)
  rw [List.getElem_map, List.getElem_range, tagAfter_of_range hLast hx] at hPlace
  simp only [Bool.not_eq_true', List.all_eq_false, decide_eq_true_eq, not_not] at hPlace
  obtain ⟨w, hw, hUsed⟩ := hPlace
  exact hFree w hw hUsed

/-! ### WINDOW_ADD (R126) -/

/-- Where a window enters the list: behind those that start no later, ahead of the first that starts later (R124). -/
theorem insertWindow_eq_append (w : MaintWindow) (ws : List MaintWindow) : ∃ front back,
    ws = front ++ back ∧ insertWindow w ws = front ++ w :: back ∧ (∀ x ∈ front, x.start ≤ w.start)
      ∧ ∀ x, back.head? = some x → w.start < x.start := by
  induction ws with
  | nil => exact ⟨[], [], rfl, rfl, fun _ h => (nomatch h), fun _ h => (nomatch h)⟩
  | cons y ws ih =>
    unfold insertWindow
    split
    · next hle =>
      obtain ⟨front, back, hList, hInsert, hFront, hBack⟩ := ih
      exact ⟨y :: front, back, by rw [hList]; rfl, by rw [hInsert]; rfl, List.forall_mem_cons.2 ⟨hle, hFront⟩, hBack⟩
    · next hlt =>
      refine ⟨[], y :: ws, rfl, rfl, fun _ h => (nomatch h), fun x hx => ?_⟩
      cases hx
      exact Nat.lt_of_not_le hlt

section

variable {start : BitVec 32} {length : Byte} {capacity : BitVec 16} {mask : BitVec 24} (s : State)

theorem exec_windowAdd_badValue (h : start.toNat ≤ s.etm.epoch ∨ length = 0 ∨ capacity = 0 ∨ mask = 0) :
    exec (.windowAdd start length capacity mask) s = .next (s.answer .windowAdd .badValue []) := by
  show execWindowAdd start length capacity mask s = _
  exact if_pos h

section

variable (h : ¬ (start.toNat ≤ s.etm.epoch ∨ length = 0 ∨ capacity = 0 ∨ mask = 0))
include h

theorem exec_windowAdd_busy (hStage : s.spl.planner.stage ≠ .idle) :
    exec (.windowAdd start length capacity mask) s = .next (s.answer .windowAdd .busy []) := by
  show execWindowAdd start length capacity mask s = _
  rw [execWindowAdd, if_neg h, if_pos ((Planner.running_iff _).2 hStage)]

variable (hStage : s.spl.planner.stage = .idle)
include hStage

theorem exec_windowAdd_noRoom (hFull : 8 ≤ s.spl.windows.length) :
    exec (.windowAdd start length capacity mask) s = .next (s.answer .windowAdd .noRoom []) := by
  show execWindowAdd start length capacity mask s = _
  rw [execWindowAdd, if_neg h, if_neg (Planner.not_running hStage)]
  exact if_pos hFull

theorem exec_windowAdd_ok (hRoom : s.spl.windows.length < 8) :
    exec (.windowAdd start length capacity mask) s =
      .next ((s.listWindow start.toNat length.toNat capacity.toNat mask .host).answer .windowAdd .ok
        (be 1 (nextTag s.spl.lastTag s.spl.windows) ++ be 1 (s.spl.windows.length + 1))) := by
  have hLength : (s.listWindow start.toNat length.toNat capacity.toNat mask .host).spl.windows.length
      = s.spl.windows.length + 1 := (insertWindow_perm _ _).length_eq
  show execWindowAdd start length capacity mask s = _
  rw [execWindowAdd, if_neg h, if_neg (Planner.not_running hStage), ← hLength]
  exact if_neg (Nat.not_le.2 hRoom)

end

end

/-! ### WINDOW_REMOVE (R127) -/

section

variable {tag : Byte} (s : State)

theorem exec_windowRemove_badValue (h : tag = 0) :
    exec (.windowRemove tag) s = .next (s.answer .windowRemove .badValue []) := by
  show execWindowRemove tag s = _
  exact if_pos h

section

variable (h : tag ≠ 0)
include h

theorem exec_windowRemove_busy (hStage : s.spl.planner.stage ≠ .idle) :
    exec (.windowRemove tag) s = .next (s.answer .windowRemove .busy []) := by
  show execWindowRemove tag s = _
  rw [execWindowRemove, if_neg h, if_pos ((Planner.running_iff _).2 hStage)]

variable (hStage : s.spl.planner.stage = .idle)
include hStage

theorem exec_windowRemove_noSuch (hNone : ∀ w ∈ s.spl.windows, w.tag ≠ tag.toNat) :
    exec (.windowRemove tag) s = .next (s.answer .windowRemove .noSuch []) := by
  have hWindow : s.windowOf tag.toNat = none := List.find?_eq_none.2 (by simpa using hNone)
  show execWindowRemove tag s = _
  rw [execWindowRemove, if_neg h, if_neg (Planner.not_running hStage), hWindow]

variable {w : MaintWindow} (hWindow : s.windowOf tag.toNat = some w)
include hWindow

theorem exec_windowRemove_conflict (hActive : w.state = .active) : exec (.windowRemove tag) s
    = .next (s.answer .windowRemove .conflict (be 4 w.start ++ be 5 (w.start + w.length))) := by
  show execWindowRemove tag s = _
  rw [execWindowRemove, if_neg h, if_neg (Planner.not_running hStage), hWindow]
  dsimp only
  rw [hActive]
  rfl

theorem exec_windowRemove_ok (hOpen : w.state = .opened) : exec (.windowRemove tag) s
    = .next ((s.removeWindow tag.toNat).1.generate.answer .windowRemove .ok
        (be 1 (s.slotsThat (Order.awaits tag.toNat)).length)) := by
  show execWindowRemove tag s = _
  rw [execWindowRemove, if_neg h, if_neg (Planner.not_running hStage), hWindow]
  dsimp only
  rw [hOpen]
  rfl

end

/-- What a removal does to an order: one SCHEDULED in the window returns to PROPOSED. -/
theorem Order.atRemoval_eq (tag : Nat) (o : Order) :
    o.atRemoval tag = if o.state = .scheduled ∧ o.tag = some tag then o.proposed else o := by
  simp only [Order.atRemoval, rewriteIf, Order.awaits_iff]
  rfl

/-- The slots whose orders pass a test, counted. -/
theorem State.length_slotsThat (s : State) (test : Order → Bool) :
    (s.slotsThat test).length = allSlots.countP fun k => match s.slot k with
      | some o => test o
      | none => false := List.countP_eq_length_filter.symm

/-- The listed window of a tag, where one window alone has it. -/
theorem State.windowOf_of_onlyTag {s : State} {w : MaintWindow} (hw : w ∈ s.spl.windows)
    (hOne : ∀ x ∈ s.spl.windows, x.tag = w.tag → x = w) : s.windowOf w.tag = some w := by
  have hSome : (s.windowOf w.tag).isSome := List.find?_isSome.2 ⟨w, hw, decide_eq_true rfl⟩
  obtain ⟨x, hx⟩ := Option.isSome_iff_exists.1 hSome
  obtain ⟨hMem, hTag⟩ := State.windowOf_eq_some hx
  rw [hx, hOne x hMem hTag]

end

/-- Settles O43: the next tag comes first of those free; then each check of the two requests by its own answer, and what the
request writes of the list and the orders. -/
theorem windowRequests : Obligations.WindowRequests := by
  unfold Obligations.WindowRequests
  refine ⟨fun last ws hLast hLength => ?_, ?_, fun tag s => ⟨fun h => ?_, fun h hStage => ?_, fun h hStage =>
    ⟨fun hNone => ?_, fun w hw hTag hOne => ⟨fun hActive => ?_, fun hOpen => ?_⟩⟩⟩⟩
  · obtain ⟨⟨hLow, hHigh⟩, hNew⟩ := nextTag_spec last (Nat.lt_of_le_of_lt hLength (by decide))
    exact ⟨hLow, hHigh, hNew, fun x hx hx' => nextTag_first hLast ⟨hx, hx'⟩⟩
  · intro start length capacity mask s i bad
    refine ⟨fun h => ⟨_, exec_windowAdd_badValue s h, refuses_answer s .windowAdd _ _⟩,
      fun h hStage => ⟨_, exec_windowAdd_busy s h hStage, refuses_answer s .windowAdd _ _⟩,
      fun h hStage hFull => ⟨_, exec_windowAdd_noRoom s h hStage hFull, refuses_answer s .windowAdd _ _⟩, ?_⟩
    intro h hStage hRoom w
    obtain ⟨front, back, hList, hInsert, hFront, hBack⟩ := insertWindow_eq_append w s.spl.windows
    exact ⟨_, exec_windowAdd_ok s h hStage hRoom,
      answers_of_keeps s (k := .windowAdd) (s.listWindow_keeps _ _ _ _ _) rfl rfl, rfl, ⟨rfl, rfl⟩, rfl, rfl,
      front, back, hList, hInsert, rfl, hFront, hBack⟩
  · exact ⟨_, exec_windowRemove_badValue s h, refuses_answer s .windowRemove _ _⟩
  · exact ⟨_, exec_windowRemove_busy s h hStage, refuses_answer s .windowRemove _ _⟩
  · exact ⟨_, exec_windowRemove_noSuch s h hStage hNone, refuses_answer s .windowRemove _ _⟩
  · have hWindow := State.windowOf_of_onlyTag hw hOne
    rw [hTag] at hWindow
    exact ⟨_, exec_windowRemove_conflict s h hStage hWindow hActive, refuses_answer s .windowRemove _ _⟩
  · have hWindow := State.windowOf_of_onlyTag hw hOne
    obtain ⟨_, hSpl⟩ := s.removeWindow_spl w.tag
    rw [hTag] at hWindow hSpl ⊢
    refine ⟨_, (s.removeWindow tag.toNat).1, exec_windowRemove_ok s h hStage hWindow hOpen, s.removeWindow_keeps _,
      by rw [hSpl], ⟨by rw [hSpl], by rw [hSpl]⟩, by rw [hSpl], fun k => ?_, rfl, rfl, ?_⟩
    · rw [s.slot_removeWindow]
      exact congrArg (Option.map · (s.slot k)) (funext fun o => o.atRemoval_eq _)
    · have hAnswers := answers_of_generate (s.removeWindow_keeps tag.toNat) .windowRemove
        (be 1 (s.slotsThat (Order.awaits tag.toNat)).length)
      rw [s.length_slotsThat] at hAnswers ⊢
      exact hAnswers

end Sys2Proof.Machine
end

section
/-! SUPPORT. What activation and end leave at a boundary (R129, R130), window after window: O44. -/

namespace Sys2Proof.Machine

/-! ### Slots that pass a test, after a rewrite -/

/-- Orders rewritten so that a test stands pass it in the same slots. -/
theorem State.slotsThat_of_mapped {s t : State} {f : Order → Order} {test : Order → Bool}
    (hSlot : ∀ k, t.slot k = (s.slot k).map f) (hTest : ∀ o, test (f o) = test o) :
    t.slotsThat test = s.slotsThat test := by
  refine List.filter_congr fun k _ => ?_
  rw [hSlot]
  cases s.slot k with
  | none => rfl
  | some o => exact hTest o

/-- Some order of the pool passes a test. -/
def State.anyOrder (s : State) (test : Order → Bool) : Bool := allSlots.any fun k => match s.slot k with
  | some o => test o
  | none => false

theorem State.anyOrder_iff {s : State} {test : Order → Bool} :
    s.anyOrder test = true ↔ ∃ k o, s.slot k = some o ∧ test o = true := by
  rw [State.anyOrder, List.any_eq_true]
  refine exists_congr fun k => ?_
  cases s.slot k <;> simp [allSlots]

theorem State.slotsThat_isEmpty (s : State) (test : Order → Bool) :
    (!(s.slotsThat test).isEmpty) = s.anyOrder test := by
  rw [Bool.eq_iff_iff, State.anyOrder_iff, Bool.not_eq_true', List.isEmpty_eq_false_iff_exists_mem]
  simp only [s.mem_slotsThat]

theorem State.anyOrder_of_mapped {s t : State} {f : Order → Order} (hSlot : ∀ k, t.slot k = (s.slot k).map f)
    (test : Order → Bool) : t.anyOrder test = s.anyOrder fun o => test (f o) := by
  rw [Bool.eq_iff_iff, State.anyOrder_iff, State.anyOrder_iff]
  simp [hSlot]

theorem State.anyOrder_or (s : State) (p q : Order → Bool) :
    s.anyOrder (fun o => p o || q o) = (s.anyOrder p || s.anyOrder q) := by
  rw [Bool.eq_iff_iff, Bool.or_eq_true]
  simp only [State.anyOrder_iff, Bool.or_eq_true, and_or_left, exists_or]

/-- Tags are distinct, so the tag of a listed window comes in a part of the list just where the window does (R125). -/
theorem WindowInv.any_tag {s : State} (h : WindowInv s) {x : MaintWindow} (hx : x ∈ s.spl.windows)
    (p : MaintWindow → Bool) : ((s.spl.windows.filter p).any fun w => decide (x.tag = w.tag)) = p x := by
  rw [Bool.eq_iff_iff, List.any_eq_true]
  constructor
  · rintro ⟨w, hw, hTag⟩
    obtain ⟨hMem, hp⟩ := List.mem_filter.1 hw
    rwa [h.eq_of_tag hx hMem (of_decide_eq_true hTag)]
  · exact fun hp => ⟨x, List.mem_filter.2 ⟨hx, hp⟩, decide_eq_true rfl⟩

/-! ### Activation (R129) -/

/-- The notice of a window's activation, unless it ends at the boundary too: the orders released, counted (R129). -/
def State.releaseNote (s : State) (w : MaintWindow) : NoticeKind × Nat × Nat :=
  (.windowReleased, w.tag, (s.slotsThat (Order.awaits w.tag)).length)

section

variable (n : Nat)

theorem State.activateWindow_posted (s : State) (w : MaintWindow) :
    Posts (if n < w.endEpoch then [s.releaseNote w] else []) s (State.activateWindow n s w) := by
  have hFold := fun (u : State) (l : List SlotNo) =>
    (keepsAllBut_foldl (f := State.mapSlot Order.release) (fun u k => u.mapSlot_keeps _ k) l u).1
  unfold State.activateWindow
  dsimp only
  split
  · next hAhead =>
    let u := s.setWindows (activateTag w.tag s.spl.windows)
    have hNq : ((u.slotsThat (Order.awaits w.tag)).foldl (State.mapSlot Order.release) u).nq = s.nq :=
      hFold u _ .nq (by decide)
    have hEtm : ((u.slotsThat (Order.awaits w.tag)).foldl (State.mapSlot Order.release) u).etm = s.etm :=
      hFold u _ .etm (by decide)
    show (State.post _ _ _ _).nq = _
    rw [State.nq_post]
    exact congrArg₂ (fun q (e : Etm) => Nq.post q _ _ _ e.epoch e.tick) hNq hEtm
  · rfl

/-- Activating a window leaves the orders that await another (R109). -/
theorem Order.awaits_atActivation {tag : Nat} {w : MaintWindow} (h : w.tag ≠ tag) (o : Order) :
    (o.atActivation n w).awaits tag = o.awaits tag := by
  obtain ⟨-, -, hTag, e⟩ | ⟨-, e⟩ := o.atActivation_cases n w
  · have hOther : ¬ o.awaits tag = true := fun ho =>
      h (Option.some.inj (hTag.symm.trans ((o.awaits_iff tag).1 ho).2))
    rw [e, Bool.eq_false_iff.2 hOther]
    rfl
  · rw [e]

/-- The activations of windows with tags of their own post what each finds before them all. -/
theorem State.activateFold_posted {l : List MaintWindow} (hTags : l.Pairwise fun a b => a.tag ≠ b.tag) (s : State) :
    Posts ((l.filter fun w => decide (n < w.endEpoch)).map s.releaseNote) s (l.foldl (State.activateWindow n) s) := by
  induction l generalizing s with
  | nil => rfl
  | cons w l ih =>
    obtain ⟨hw, hl⟩ := List.pairwise_cons.1 hTags
    have hNotes : (l.filter fun x => decide (n < x.endEpoch)).map (State.activateWindow n s w).releaseNote
        = (l.filter fun x => decide (n < x.endEpoch)).map s.releaseNote := List.map_congr_left fun x hx => by
      have hSlots := State.slotsThat_of_mapped (s.slot_activateWindow n w)
        (Order.awaits_atActivation n (hw x (List.mem_of_mem_filter hx)))
      rw [State.releaseNote, hSlots, State.releaseNote]
    have hPosts := (s.activateWindow_posted n w).trans (s.activateWindow_etm n w) (ih hl _)
    rw [hNotes] at hPosts
    by_cases hAhead : n < w.endEpoch
    · rw [if_pos hAhead] at hPosts
      rwa [List.filter_cons, if_pos (decide_eq_true hAhead)]
    · rw [if_neg hAhead] at hPosts
      rwa [List.filter_cons, if_neg (by simpa using hAhead)]

/-- The orders after the activations of a list: released where one of them awaits. -/
theorem State.slot_activateFold (l : List MaintWindow) (s : State) (k : SlotNo) :
    (l.foldl (State.activateWindow n) s).slot k
      = (s.slot k).map (rewriteIf (fun o => l.any fun w => decide (n < w.endEpoch) && o.awaits w.tag) Order.release) := by
  induction l generalizing s with
  | nil => exact Option.map_id'.symm
  | cons w l ih =>
    rw [List.foldl_cons, ih, s.slot_activateWindow, Option.map_map]
    refine congrArg (Option.map · (s.slot k)) (funext fun o => ?_)
    rw [Function.comp, rewriteIf, rewriteIf, List.any_cons]
    obtain ⟨hAhead, hState, hTag, e⟩ | ⟨hOther, e⟩ := o.atActivation_cases n w
    · have hAwaits : o.awaits w.tag = true := (o.awaits_iff _).2 ⟨hState, hTag⟩
      have hDone : ∀ tag, o.release.awaits tag = false := fun _ => rfl
      simp [e, hAwaits, hAhead, hDone]
    · have hNot : (decide (n < w.endEpoch) && o.awaits w.tag) = false := by
        rw [Bool.and_eq_false_imp, decide_eq_true_iff, Bool.eq_false_iff]
        exact fun hAhead ho => hOther hAhead ((o.awaits_iff _).1 ho).1 ((o.awaits_iff _).1 ho).2
      rw [e, hNot, Bool.false_or]

/-- The windows after the activations of a list: ACTIVE under the tags in the list. -/
theorem State.windows_activateFold (l : List MaintWindow) (s : State) :
    (l.foldl (State.activateWindow n) s).spl.windows
      = s.spl.windows.map fun x => if l.any (fun w => x.tag = w.tag) then { x with state := .active } else x := by
  induction l generalizing s with
  | nil => exact List.map_id'' (fun _ => rfl) _ |>.symm
  | cons w l ih =>
    obtain ⟨_, hSpl⟩ := s.activateWindow_spl n w
    rw [List.foldl_cons, ih, hSpl, activateTag, List.map_map]
    refine List.map_congr_left fun x _ => ?_
    rw [Function.comp, List.any_cons]
    by_cases hTag : x.tag = w.tag
    · simp [hTag]
    · simp [hTag]

/-- Of the SPL the activations write the orders and the windows. -/
theorem State.activateWindows_spl (s : State) : ∃ orders windows,
    (s.activateWindows n).spl = { s.spl with orders, windows } :=
  foldl_rel (R := fun u v => ∃ orders windows, v.spl = { u.spl with orders, windows }) (fun _ => ⟨_, _, rfl⟩)
    (fun {_ _ _} h h' => by
      obtain ⟨_, _, e⟩ := h
      obtain ⟨_, _, e'⟩ := h'
      rw [e] at e'
      exact ⟨_, _, e'⟩)
    (fun w _ u => by
      obtain ⟨_, e⟩ := u.activateWindow_spl n w
      exact ⟨_, _, e⟩) s

end

/-! ### The end of windows (R130) -/

/-- The notice of an order that its window's end returns (R130). -/
def Order.missNote (tag : Nat) (o : Order) : NoticeKind × Nat × Nat :=
  (.orderMissed, o.member.val, tag * 65536 + o.miss.missed)

/-- The notices of a window's end, in ascending slot order. -/
def State.missNotes (s : State) (w : MaintWindow) : List (NoticeKind × Nat × Nat) :=
  (s.slotsToMiss w.tag).filterMap fun k => (s.slot k).map (Order.missNote w.tag)

theorem State.missOrder_posted (tag : Nat) (s : State) (k : SlotNo) :
    Posts (((s.slot k).map (Order.missNote tag)).toList) s (State.missOrder tag s k) := by
  unfold State.missOrder
  cases s.slot k <;> rfl

/-- The orders of slots of their own, missed one after another. -/
theorem State.missFold_posted (tag : Nat) {l : List SlotNo} (hl : l.Nodup) (s : State) :
    Posts (l.filterMap fun k => (s.slot k).map (Order.missNote tag)) s (l.foldl (State.missOrder tag) s) := by
  induction l generalizing s with
  | nil => rfl
  | cons k l ih =>
    obtain ⟨hk, hl⟩ := List.nodup_cons.1 hl
    have hRest : l.filterMap (fun j => ((State.missOrder tag s k).slot j).map (Order.missNote tag))
        = l.filterMap fun j => (s.slot j).map (Order.missNote tag) := List.filterMap_congr fun j hj => by
      have hNe : j ≠ k := fun e => hk (e ▸ hj)
      rw [State.missOrder_slot, State.slot_mapSlot, if_neg hNe]
    have hPosts := (s.missOrder_posted tag k).trans (s.missOrder_etm tag k) (ih hl _)
    rw [hRest] at hPosts
    rw [List.filterMap_cons]
    cases ho : s.slot k with
    | none => rwa [ho] at hPosts
    | some o => rwa [ho] at hPosts

section

variable (s : State) (w : MaintWindow)

theorem State.endWindow_posted : Posts (s.missNotes w) s (s.endWindow w) := by
  have hFold := State.missFold_posted w.tag (s.slotsThat_nodup (Order.endsWith w.tag)) s
  unfold State.endWindow
  dsimp only
  split
  · exact hFold
  · show State.nq _ = _
    rw [State.requestRerun_nq]
    exact hFold

/-- A run in flight is to be repeated where an order was returned (R152). -/
theorem State.planner_endWindow : (s.endWindow w).spl.planner = { s.spl.planner with
    rerun := s.spl.planner.rerun || (decide (s.spl.planner.stage ≠ .idle) && !(s.slotsToMiss w.tag).isEmpty) } := by
  obtain ⟨_, hFold⟩ := spl_foldl s (g := State.missOrder w.tag) (fun u k => u.missOrder_spl w.tag k)
    (s.slotsToMiss w.tag)
  unfold State.endWindow
  dsimp only
  split
  · next hNone => simp [hNone, hFold]
  · next hSome =>
    rw [State.requestRerun_spl]
    simp [hSome, hFold]

end

theorem Order.atEnd_of_endsWith {tag : Nat} {o : Order} (h : o.endsWith tag = true) : o.atEnd tag = o.miss := if_pos h

theorem Order.atEnd_of_not_endsWith {tag : Nat} {o : Order} (h : ¬ o.endsWith tag = true) : o.atEnd tag = o := if_neg h

theorem Order.tag_of_endsWith {tag : Nat} {o : Order} (h : o.endsWith tag = true) : o.tag = some tag := by
  rw [Order.endsWith, Bool.and_eq_true] at h
  exact of_decide_eq_true h.2

/-- A missed order names no window. -/
@[simp] theorem Order.endsWith_miss (tag : Nat) (o : Order) : o.miss.endsWith tag = false := rfl

/-- The end of a window leaves the orders that end with another. -/
theorem Order.endsWith_atEnd {tag : Nat} {w : MaintWindow} (h : w.tag ≠ tag) (o : Order) :
    (o.atEnd w.tag).endsWith tag = o.endsWith tag := by
  by_cases ho : o.endsWith w.tag = true
  · have hOther : ¬ o.endsWith tag = true := fun ho' =>
      h (Option.some.inj ((Order.tag_of_endsWith ho).symm.trans (Order.tag_of_endsWith ho')))
    rw [Order.atEnd_of_endsWith ho, Order.endsWith_miss, Bool.eq_false_iff.2 hOther]
  · rw [Order.atEnd_of_not_endsWith ho]

/-- The orders that the ends of a list of windows return. -/
def Order.endsIn (l : List MaintWindow) (o : Order) : Bool := l.any fun w => o.endsWith w.tag

/-- An order ends in a list just where it ends with the first window or, as that end leaves it, in the rest. -/
theorem Order.endsIn_cons (w : MaintWindow) (l : List MaintWindow) (o : Order) :
    o.endsIn (w :: l) = (o.endsWith w.tag || (o.atEnd w.tag).endsIn l) := by
  rw [Order.endsIn, List.any_cons]
  by_cases ho : o.endsWith w.tag = true
  · rw [ho, Bool.true_or, Bool.true_or]
  · rw [Order.atEnd_of_not_endsWith ho, Order.endsIn]

/-- The ends of windows with tags of their own post what each finds before them all. -/
theorem State.endFold_posted {l : List MaintWindow} (hTags : l.Pairwise fun a b => a.tag ≠ b.tag) (s : State) :
    Posts (l.flatMap s.missNotes) s (l.foldl State.endWindow s) := by
  induction l generalizing s with
  | nil => rfl
  | cons w l ih =>
    obtain ⟨hw, hl⟩ := List.pairwise_cons.1 hTags
    have hNotes : l.flatMap (s.endWindow w).missNotes = l.flatMap s.missNotes := List.flatMap_congr fun x hx => by
      have hSlots : (s.endWindow w).slotsToMiss x.tag = s.slotsToMiss x.tag :=
        State.slotsThat_of_mapped (s.slot_endWindow w) (Order.endsWith_atEnd (hw x hx))
      rw [State.missNotes, hSlots]
      refine List.filterMap_congr fun k hk => ?_
      obtain ⟨o, ho, hEnds⟩ := s.mem_slotsThat.1 hk
      have hOther : ¬ o.endsWith w.tag = true := fun ho' =>
        hw x hx (Option.some.inj ((Order.tag_of_endsWith ho').symm.trans (Order.tag_of_endsWith hEnds)))
      rw [s.slot_endWindow, ho, Option.map_some, Order.atEnd_of_not_endsWith hOther]
    have hPosts := (s.endWindow_posted w).trans (s.endWindow_etm w) (ih hl _)
    rwa [hNotes] at hPosts

/-- The orders after the ends of a list of windows. -/
theorem State.slot_endFold (l : List MaintWindow) (s : State) (k : SlotNo) :
    (l.foldl State.endWindow s).slot k = (s.slot k).map (rewriteIf (Order.endsIn l) Order.miss) := by
  induction l generalizing s with
  | nil => exact Option.map_id'.symm
  | cons w l ih =>
    rw [List.foldl_cons, ih, s.slot_endWindow, Option.map_map]
    refine congrArg (Option.map · (s.slot k)) (funext fun o => ?_)
    rw [Function.comp, rewriteIf, rewriteIf, o.endsIn_cons]
    by_cases ho : o.endsWith w.tag = true
    · have hDone : o.miss.endsIn l = false := List.any_eq_false.2 fun _ _ => Bool.false_ne_true
      simp [Order.atEnd_of_endsWith ho, ho, hDone]
    · simp [Order.atEnd_of_not_endsWith ho, ho]

/-- The windows after the ends of a list: those under other tags. -/
theorem State.windows_endFold (l : List MaintWindow) (s : State) : (l.foldl State.endWindow s).spl.windows
    = s.spl.windows.filter fun x => !(l.any fun w => decide (x.tag = w.tag)) := by
  induction l generalizing s with
  | nil => exact (List.filter_true _).symm
  | cons w l ih =>
    obtain ⟨_, _, hSpl⟩ := s.endWindow_spl w
    rw [List.foldl_cons, ih, hSpl, List.filter_filter]
    refine List.filter_congr fun x _ => ?_
    rw [List.any_cons, Bool.not_or, Bool.and_comm]
    congr 1
    simp

/-- A run in flight is to be repeated where any of the ends returned an order (R152). -/
theorem State.planner_endFold (l : List MaintWindow) (s : State) :
    (l.foldl State.endWindow s).spl.planner = { s.spl.planner with
      rerun := s.spl.planner.rerun || (decide (s.spl.planner.stage ≠ .idle) && s.anyOrder (Order.endsIn l)) } := by
  induction l generalizing s with
  | nil =>
    have hNone : s.anyOrder (Order.endsIn []) = false := Bool.eq_false_iff.2 fun h => by
      obtain ⟨_, _, -, hEnds⟩ := State.anyOrder_iff.1 h
      cases hEnds
    rw [hNone, Bool.and_false, Bool.or_false]
    rfl
  | cons w l ih =>
    have hAny : s.anyOrder (Order.endsIn (w :: l))
        = (s.anyOrder (Order.endsWith w.tag) || (s.endWindow w).anyOrder (Order.endsIn l)) := by
      rw [State.anyOrder_of_mapped (s.slot_endWindow w), ← State.anyOrder_or]
      exact congrArg s.anyOrder (funext (Order.endsIn_cons w l))
    rw [List.foldl_cons, ih, s.planner_endWindow, hAny, ← s.slotsThat_isEmpty, Bool.and_or_distrib_left, ← Bool.or_assoc]
    rfl

/-- Of the SPL the ends leave the generator and the last tag. -/
theorem State.endWindows_keepsGenerator (n : Nat) (s : State) : KeepsGenerator s (s.endWindows n) :=
  foldl_rel (R := KeepsGenerator) (fun _ => ⟨rfl, rfl⟩)
    (fun {_ _ _} ⟨hGen, hTag⟩ ⟨hGen', hTag'⟩ => ⟨hGen'.trans hGen, hTag'.trans hTag⟩)
    (fun w _ u => by
      obtain ⟨_, _, hSpl⟩ := u.endWindow_spl w
      exact ⟨by rw [hSpl], by rw [hSpl]⟩) s

/-! ### O44 -/

/-- An order awaits the activation of a window that starts and stays, put as one test of the window list. -/
theorem any_awaits (n : Nat) (starts : MaintWindow → Bool) (ws : List MaintWindow) (o : Order) :
    ((ws.filter starts).any fun w => decide (n < w.endEpoch) && o.awaits w.tag)
      = (decide (o.state = .scheduled)
        && ws.any fun w => starts w && !decide (w.start + w.length ≤ n) && decide (o.tag = some w.tag)) := by
  rw [Bool.eq_iff_iff]
  simp only [List.any_eq_true, List.mem_filter, Bool.and_eq_true, Bool.not_eq_true', decide_eq_true_eq,
    decide_eq_false_iff_not, Nat.not_le, Order.awaits_iff]
  constructor
  · rintro ⟨w, ⟨hw, hStarts⟩, hAhead, hState, hTag⟩
    exact ⟨hState, w, hw, ⟨hStarts, hAhead⟩, hTag⟩
  · rintro ⟨hState, w, hw, ⟨hStarts, hAhead⟩, hTag⟩
    exact ⟨w, ⟨hw, hStarts⟩, hAhead, hState, hTag⟩

/-- The window whose end returns an order, if any. -/
def Order.endingWindow (n : Nat) (ws : List MaintWindow) (o : Order) : Option MaintWindow :=
  if o.state = .released || o.state = .scheduled then
    ws.find? fun w => decide (w.start + w.length ≤ n) && decide (o.tag = some w.tag)
  else none

theorem Order.isSome_endingWindow (n : Nat) (ws : List MaintWindow) (o : Order) :
    (o.endingWindow n ws).isSome = o.endsIn (ws.filter fun w => decide (w.endEpoch ≤ n)) := by
  rw [Order.endsIn, List.any_filter, Order.endingWindow]
  split
  · next hState =>
    rw [List.isSome_find?]
    refine congrArg ws.any (funext fun w => ?_)
    rw [Order.endsWith, hState, Bool.true_and]
    rfl
  · next hState =>
    refine (List.any_eq_false.2 fun w _ => ?_).symm
    rw [Order.endsWith, Bool.eq_false_iff.2 hState, Bool.false_and, Bool.and_false]
    exact Bool.false_ne_true

section

variable (s : State) (n : Nat)

theorem State.slot_activateWindows (k : SlotNo) : (s.activateWindows n).slot k = (s.slot k).map fun o =>
    if o.state = .scheduled && s.spl.windows.any (fun w => (w.state = .opened && decide (w.start ≤ n))
        && !decide (w.start + w.length ≤ n) && o.tag = some w.tag) then o.release else o := by
  rw [State.activateWindows, State.slot_activateFold]
  refine congrArg (Option.map · (s.slot k)) (funext fun o => ?_)
  rw [rewriteIf, any_awaits]

theorem State.slot_endWindows (k : SlotNo) : (s.endWindows n).slot k = (s.slot k).map fun o =>
    if (o.endingWindow n s.spl.windows).isSome then o.miss else o := by
  simp only [State.endWindows, State.slot_endFold, Order.isSome_endingWindow]
  rfl

theorem State.planner_endWindows : (s.endWindows n).spl.planner = { s.spl.planner with
    rerun := s.spl.planner.rerun || (decide (s.spl.planner.stage ≠ .idle)
      && s.anyOrder fun o => (o.endingWindow n s.spl.windows).isSome) } := by
  simp only [State.endWindows, State.planner_endFold, Order.isSome_endingWindow]

theorem State.missNotes_eq (w : MaintWindow) : s.missNotes w = allSlots.filterMap fun k => (s.slot k).bind fun o =>
    if o.endsWith w.tag then some (o.missNote w.tag) else none := by
  rw [State.missNotes, State.slotsToMiss, State.slotsThat, List.filterMap_filter]
  refine List.filterMap_congr fun k _ => ?_
  cases s.slot k <;> rfl

end

section

variable {s : State} (h : WindowInv s) (n : Nat)
include h

theorem State.windows_activateWindows : (s.activateWindows n).spl.windows = s.spl.windows.map fun w =>
    if w.state = .opened && decide (w.start ≤ n) then { w with state := .active } else w := by
  rw [State.activateWindows, State.windows_activateFold]
  exact List.map_congr_left fun w hw => by rw [h.any_tag hw]

theorem State.activateWindows_posted :
    Posts ((s.spl.windows.filter fun w => w.state = .opened && decide (w.start ≤ n)
      && !decide (w.start + w.length ≤ n)).map s.releaseNote) s (s.activateWindows n) := by
  have hPosts := State.activateFold_posted n (h.2.2.1.filter fun w => w.state = .opened && decide (w.start ≤ n)) s
  rw [List.filter_filter] at hPosts
  have hSame : (s.spl.windows.filter fun w => decide (n < w.endEpoch) && (w.state = .opened && decide (w.start ≤ n)))
      = s.spl.windows.filter fun w => w.state = .opened && decide (w.start ≤ n) && !decide (w.start + w.length ≤ n) :=
    List.filter_congr fun w _ => by
      rw [Bool.and_comm, ← decide_not]
      exact congrArg _ (decide_eq_decide.2 Nat.not_le.symm)
  rwa [hSame] at hPosts

theorem State.windows_endWindows : (s.endWindows n).spl.windows
    = s.spl.windows.filter fun w => !decide (w.start + w.length ≤ n) := by
  rw [State.endWindows, State.windows_endFold]
  exact List.filter_congr fun w hw => by rw [h.any_tag hw, MaintWindow.endEpoch]

theorem State.endWindows_posted :
    Posts ((s.spl.windows.filter fun w => decide (w.start + w.length ≤ n)).flatMap fun w => allSlots.filterMap fun k =>
      (s.slot k).bind fun o => if o.endsWith w.tag then some (o.missNote w.tag) else none) s (s.endWindows n) := by
  simp only [← s.missNotes_eq]
  exact State.endFold_posted (h.2.2.1.filter _) s

end

/-- Settles O44: distinct tags keep each window's activation and end apart, so the whole list leaves what each window would
alone. -/
theorem windowsActivateAndEnd : Obligations.WindowsActivateAndEnd := by
  unfold Obligations.WindowsActivateAndEnd
  intro s h n starts ends named a
  obtain ⟨_, _, hSpl⟩ := s.activateWindows_spl n
  refine ⟨rfl, s.activateWindows_keeps n, ⟨by rw [hSpl], by rw [hSpl]⟩, by rw [hSpl],
    State.windows_activateWindows h n, s.slot_activateWindows n, State.activateWindows_posted h n, ?_⟩
  exact ⟨s.endWindows_keeps n, s.endWindows_keepsGenerator n, State.windows_endWindows h n, s.slot_endWindows n,
    s.planner_endWindows n, State.endWindows_posted h n⟩

end Sys2Proof.Machine
end

section
/-! SUPPORT. The commands of a stage out of their turn, and the report of a run (R141, R143, R149, R150): O48. -/

namespace Sys2Proof.Machine

section

variable {s : State}

/-! ### Commands out of their stage (log 25) -/

theorem exec_planMemberWalk_stands (h : ∀ i, s.spl.planner.stage ≠ .walk i) : exec .planMemberWalk s = .next s :=
  congrArg Host.Outcome.next (State.walkVisits_of_stage h 1)

theorem exec_placementReset_stands (h : ∀ i, s.spl.planner.stage ≠ .walk i ∧ s.spl.planner.stage ≠ .takeBack i
    ∧ s.spl.planner.stage ≠ .copyMinutes i) : exec .placementReset s = .next s := by
  show execPlacementReset s = _
  unfold execPlacementReset
  split
  · next i hStage => exact absurd hStage (h i).1
  · next i hStage => exact absurd hStage (h i).2.1
  · next i hStage => exact absurd hStage (h i).2.2
  all_goals rfl

/-- The walk has a record left to visit (R143). -/
theorem exec_placementReset_walking {i : Nat} (hStage : s.spl.planner.stage = .walk i) {n : MemberNo} {m : Member}
    (hn : i ≤ n.val) (hm : s.member n = some m) (hHeld : m.held = false) : exec .placementReset s = .next s := by
  have hLeft : ¬ (s.nextWalk i).isNone = true := fun hNone =>
    s.nextWalk_eq_none.1 (Option.isNone_iff_eq_none.1 hNone) n ⟨hn, m, hm, hHeld⟩
  show execPlacementReset s = _
  rw [execPlacementReset, hStage]
  exact congrArg Host.Outcome.next (if_neg hLeft)

theorem exec_planSort_stands (h : s.spl.planner.stage ≠ .sort) : exec .planSort s = .next s := by
  show execPlanSort s = _
  unfold execPlanSort
  split
  · next hStage => exact absurd hStage h
  all_goals rfl

theorem exec_orderPlacement_stands (h : ∀ i, s.spl.planner.stage ≠ .placement i) : exec .orderPlacement s = .next s := by
  show execOrderPlacement s = _
  unfold execOrderPlacement
  split
  · next i hStage => exact absurd hStage (h i)
  all_goals rfl

/-- Placement has taken the whole sort list. -/
theorem exec_orderPlacement_atEnd {i : Nat} (hStage : s.spl.planner.stage = .placement i)
    (h : s.spl.planner.sortList.length ≤ i) : exec .orderPlacement s = .next s := by
  show execOrderPlacement s = _
  rw [execOrderPlacement, hStage]
  dsimp only
  rw [List.getElem?_eq_none h]

/-- The run is neither in placement nor in ganging. -/
def BeforeGanging (s : State) : Prop := ∀ i j g tag, s.spl.planner.stage ≠ .placement i
  ∧ s.spl.planner.stage ≠ .ganging i ∧ s.spl.planner.stage ≠ .gangRollers j g tag i

theorem exec_ganging_stands (h : BeforeGanging s) : exec .ganging s = .next s := by
  show execGanging s = _
  unfold execGanging
  split
  · next i hStage => exact absurd hStage (h i 0 0 0).1
  · next i hStage => exact absurd hStage (h i 0 0 0).2.1
  · next j g tag i hStage => exact absurd hStage (h i j g tag).2.2
  all_goals rfl

/-- Ganging does not begin while placement goes on, nor with a gang horizon of 0 (R149). -/
theorem exec_ganging_passedOver {i : Nat} (hStage : s.spl.planner.stage = .placement i)
    (h : i < s.spl.planner.sortList.length ∨ s.spl.planner.runGangHorizon = 0) : exec .ganging s = .next s := by
  have hNot : ¬ s.spl.planner.gangingBegins i = true := by
    simp only [Planner.gangingBegins, Bool.and_eq_true, decide_eq_true_eq]
    omega
  show execGanging s = _
  rw [execGanging, hStage]
  exact congrArg Host.Outcome.next (if_neg hNot)

/-! ### The report (R150) -/

/-- From place `i` on, the sort list holds a member that is a BELT. -/
def BeltFrom (s : State) (i : Nat) : Prop :=
  ∃ j n m, i ≤ j ∧ s.spl.planner.sortList[j]? = some n ∧ s.member n = some m ∧ m.kind = .belt

theorem State.nextBelt_eq_none {i : Nat} : s.nextBelt i = none ↔ ¬ BeltFrom s i := by
  constructor
  · rintro hNone ⟨j, n, m, hj, hBelt⟩
    have hAt : BeltAt s i j := ⟨hj, n, m, hBelt⟩
    have hTest := List.find?_range_eq_none.1 hNone j hAt.lt
    rw [Bool.not_eq_true'] at hTest
    exact Bool.false_ne_true (hTest.symm.trans (beltTest_iff.2 hAt))
  · intro h
    exact State.nextBelt_of_none fun j ⟨hj, n, m, hBelt⟩ => h ⟨j, n, m, hj, hBelt⟩

/-- Placement has taken the whole sort list, and ganging has no order left or is passed over (R143, R149). -/
def StagesDone (s : State) : Prop :=
  (∃ i, s.spl.planner.stage = .placement i ∧ s.spl.planner.sortList.length ≤ i
      ∧ (s.spl.planner.runGangHorizon = 0 ∨ ¬ BeltFrom s 0))
  ∨ (∃ i, s.spl.planner.stage = .ganging i ∧ ¬ BeltFrom s i)
  ∨ ∃ j g tag i, s.spl.planner.stage = .gangRollers j g tag i ∧ (∀ r, i ≤ r.val → ¬ RollerOrder s g r)
      ∧ ¬ BeltFrom s (j + 1)

theorem State.reportDue_iff : s.reportDue = true ↔ StagesDone s := by
  unfold State.reportDue StagesDone
  cases hStage : s.spl.planner.stage with
  | placement i => simp [hStage, State.nextBelt_eq_none]
  | ganging i => simp [hStage, State.nextBelt_eq_none]
  | gangRollers j g tag i => simp [hStage, State.nextBelt_eq_none, State.nextRoller_eq_none]
  | idle | walk | takeBack | copyMinutes | sort => simp [hStage]

theorem exec_planDone_early (h : ¬ StagesDone s) : exec .planDone s = .next s :=
  congrArg Host.Outcome.next (if_neg (mt State.reportDue_iff.1 h))

theorem exec_planDone_done (h : StagesDone s) : exec .planDone s
    = .next ((s.setPlanner s.spl.planner.finish).post .planDone 0 (s.spl.planner.report false)) :=
  congrArg Host.Outcome.next (if_pos (State.reportDue_iff.2 h))

theorem BeforeGanging.not_done (h : BeforeGanging s) : ¬ StagesDone s := by
  rintro (⟨i, hStage, -⟩ | ⟨i, hStage, -⟩ | ⟨j, g, tag, i, hStage, -⟩)
  · exact (h i 0 0 0).1 hStage
  · exact (h i 0 0 0).2.1 hStage
  · exact (h i j g tag).2.2 hStage

/-- The packed counts of a run that was not abandoned (R150). -/
theorem Planner.report_completed (p : Planner) :
    p.report false = p.placed * 2 ^ 24 + p.late * 2 ^ 16 + p.unplaced * 2 ^ 8 + p.skipped := by
  rw [Planner.report, Bool.toNat_false, Nat.zero_mul, Nat.zero_add]

end

/-- Settles O48: a command finds nothing to take out of its stage, and PLAN_DONE comes exactly where `State.reportDue_iff`
says. -/
theorem runsAreReported : Obligations.RunsAreReported := by
  unfold Obligations.RunsAreReported
  refine ⟨fun s => ⟨exec_planMemberWalk_stands, exec_placementReset_stands, exec_planSort_stands,
    exec_orderPlacement_stands, fun h => ⟨exec_ganging_stands h, exec_planDone_early (BeforeGanging.not_done h)⟩,
    fun i hStage => ⟨exec_orderPlacement_atEnd hStage, exec_ganging_passedOver hStage⟩,
    fun i n m hStage hn hm hHeld => exec_placementReset_walking hStage hn hm hHeld⟩, fun s => ?_⟩
  intro p beltFrom done
  refine ⟨exec_planDone_early, fun hDone => ⟨_, exec_planDone_done hDone, by simp [keepsAllBut_iff], ⟨rfl, rfl⟩,
    ⟨rfl, rfl⟩, ?_, rfl⟩⟩
  rw [← Planner.report_completed]
  rfl

end Sys2Proof.Machine
end

section
/-! SUPPORT. The member walk (R143, R144): O49. -/

namespace Sys2Proof.Machine

section

variable {s : State} {i : Nat} {n : MemberNo} {m : Member} {k : SlotNo} {o : Order}

/-! ### The visit -/

theorem exec_planMemberWalk (hStage : s.spl.planner.stage = .walk i) :
    exec .planMemberWalk s = .next (s.walkStep i) := by
  show execPlanMemberWalk s = _
  rw [execPlanMemberWalk, State.walkCommand, hStage]

theorem State.walkStep_atEnd (h : s.nextWalk i = none) : s.walkStep i = s.setStage (.walk 192) := by
  rw [State.walkStep, h]

theorem State.walkStep_visits (h : s.nextWalk i = some n) (hm : s.member n = some m) :
    s.walkStep i = (s.walkMember n m).setStage (.walk (n.val + 1)) := by
  simp only [State.walkStep, h, hm]

/-! ### What the walk does at a member (R144) -/

/-- The reason that the walk finds for the member (R143). -/
def State.foundFor (s : State) (m : Member) : Option (Reason × Nat) :=
  reasonFor m s.etm.epoch s.spl.planner.runHorizon

variable {r : Reason} {due : Nat}

theorem State.walkMember_nothing (hNone : NoOrder s n) (hFound : s.foundFor m = none) : s.walkMember n m = s := by
  rw [State.foundFor] at hFound
  rw [State.walkMember, s.openOrder_eq_none.2 hNone, hFound]

theorem State.walkMember_wants (hNone : NoOrder s n) (hFound : s.foundFor m = some (r, due)) :
    s.walkMember n m = s.walkCreate n m r due := by
  rw [State.foundFor] at hFound
  rw [State.walkMember, s.openOrder_eq_none.2 hNone, hFound]

theorem State.walkCreate_full (hFull : ∀ k, (s.slot k).isSome) :
    s.walkCreate n m r due = s.setPlanner { s.spl.planner with skipped := s.spl.planner.skipped + 1 } := by
  rw [State.walkCreate, s.emptySlot_eq_none.2 hFull]

theorem State.walkCreate_creates (hk : s.slot k = none) (hFirst : ∀ j, j < k → (s.slot j).isSome) :
    s.walkCreate n m r due = s.setSlot k (some (newOrder n r due m.minutes s.etm.epoch)) := by
  rw [State.walkCreate, State.emptySlot_of_first hk hFirst]

theorem State.walkMember_host (hAt : OrderAt s n k o) (hHost : o.reason = .host) : s.walkMember n m = s := by
  simp only [State.walkMember, s.openOrder_of_orderAt hAt, if_pos hHost]

theorem State.walkMember_rewrites (hAt : OrderAt s n k o) (hHost : o.reason ≠ .host)
    (hFound : s.foundFor m = some (r, due)) :
    s.walkMember n m = s.setSlot k (some { o with reason := r, due }) := by
  rw [State.foundFor] at hFound
  simp only [State.walkMember, s.openOrder_of_orderAt hAt, if_neg hHost, hFound]

theorem State.walkMember_lapsed (hAt : OrderAt s n k o) (hHost : o.reason ≠ .host) (hFound : s.foundFor m = none) :
    s.walkMember n m = if o.state = .proposed ∨ o.state = .scheduled then s.withdraw k o else s := by
  rw [State.foundFor] at hFound
  simp only [State.walkMember, s.openOrder_of_orderAt hAt, if_neg hHost, hFound]

/-- Withdrawing an order writes its slot and the windows alone. -/
theorem State.withdraw_spl (s : State) (k : SlotNo) (o : Order) : (s.withdraw k o).spl
    = { s.spl with orders := s.spl.orders.set k none, windows := windowsWithout o s.spl.windows } := s.removeOrder_spl k o

theorem State.withdraw_posts (s : State) (k : SlotNo) (o : Order) :
    Posts [(.orderWithdrawn, o.member.val, o.due)] s (s.withdraw k o) := by
  simp [Posts, State.withdraw]

theorem State.walkMember_keepsGenerator (s : State) (n : MemberNo) (m : Member) :
    KeepsGenerator s (s.walkMember n m) := by
  have hWithdraw (k : SlotNo) (o : Order) : KeepsGenerator s (s.withdraw k o) := by
    rw [KeepsGenerator, s.withdraw_spl]
    exact ⟨rfl, rfl⟩
  unfold State.walkMember
  split
  · unfold State.walkCreate
    split <;> exact ⟨rfl, rfl⟩
  · exact ⟨rfl, rfl⟩
  · next k o _ =>
    split
    · exact ⟨rfl, rfl⟩
    · split
      · exact ⟨rfl, rfl⟩
      · split
        · exact hWithdraw k o
        · exact ⟨rfl, rfl⟩

end

/-- Settles O49: the record visited is the one that the statement describes (`State.nextWalk_eq_some`), and what becomes of
its order is read off the reason found. -/
theorem walkTendsOrders : Obligations.WalkTendsOrders := by
  unfold Obligations.WalkTendsOrders
  intro i s hStage p epoch visits
  refine ⟨fun hNone => ?_, fun n m hVisit hFirst hm => ?_⟩
  · rw [exec_planMemberWalk hStage, State.walkStep_atEnd (s.nextWalk_eq_none.2 hNone)]
    rfl
  intro found
  have hNext : s.nextWalk i = some n := s.nextWalk_eq_some.2 ⟨hVisit, hFirst⟩
  have hReason : s.foundFor m = found := by
    simp only [State.foundFor, reasonFor, found]
    cases m.projection <;> rfl
  refine ⟨(s.walkMember n m).setStage (.walk (n.val + 1)), ?_, ?_, s.walkMember_keepsGenerator n m, ?_⟩
  · rw [exec_planMemberWalk hStage, State.walkStep_visits hNext hm]
  · exact (s.walkMember_keeps n m).trans (by simp [keepsAllBut_iff])
  intro moved stands
  have hStands (h : s.walkMember n m = s) : stands := by
    dsimp only [stands]
    rw [h]
    exact ⟨rfl, rfl, rfl, .of_eq rfl⟩
  refine ⟨fun hNone hf => hStands (State.walkMember_nothing hNone (hReason.trans hf)),
    fun hNone r due hf => ⟨fun hFull => ?_, fun k hk hLow => ?_⟩, fun k o hAt => ⟨fun hHost =>
    hStands (State.walkMember_host hAt hHost), fun hHost r due hf => ?_, fun hHost hf hs => ?_, fun hHost hf hs => ?_⟩⟩
  · rw [State.walkMember_wants hNone (hReason.trans hf), State.walkCreate_full hFull]
    exact ⟨rfl, rfl, rfl, .of_eq rfl⟩
  · rw [State.walkMember_wants hNone (hReason.trans hf), State.walkCreate_creates hk hLow]
    exact ⟨s.slot_setSlot_self k _, fun j hj => s.slot_setSlot_ne hj _, rfl, rfl, .of_eq rfl⟩
  · rw [State.walkMember_rewrites hAt hHost (hReason.trans hf)]
    exact ⟨s.slot_setSlot_self k _, fun j hj => s.slot_setSlot_ne hj _, rfl, rfl, .of_eq rfl⟩
  · obtain rfl : o.member = n := hAt.2.1
    rw [State.walkMember_lapsed hAt hHost (hReason.trans hf), if_pos hs]
    refine ⟨(s.removeOrder_removed k o).of_keepsPlan ⟨rfl, rfl⟩, ?_, s.withdraw_posts k o⟩
    rw [State.planner_setStage, s.withdraw_spl]
  · have hNot : ¬ (o.state = .proposed ∨ o.state = .scheduled) := by
      obtain h | h := hs <;> simp [h]
    exact hStands ((State.walkMember_lapsed hAt hHost (hReason.trans hf)).trans (if_neg hNot))

end Sys2Proof.Machine
end

section
/-! SUPPORT. The placement reset and the sort (R145, R146): O50. -/

namespace Sys2Proof.Machine

/-! ### Commands of the reset, one after another -/

/-- `n` commands of the placement reset, with nothing between, lead from `s` to `t`. -/
def ResetRuns (n : Nat) (s t : State) : Prop := execAll (List.replicate n .placementReset) s = .next t

theorem ResetRuns.one {s t : State} (h : exec .placementReset s = .next t) : ResetRuns 1 s t := by
  simp only [ResetRuns, List.replicate_one, execAll, h]

theorem ResetRuns.trans {a b : Nat} {s t u : State} (h : ResetRuns a s t) (h' : ResetRuns b t u) :
    ResetRuns (a + b) s u := by
  induction a generalizing s with
  | zero =>
    cases h
    rwa [Nat.zero_add]
  | succ a ih =>
    simp only [ResetRuns, Nat.succ_add, List.replicate_succ, execAll] at h ⊢
    split at h
    · exact ih h
    · cases h
    · cases h

/-- A run of the reset from a state whose next command does the same. -/
theorem ResetRuns.congr {n : Nat} {s t u : State} (h : exec .placementReset s = exec .placementReset t)
    (h' : ResetRuns (n + 1) t u) : ResetRuns (n + 1) s u := by
  simp only [ResetRuns, List.replicate_succ, execAll] at h' ⊢
  rwa [h]

section

variable {s : State} {i : Nat} {k : SlotNo} {o : Order}

/-! ### One command of the reset (log 25) -/

theorem exec_placementReset_takeBack (hStage : s.spl.planner.stage = .takeBack i) :
    exec .placementReset s = .next (s.takeBackStep i) := by
  show execPlacementReset s = _
  rw [execPlacementReset, hStage]

theorem exec_placementReset_copyMinutes (hStage : s.spl.planner.stage = .copyMinutes i) :
    exec .placementReset s = .next (s.copyStep i) := by
  show execPlacementReset s = _
  rw [execPlacementReset, hStage]

/-- The walk has no member left (R143). -/
def WalkOver (s : State) : Prop :=
  ∃ i, s.spl.planner.stage = .walk i ∧ ∀ n m, i ≤ n.val → s.member n = some m → m.held = true

theorem exec_placementReset_walkOver (h : WalkOver s) : exec .placementReset s = .next (s.takeBackStep 0) := by
  obtain ⟨i, hStage, hHeld⟩ := h
  have hNone : s.nextWalk i = none := s.nextWalk_eq_none.2 fun n ⟨hn, m, hm, hFree⟩ => by
    rw [hHeld n m hn hm] at hFree
    cases hFree
  show execPlacementReset s = _
  rw [execPlacementReset, hStage]
  dsimp only
  rw [hNone]
  rfl

theorem State.takeBackStep_takes (h : s.nextSlotIn .scheduled i = some k) :
    s.takeBackStep i = (State.mapSlot Order.propose s k).setStage (.takeBack (k.val + 1)) := by
  rw [State.takeBackStep, h]

theorem State.takeBackStep_atEnd (h : s.nextSlotIn .scheduled i = none) : s.takeBackStep i = s.copyStep 0 := by
  rw [State.takeBackStep, h]

theorem State.copyStep_takes (h : s.nextSlotIn .proposed i = some k) :
    s.copyStep i = (State.mapSlot s.copyMinutes s k).setStage (.copyMinutes (k.val + 1)) := by
  rw [State.copyStep, h]

theorem State.copyStep_atEnd (h : s.nextSlotIn .proposed i = none) : s.copyStep i = s.rebuildUsed.setStage .sort := by
  rw [State.copyStep, h]

/-- The stage does not bear on what a step of the reset does. -/
theorem State.copyStep_setStage (s : State) (st : Stage) (i : Nat) : (s.setStage st).copyStep i = s.copyStep i := rfl

theorem State.takeBackStep_setStage (s : State) (st : Stage) (i : Nat) :
    (s.setStage st).takeBackStep i = s.takeBackStep i := rfl

/-- From the end of the walk the reset does what it does at its own beginning. -/
theorem exec_placementReset_begins (h : WalkOver s) :
    exec .placementReset s = exec .placementReset (s.setStage (.takeBack 0)) := by
  rw [exec_placementReset_walkOver h, exec_placementReset_takeBack (s := s.setStage _) rfl, s.takeBackStep_setStage]

/-- With no order left to take back the reset does what it does where the minutes begin. -/
theorem exec_placementReset_goesOn (h : exec .placementReset s = .next (s.takeBackStep i))
    (hNone : s.nextSlotIn .scheduled i = none) :
    exec .placementReset s = exec .placementReset (s.setStage (.copyMinutes 0)) := by
  rw [h, State.takeBackStep_atEnd hNone, exec_placementReset_copyMinutes (s := s.setStage _) rfl, s.copyStep_setStage]

/-! ### A sweep of the pool, slot after slot -/

/-- From `s` to `u` the sweep of `stage` has come to its end: from slot `i` on every order in state `st` was rewritten by
`f`, and none in that state is left from its cursor on. -/
structure Swept (stage : Nat → Stage) (st : OrderState) (f : Order → Order) (i : Nat) (s u : State) : Prop where
  keeps : KeepsAllBut [.spl] s u
  rest : ∃ orders j, u.spl = { s.spl with orders, planner := { s.spl.planner with stage := stage j } }
    ∧ u.nextSlotIn st j = none
  slot : ∀ k, u.slot k = (s.slot k).map (rewriteIf (fun o => decide (i ≤ k.val ∧ o.state = st)) f)

variable {stage : Nat → Stage} {st : OrderState} {f : Order → Order}

/-- A sweep with nothing left to rewrite is over. -/
theorem Swept.of_none (hStage : s.spl.planner.stage = stage i) (hNone : s.nextSlotIn st i = none) :
    Swept stage st f i s s := by
  refine ⟨.refl _ s, ⟨s.spl.orders, i, by rw [← hStage], hNone⟩, fun k => ?_⟩
  cases hk : s.slot k with
  | none => rfl
  | some o =>
    have hNot : ¬ (i ≤ k.val ∧ o.state = st) := fun h => s.nextSlotIn_eq_none.1 hNone k o h.1 hk h.2
    simp [rewriteIf, hNot]

/-- A sweep after its first order is the sweep from there on. -/
theorem Swept.of_next {u : State} (hNext : s.nextSlotIn st i = some k)
    (h : Swept stage st f (k.val + 1) ((State.mapSlot f s k).setStage (stage (k.val + 1))) u) :
    Swept stage st f i s u := by
  obtain ⟨⟨hi, o, ho, hs⟩, hFirst⟩ := s.nextSlotIn_eq_some.1 hNext
  rw [State.mapSlot_of_slot ho] at h
  refine ⟨KeepsAllBut.trans (by simp [keepsAllBut_iff]) h.keeps, h.rest, fun j => ?_⟩
  rw [h.slot, State.slot_setStage]
  by_cases hj : j = k
  · subst hj
    rw [State.slot_setSlot_self, ho]
    simp [rewriteIf, hi, hs]
  · rw [State.slot_setSlot_ne _ hj]
    cases hOrder : s.slot j with
    | none => rfl
    | some q =>
      have hSame : (k.val + 1 ≤ j.val ∧ q.state = st) ↔ (i ≤ j.val ∧ q.state = st) :=
        and_congr_left fun hq => ⟨fun h => by omega, fun h => lt_of_le_of_ne
          (Fin.le_def.1 (hFirst j ⟨h, q, hOrder, hq⟩)) fun e => hj (Fin.ext e.symm)⟩
      simp only [Option.map_some, rewriteIf, hSame]

/-- Where each command of the stage rewrites the next order, as many commands as there are orders left make the sweep. -/
theorem resetRuns_swept {w : Wau} (hStep : ∀ (u : State) (i : Nat) (k : SlotNo), u.wau = w →
      u.spl.planner.stage = stage i → u.nextSlotIn st i = some k →
      exec .placementReset u = .next ((State.mapSlot f u k).setStage (stage (k.val + 1))))
    (hWau : s.wau = w) (hStage : s.spl.planner.stage = stage i) :
    ∃ n u, ResetRuns n s u ∧ Swept stage st f i s u := by
  induction hLeft : 48 - i using Nat.strong_induction_on generalizing s i with
  | _ left ih =>
    cases hNext : s.nextSlotIn st i with
    | none => exact ⟨0, s, rfl, .of_none hStage hNext⟩
    | some k =>
      have hi : i ≤ k.val := (s.nextSlotIn_eq_some.1 hNext).1.1
      have hk : k.val < 48 := k.isLt
      obtain ⟨n, u, hRuns, hSwept⟩ := ih (48 - (k.val + 1)) (by omega)
        (s := (State.mapSlot f s k).setStage (stage (k.val + 1))) hWau rfl rfl
      exact ⟨1 + n, u, (ResetRuns.one (hStep s i k hWau hStage hNext)).trans hRuns, hSwept.of_next hNext⟩

theorem resetRuns_takesBack (hStage : s.spl.planner.stage = .takeBack i) :
    ∃ n u, ResetRuns n s u ∧ Swept .takeBack .scheduled Order.propose i s u :=
  resetRuns_swept (fun u i k _ hStage hNext => by
    rw [exec_placementReset_takeBack hStage, State.takeBackStep_takes hNext]) rfl hStage

/-- The minutes copied are those of the member table alone. -/
theorem State.copyMinutes_of_wau {u : State} (h : u.wau = s.wau) : u.copyMinutes = s.copyMinutes := by
  funext o
  simp only [State.copyMinutes, State.member, h]

theorem resetRuns_copies (hStage : s.spl.planner.stage = .copyMinutes i) :
    ∃ n u, ResetRuns n s u ∧ Swept .copyMinutes .proposed s.copyMinutes i s u :=
  resetRuns_swept (fun u i k hWau hStage hNext => by
    rw [exec_placementReset_copyMinutes hStage, State.copyStep_takes hNext, State.copyMinutes_of_wau hWau]) rfl hStage

/-! ### The whole reset (R145) -/

/-- What the whole reset makes of an order: SCHEDULED ones are back in PROPOSED, and every PROPOSED one has its member's
minutes. -/
def State.resetOrder (s : State) (o : Order) : Order :=
  if o.state = .scheduled ∨ o.state = .proposed then
    s.copyMinutes (if o.state = .scheduled then o.proposed else o)
  else o

/-- The two sweeps, one after another, at one order. -/
theorem State.resetOrder_eq (s : State) (o : Order) (k : SlotNo) :
    rewriteIf (fun o => decide (0 ≤ k.val ∧ o.state = .proposed)) s.copyMinutes
      (rewriteIf (fun o => decide (0 ≤ k.val ∧ o.state = .scheduled)) Order.propose o) = s.resetOrder o := by
  cases hs : o.state <;> simp [rewriteIf, State.resetOrder, hs, Order.propose, Order.proposed]

/-- The reset leaves every RELEASED order, and makes none. -/
theorem State.releasedMinutes_reset {u : State} (h : ∀ k, u.slot k = (s.slot k).map s.resetOrder) (tag : Nat) :
    u.releasedMinutes tag = s.releasedMinutes tag := by
  refine congrArg List.sum (List.map_congr_left fun k _ => ?_)
  rw [h k]
  cases s.slot k with
  | none => rfl
  | some o => cases hs : o.state <;> simp [State.resetOrder, State.copyMinutes, Order.proposed, hs]

/-- Both sweeps, from the end of the walk. -/
theorem resetRuns_sweeps (h : WalkOver s) : ∃ a b u v, ResetRuns (a + (b + 1)) s (v.rebuildUsed.setStage .sort)
    ∧ Swept .takeBack .scheduled Order.propose 0 (s.setStage (.takeBack 0)) u
    ∧ Swept .copyMinutes .proposed s.copyMinutes 0 (u.setStage (.copyMinutes 0)) v := by
  obtain ⟨a, u, hRunsA, hA⟩ := resetRuns_takesBack (s := s.setStage (.takeBack 0)) rfl
  obtain ⟨b, v, hRunsB, hB⟩ := resetRuns_copies (s := u.setStage (.copyMinutes 0)) rfl
  have hMinutes : (u.setStage (.copyMinutes 0)).copyMinutes = s.copyMinutes :=
    State.copyMinutes_of_wau (hA.keeps.1 .wau (by decide))
  obtain ⟨_, i, hSplA, hNoneA⟩ := hA.rest
  obtain ⟨_, j, hSplB, hNoneB⟩ := hB.rest
  have hGoesOn : exec .placementReset u = exec .placementReset (u.setStage (.copyMinutes 0)) :=
    exec_placementReset_goesOn (exec_placementReset_takeBack (by rw [hSplA])) hNoneA
  have hLast : exec .placementReset v = .next (v.rebuildUsed.setStage .sort) := by
    rw [exec_placementReset_copyMinutes (i := j) (by rw [hSplB]), State.copyStep_atEnd hNoneB]
  exact ⟨a, b, u, v,
    .congr (exec_placementReset_begins h) (hRunsA.trans (.congr hGoesOn (hRunsB.trans (.one hLast)))), hA, hMinutes ▸ hB⟩

/-- From the end of the walk, a number of commands does the whole of R145. -/
theorem resetRuns_whole (h : WalkOver s) : ∃ n t, ResetRuns n s t ∧ KeepsAllBut [.spl] s t ∧ KeepsGenerator s t
    ∧ t.spl.planner = { s.spl.planner with stage := .sort } ∧ (∀ k, t.slot k = (s.slot k).map s.resetOrder)
    ∧ t.spl.windows = s.rebuildUsed.spl.windows := by
  obtain ⟨a, b, u, v, hRuns, hA, hB⟩ := resetRuns_sweeps h
  have hSlot (k : SlotNo) : v.slot k = (s.slot k).map s.resetOrder := by
    rw [hB.slot, State.slot_setStage, hA.slot, State.slot_setStage, Option.map_map]
    exact congrArg (Option.map · (s.slot k)) (funext fun o => s.resetOrder_eq o k)
  obtain ⟨_, _, hSplA, -⟩ := hA.rest
  obtain ⟨orders, j, hSplB, -⟩ := hB.rest
  have hSpl : v.spl = { s.spl with orders, planner := { s.spl.planner with stage := .copyMinutes j } } := by
    rw [hSplB, State.setStage, State.setPlanner, hSplA]
    rfl
  have hKeepsA : KeepsAllBut [.spl] s u := KeepsAllBut.trans (by simp [keepsAllBut_iff]) hA.keeps
  have hKeepsB : KeepsAllBut [.spl] u v := KeepsAllBut.trans (by simp [keepsAllBut_iff]) hB.keeps
  refine ⟨_, _, hRuns, (hKeepsA.trans hKeepsB).trans (by simp [keepsAllBut_iff]), ⟨?_, ?_⟩, ?_, hSlot, ?_⟩
  · show v.spl.generator = _
    rw [hSpl]
  · show v.spl.lastTag = _
    rw [hSpl]
  · show { v.spl.planner with stage := .sort } = _
    rw [hSpl]
  · show v.spl.windows.map _ = s.spl.windows.map _
    rw [hSpl]
    simp only [State.releasedMinutes_reset hSlot]

/-! ### The sort (R146) -/

/-- The order `a` has its place in the sort at or before that of `b`, by their keys. -/
abbrev State.keyAtMost (s : State) (a b : Order) : Prop := keyLe (s.sortKey a) (s.sortKey b) = true

theorem keyLe_iff (a b : Nat × Nat × Nat) : keyLe a b = true ↔
    a.1 < b.1 ∨ (a.1 = b.1 ∧ (a.2.1 < b.2.1 ∨ (a.2.1 = b.2.1 ∧ a.2.2 ≤ b.2.2))) := by
  simp [keyLe]

/-- The place of an order's member in R146: BELT before ROLLER. -/
def State.kindRank (s : State) (o : Order) : Nat :=
  match s.member o.member with
  | some m => if m.kind = .belt then 0 else 1
  | none => 1

theorem State.sortsBefore_iff (s : State) (a b : Order) : SortsBefore s a b ↔ a.due < b.due ∨ (a.due = b.due
    ∧ (s.kindRank a < s.kindRank b ∨ (s.kindRank a = s.kindRank b ∧ a.member ≤ b.member))) := Iff.rfl

/-- The key holds the code of the kind. -/
theorem State.sortKey_kind (s : State) (o : Order) : (s.sortKey o).2.1 = s.kindRank o + 1 := by
  simp only [State.sortKey, State.kindRank]
  cases s.member o.member with
  | none => rfl
  | some m => cases hKind : m.kind <;> simp [hKind, MemberKind.code]

theorem State.keyAtMost_iff (s : State) (a b : Order) : s.keyAtMost a b ↔ SortsBefore s a b := by
  rw [State.keyAtMost, keyLe_iff, s.sortKey_kind, s.sortKey_kind, Nat.add_lt_add_iff_right, Nat.add_right_cancel_iff]
  exact (s.sortsBefore_iff a b).symm

theorem State.keyAtMost_total (s : State) (a b : Order) : s.keyAtMost a b ∨ s.keyAtMost b a := by
  simp only [State.keyAtMost, keyLe_iff]
  omega

theorem State.keyAtMost_trans (s : State) {a b c : Order} (h : s.keyAtMost a b) (h' : s.keyAtMost b c) :
    s.keyAtMost a c := by
  simp only [State.keyAtMost, keyLe_iff] at h h' ⊢
  omega

/-- The PROPOSED orders of the pool, in slot order. -/
def State.proposedOrders (s : State) : List Order :=
  allSlots.filterMap fun k => (s.slot k).filter fun o => o.state = .proposed

theorem State.insertOrder_eq (s : State) (o : Order) (l : List Order) :
    s.insertOrder o l = l.orderedInsert s.keyAtMost o := by
  induction l with
  | nil => rfl
  | cons x l ih => rw [State.insertOrder, List.orderedInsert_cons, ih]

/-- The sort is the library's insertion sort. -/
theorem State.sortedOrders_eq (s : State) : s.sortedOrders = s.proposedOrders.insertionSort s.keyAtMost := by
  have hInsert : s.insertOrder = List.orderedInsert s.keyAtMost := funext fun o => funext fun l => s.insertOrder_eq o l
  rw [State.sortedOrders, hInsert]
  rfl

theorem State.sortedOrders_perm (s : State) : s.sortedOrders.Perm s.proposedOrders :=
  s.sortedOrders_eq ▸ List.perm_insertionSort _ _

theorem State.sortedOrders_pairwise (s : State) : s.sortedOrders.Pairwise (SortsBefore s) := by
  have hTotal : Std.Total s.keyAtMost := ⟨s.keyAtMost_total⟩
  have hTrans : IsTrans Order s.keyAtMost := ⟨fun _ _ _ => s.keyAtMost_trans⟩
  rw [s.sortedOrders_eq]
  exact (List.pairwise_insertionSort s.keyAtMost s.proposedOrders).imp (s.keyAtMost_iff _ _).1

theorem exec_planSort (hStage : s.spl.planner.stage = .sort) : exec .planSort s
    = .next (s.setPlanner { s.spl.planner with sortList := s.sortedOrders.map (·.member), stage := .placement 0 }) := by
  show execPlanSort s = _
  rw [execPlanSort, hStage]

end

/-- Settles O50: the reset is two sweeps of the pool and the used minutes (`resetRuns_whole`), each command of it one step,
and the sort list is an insertion sort by the keys of R146. -/
theorem resetAndSort : Obligations.ResetAndSort := by
  unfold Obligations.ResetAndSort
  intro s p staged ready minutes used next noneLeft
  have hTakeBack {i : Nat} (h : (ready ∧ i = 0) ∨ p.stage = .takeBack i) :
      exec .placementReset s = .next (s.takeBackStep i) := by
    obtain ⟨hReady, rfl⟩ | hStage := h
    · exact exec_placementReset_walkOver hReady
    · exact exec_placementReset_takeBack hStage
  have hNext {st : OrderState} {i : Nat} {k : SlotNo} {o : Order} (h : next st i k o) :
      s.nextSlotIn st i = some k ∧ s.slot k = some o := by
    obtain ⟨hi, ho, hs, hFirst⟩ := h
    exact ⟨s.nextSlotIn_eq_some.2 ⟨⟨hi, o, ho, hs⟩, fun j ⟨hj, q, hq, ht⟩ => hFirst j q hj hq ht⟩, ho⟩
  refine ⟨fun hReady => ?_, fun i hi => ⟨fun k o h => ?_, fun hNone => ?_⟩,
    fun i hStage => ⟨fun k o h => ?_, fun hNone => ?_⟩, fun hStage => ?_⟩
  · obtain ⟨n, t, hRuns, hKeeps, hGenerator, hPlanner, hSlot, hWindows⟩ := resetRuns_whole hReady
    refine ⟨n, t, hRuns, hKeeps, hGenerator, hPlanner, fun k => (hSlot k).trans ?_, hWindows⟩
    exact congrArg (Option.map · (s.slot k)) (funext fun o => if_congr Iff.rfl (by split <;> rfl) rfl)
  · obtain ⟨hk, ho⟩ := hNext h
    rw [hTakeBack hi, State.takeBackStep_takes hk, State.mapSlot_of_slot ho]
    rfl
  · exact exec_placementReset_goesOn (hTakeBack hi) (s.nextSlotIn_eq_none.2 hNone)
  · obtain ⟨hk, ho⟩ := hNext h
    rw [exec_placementReset_copyMinutes hStage, State.copyStep_takes hk, State.mapSlot_of_slot ho]
    rfl
  · rw [exec_placementReset_copyMinutes hStage, State.copyStep_atEnd (s.nextSlotIn_eq_none.2 hNone)]
    rfl
  · exact ⟨_, s.sortedOrders, exec_planSort hStage, by simp [keepsAllBut_iff], rfl, s.sortedOrders_perm,
      s.sortedOrders_pairwise⟩

end Sys2Proof.Machine
end

section
/-! SUPPORT. One posting to the notice queue (R154, R155) and the attention summary (R159): O54. -/

namespace Sys2Proof.Machine

/-! ### One posting (R153 to R155) -/

section

variable {q : Nq} {kind : NoticeKind} {subject value epoch : Nat} {tick : Tick}

/-- A waiting record of the kind and subject takes the posting (R154). -/
theorem Nq.post_of_waits (h : ∃ n ∈ q.queue, n.kind = kind ∧ n.subject = subject) :
    q.post kind subject value epoch tick
      = { q with queue := q.queue.map fun n => if n.matches kind subject then n.coalesce value else n } :=
  if_pos (by simpa using h)

/-- With no such record and room, the posting is appended (R154). -/
theorem Nq.post_of_room (h : ¬ ∃ n ∈ q.queue, n.kind = kind ∧ n.subject = subject) (hRoom : q.queue.length < 32) :
    q.post kind subject value epoch tick
      = { q with queue := q.queue ++ [{ kind, subject, firstEpoch := epoch, firstTick := tick, value, repeats := 1 }] } :=
  (if_neg (by simpa using h)).trans (if_pos hRoom)

/-- With no such record and no room, the posting is dropped and counted (R155). -/
theorem Nq.post_of_full (h : ¬ ∃ n ∈ q.queue, n.kind = kind ∧ n.subject = subject) (hFull : 32 ≤ q.queue.length) :
    q.post kind subject value epoch tick = { q with lost := min (q.lost + 1) 255, lostBit := true } :=
  (if_neg (by simpa using h)).trans (if_neg (Nat.not_lt.2 hFull))

/-- A coalesced record keeps its kind and its subject, so no two records come to agree in both. -/
theorem Notice.coalesced_key (n : Notice) :
    (if n.matches kind subject then n.coalesce value else n).kind = n.kind
      ∧ (if n.matches kind subject then n.coalesce value else n).subject = n.subject := by
  split <;> exact ⟨rfl, rfl⟩

theorem Notice.coalesced_repeats {n : Notice} (h : 1 ≤ n.repeats ∧ n.repeats ≤ 255) :
    1 ≤ (if n.matches kind subject then n.coalesce value else n).repeats
      ∧ (if n.matches kind subject then n.coalesce value else n).repeats ≤ 255 := by
  split
  · exact ⟨le_min (Nat.succ_le_succ (Nat.zero_le _)) (by decide), satAdd_le _ _ _⟩
  · exact h

/-- A posting keeps the queue in order, whichever of the three becomes of it (R153 to R155). -/
theorem NoticeInv.post (h : NoticeInv q) (kind : NoticeKind) (subject value epoch : Nat) (tick : Tick) :
    NoticeInv (q.post kind subject value epoch tick) := by
  obtain ⟨hLength, hKeys, hRepeats, hLost⟩ := h
  by_cases hWaits : ∃ n ∈ q.queue, n.kind = kind ∧ n.subject = subject
  · rw [Nq.post_of_waits hWaits]
    refine ⟨(List.length_map _).trans_le hLength, List.pairwise_map.2 (hKeys.imp fun {a b} hab => ?_), fun n hn => ?_, hLost⟩
    · rwa [a.coalesced_key.1, b.coalesced_key.1, a.coalesced_key.2, b.coalesced_key.2]
    · obtain ⟨m, hm, rfl⟩ := List.mem_map.1 hn
      exact Notice.coalesced_repeats (hRepeats m hm)
  by_cases hRoom : q.queue.length < 32
  · rw [Nq.post_of_room hWaits hRoom]
    refine ⟨?_, List.pairwise_append.2 ⟨hKeys, List.pairwise_singleton _ _, fun a ha b hb hab => ?_⟩, fun n hn => ?_, hLost⟩
    · simpa using hRoom
    · obtain rfl := List.mem_singleton.1 hb
      exact hWaits ⟨a, ha, hab⟩
    · obtain hn | hn := List.mem_append.1 hn
      · exact hRepeats n hn
      · obtain rfl := List.mem_singleton.1 hn
        exact ⟨le_rfl, Nat.le_add_left 1 254⟩
  · rw [Nq.post_of_full hWaits (Nat.le_of_not_lt hRoom)]
    exact ⟨hLength, hKeys, hRepeats, min_le_right _ _⟩

end

/-! ### The attention summary (R159) -/

/-- The five class bits are the five bits of the summary's number. -/
theorem Nq.classBits_getLsbD (q : Nq) (c : NoticeClass) : q.classBits.getLsbD c.number = q.classShown c := by
  unfold Nq.classBits
  generalize hShown : q.classShown = shown
  have hBits : ∀ w p g t y : Bool, ∀ i : Fin 5,
      (BitVec.ofNat 5 (w.toNat + 2 * p.toNat + 4 * g.toNat + 8 * t.toNat + 16 * y.toNat)).getLsbD i.val
        = [w, p, g, t, y][i.val] := by decide
  cases c
  · exact hBits _ _ _ _ _ 0
  · exact hBits _ _ _ _ _ 1
  · exact hBits _ _ _ _ _ 2
  · exact hBits _ _ _ _ _ 3
  · exact hBits _ _ _ _ _ 4

theorem Nq.classShown_iff (q : Nq) (c : NoticeClass) :
    q.classShown c = true ↔ q.mask.getLsbD c.number = true ∧ ∃ n ∈ q.queue, n.kind.cls = c := by simp [Nq.classShown]

/-- Settles O54: a posting by its three cases, the codes and classes kind by kind, the summary bit by bit. -/
theorem postingRule : Obligations.PostingRule := by
  unfold Obligations.PostingRule
  intro q kind subject value epoch tick
  refine ⟨fun _ => rfl, fun h => h.post _ _ _ _ _, q.mask_post _ _ _ _ _, fun hWaits => ?_, fun hWaits hRoom => ?_,
    fun hWaits hFull => ?_, by decide, by decide, rfl, rfl, fun c => ?_⟩
  · rw [Nq.post_of_waits hWaits]
    refine ⟨rfl, rfl, List.length_map _, fun i n hn => ?_⟩
    rw [List.getElem?_map, hn, Option.map_some]
    simp only [Notice.matches_iff]
    rfl
  · rw [Nq.post_of_room hWaits hRoom]
    exact ⟨rfl, rfl, rfl⟩
  · rw [Nq.post_of_full hWaits hFull]
    exact ⟨rfl, rfl, rfl⟩
  · exact (q.classBits_getLsbD c).symm ▸ q.classShown_iff c

end Sys2Proof.Machine
end

section
/-! SUPPORT. The notice requests (R157, R158) and STATUS (R177): O55. -/

namespace Sys2Proof.Machine

section

variable (s : State)

/-! ### NOTICE_TAKE (R157) -/

theorem State.dropNotice_of_empty (h : s.nq.queue = []) : s.dropNotice = s := by
  rw [State.dropNotice, h, List.tail_nil, ← h]

theorem State.dropNotice_keeps : KeepsAllBut [.nq] s s.dropNotice := by simp [keepsAllBut_iff]

/-! ### NOTICE_MASK (R158) -/

theorem execNoticeMask_of_bad {settings : Byte} (h : 32 ≤ settings.toNat) :
    execNoticeMask settings s = .next (s.answer .noticeMask .badValue []) := by
  rw [execNoticeMask, maskOf, if_neg (Nat.not_lt.2 h)]

theorem execNoticeMask_of_good {settings : Byte} (h : settings.toNat < 32) :
    execNoticeMask settings s
      = .next (State.answer { s with nq := { s.nq with mask := settings.setWidth 5 } } .noticeMask .ok [settings]) := by
  have hByte : BitVec.ofNat 8 (settings.setWidth 5).toNat = settings := by
    rw [BitVec.toNat_setWidth, Nat.mod_eq_of_lt h, BitVec.ofNat_toNat, BitVec.setWidth_eq]
  rw [execNoticeMask, maskOf, if_pos h]
  dsimp only
  rw [be_one, hByte]

/-! ### STATUS (R177) -/

theorem Mode.code_byte (m : Mode) : be 1 m.code = [if m = .setup then 0 else 1] := by cases m <;> rfl

theorem Planner.flagByte_running (p : Planner) : flagByte p.running = if p.stage = .idle then 0 else 1 := by
  unfold Planner.running
  by_cases h : p.stage = .idle <;> simp [h, flagByte]

/-- The figures of STATUS, each in its bytes (R177). -/
theorem State.statusData_eq : s.statusData
    = ([if s.rqd.mode = .setup then 0 else 1, if s.rqd.pendingSetup then 1 else 0,
        if s.rqd.pendingSettings.isSome then 1 else 0, if s.spl.planner.stage = .idle then 0 else 1,
        if s.spl.planner.rerun then 1 else 0] : List Byte) ++ be 4 s.etm.epoch ++ be 4 s.etm.tick.toNat ++ be 2 s.itu.free
      ++ be 1 (allMembers.countP fun n => (s.member n).isSome) ++ be 1 (allSlots.countP fun k => (s.slot k).isSome)
      ++ be 1 s.spl.windows.length
      ++ [(match s.spl.generator.state with | .idle => 0 | .running => 1 | .stopped => 2 : Byte)] ++ be 1 s.nq.lost := by
  rw [State.statusData, Mode.code_byte, Planner.flagByte_running, GenState.code_byte, State.memberCount, State.orderCount,
    List.countP_eq_length_filter, List.countP_eq_length_filter]
  rfl

end

/-- Settles O55: NOTICE_TAKE with and without a head, NOTICE_MASK by its check, STATUS by its data. -/
theorem noticeRequests : Obligations.NoticeRequests := by
  unfold Obligations.NoticeRequests
  intro s
  have hNq (q : Nq) : KeepsAllBut [.nq] s { s with nq := q } := by simp [keepsAllBut_iff]
  refine ⟨fun hEmpty => ⟨_, rfl, ?_⟩, fun n rest hQueue => ⟨_, rfl, ?_, ?_⟩, fun settings => ⟨fun hBad => ?_, fun hGood => ?_⟩,
    _, rfl, rfl, ?_⟩
  · rw [s.dropNotice_of_empty hEmpty, hEmpty]
    exact answers_of_keeps s (.refl [] s) rfl rfl (k := .noticeTake)
  · rw [hQueue]
    exact answers_of_keeps s s.dropNotice_keeps rfl rfl (k := .noticeTake)
  · show s.dropNotice.nq = _
    rw [State.dropNotice, hQueue]
    rfl
  · exact ⟨_, execNoticeMask_of_bad s hBad, refuses_answer s .noticeMask _ _⟩
  · exact ⟨_, execNoticeMask_of_good s hGood, answers_of_keeps s (hNq _) rfl rfl (k := .noticeMask), rfl⟩
  · refine Eq.subst (motive := fun d => Answers [.nq] 0x02 .ok d s _) s.statusData_eq ?_
    exact answers_of_keeps s (hNq _) rfl rfl (k := .status)

end Sys2Proof.Machine
end

section
/-! SUPPORT. The notice queue (R153 to R155) through the operations of the ITU, the SMU, the WAU and the SPL: each posts, and
changes the queue in no other way: O56. -/

namespace Sys2Proof.Machine

/-! ### What keeps the queue in order -/

/-- From `s` to `t` a queue in order stays so. -/
def KeepsNotices (s t : State) : Prop := NoticeInv s.nq → NoticeInv t.nq

theorem KeepsNotices.of_nq {s t : State} (h : t.nq = s.nq) : KeepsNotices s t := fun hs => h.symm ▸ hs

theorem KeepsNotices.refl (s : State) : KeepsNotices s s := fun hs => hs

theorem KeepsNotices.trans {s t u : State} (h : KeepsNotices s t) (h' : KeepsNotices t u) : KeepsNotices s u :=
  fun hs => h' (h hs)

/-- What comes after leaves the NQ alone. -/
theorem KeepsNotices.then_nq {s t u : State} (h : KeepsNotices s t) (hu : u.nq = t.nq) : KeepsNotices s u :=
  h.trans (.of_nq hu)

/-- What comes before leaves the NQ alone. -/
theorem KeepsNotices.from_nq {s t u : State} (h : KeepsNotices t u) (ht : t.nq = s.nq) : KeepsNotices s u :=
  (KeepsNotices.of_nq ht).trans h

theorem KeepsNotices.post {s t : State} (h : KeepsNotices s t) (kind : NoticeKind) (subject value : Nat) :
    KeepsNotices s (t.post kind subject value) := fun hs => (h hs).post _ _ _ _ _

theorem keepsNotices_foldl {α : Type} {f : State → α → State} (h : ∀ s a, KeepsNotices s (f s a)) (l : List α)
    (s : State) : KeepsNotices s (l.foldl f s) :=
  foldl_rel KeepsNotices.refl KeepsNotices.trans (fun a _ s => h s a) s

theorem KeepsNotices.postAll {s t : State} (h : KeepsNotices s t) (subject : Nat) (notes : List (NoticeKind × Nat)) :
    KeepsNotices s (t.postAll subject notes) :=
  h.trans (keepsNotices_foldl (fun u _ => (KeepsNotices.refl u).post _ _ _) notes t)

/-- An operation at a segment, where there is one. -/
theorem KeepsNotices.elim {s : State} {f : SegNo → State} (h : ∀ g, KeepsNotices s (f g)) (o : Option SegNo) :
    KeepsNotices s (o.elim s f) := by
  cases o with
  | none => exact .refl s
  | some g => exact h g

/-- Postings, one after another, keep the queue in order. -/
theorem Posts.keepsNotices {notes : List (NoticeKind × Nat × Nat)} {s t : State} (h : Posts notes s t) :
    KeepsNotices s t := by
  have hFold : ∀ (notes : List (NoticeKind × Nat × Nat)) (q : Nq), NoticeInv q →
      NoticeInv (notes.foldl (fun q n => q.post n.1 n.2.1 n.2.2 s.etm.epoch s.etm.tick) q) := by
    intro notes
    induction notes with
    | nil => exact fun _ hq => hq
    | cons n notes ih => exact fun q hq => ih _ (hq.post _ _ _ _ _)
  intro hs
  rw [h]
  exact hFold notes _ hs

theorem PostsHandOn.keepsNotices {s t : State} (h : PostsHandOn s t) : KeepsNotices s t := by
  obtain ⟨-, notes, -, hNotes⟩ := h
  exact hNotes.keepsNotices

theorem PostsOnly.keepsNotices {kinds : List NoticeKind} {s t : State} (h : PostsOnly kinds s t) : KeepsNotices s t := by
  obtain ⟨notes, -, hNotes⟩ := h.posts
  exact hNotes.keepsNotices

section

variable (s : State)

/-! ### Items (03) -/

theorem State.entryEvent_keepsNotices (g : SegNo) (d : SegDef) : KeepsNotices s (s.entryEvent g d) := by
  obtain ⟨_, _, _, hMove⟩ := s.entryEvent_movesTo g d
  exact hMove.posts.keepsNotices

theorem State.exitEvent_keepsNotices (g : SegNo) (d : SegDef) : KeepsNotices s (s.exitEvent g d) := by
  unfold State.exitEvent
  split
  · exact (s.cleanExit_posts g d _ _).keepsNotices
  · exact (State.trackingError_posts _ g d).keepsNotices.from_nq rfl

theorem State.exitHalf_keepsNotices (g : SegNo) : KeepsNotices s (s.exitHalf g) := by
  unfold State.exitHalf
  split
  · split
    · exact s.exitEvent_keepsNotices g _
    · exact .refl s
  · exact .refl s

theorem State.entryHalf_keepsNotices (g : SegNo) : KeepsNotices s (s.entryHalf g) := by
  unfold State.entryHalf
  split
  · exact s.entryEvent_keepsNotices g _
  · exact .refl s

theorem State.gateEvent_keepsNotices (l : LineNo) : KeepsNotices s (s.gateEvent l) := by
  cases hMode : s.rqd.mode with
  | setup =>
    rw [s.gateEvent_of_setup hMode]
    exact .refl s
  | counting =>
    rw [s.gateEvent_of_counting hMode]
    exact (KeepsNotices.elim s.exitHalf_keepsNotices _).trans (KeepsNotices.elim (State.entryHalf_keepsNotices _) _)

/-! ### Reckoning and closes (01 sections 1.3 to 1.6) -/

theorem State.handOn_keepsNotices (g : SegNo) (d : SegDef) (kind : CloseKind) (travel : Nat) :
    KeepsNotices s (s.handOn g d kind travel) := (s.handOn_posts g d kind travel).keepsNotices

theorem State.reckonPart_keepsNotices (g : SegNo) (d : SegDef) (tick : Tick) :
    KeepsNotices s (s.reckonPart g d tick) := (s.reckonPart_posts g d tick).keepsNotices

theorem State.partialClose_keepsNotices (g : SegNo) (d : SegDef) (w : MeasWindow) :
    KeepsNotices s (s.partialClose g d w) := (State.handOn_keepsNotices _ g d _ _).from_nq rfl

theorem State.closeOnBehalf_keepsNotices (g : SegNo) (d : SegDef) (tick : Tick) (reckons : Bool) :
    KeepsNotices s (s.closeOnBehalf g d tick reckons) := by
  have hWithout : KeepsNotices s (if reckons then (s.abandonWindow g).reckonPart g d tick else s.abandonWindow g) := by
    split
    · exact (State.reckonPart_keepsNotices _ g d tick).from_nq rfl
    · exact .of_nq rfl
  unfold State.closeOnBehalf
  dsimp only
  split
  · split
    · exact s.partialClose_keepsNotices g d _
    · exact hWithout
  · exact hWithout

theorem State.afterFullClose_keepsNotices (g : SegNo) (d : SegDef) (idler : Nat) :
    KeepsNotices s (s.afterFullClose g d idler) := by
  have hMoved (r : SegRun) : KeepsNotices s (s.setRun g r) := .of_nq rfl
  unfold State.afterFullClose
  dsimp only
  split
  case h_1 => exact hMoved _
  case h_2 | h_3 =>
    split
    · exact (hMoved _).post _ _ _
    · exact .refl s
  case h_4 => exact (hMoved _).post _ _ _
  all_goals exact .refl s

theorem State.countPulse_keepsNotices (g : SegNo) (d : SegDef) (w : MeasWindow) :
    KeepsNotices s (s.countPulse g d w) := by
  have hMoved (r : SegRun) : KeepsNotices s (s.setRun g r) := .of_nq rfl
  unfold State.countPulse
  dsimp only
  split
  · exact hMoved _
  · exact (((hMoved _).postAll _ _).trans (State.handOn_keepsNotices _ g d _ _)).trans
      (State.afterFullClose_keepsNotices _ g d _)

/-! ### Events of lines (R4) -/

theorem State.drivePulse_keepsNotices (g : SegNo) (d : SegDef) : KeepsNotices s (s.drivePulse g d) := by
  unfold State.drivePulse
  dsimp only
  split
  case h_1 => exact .refl s
  case h_2 =>
    split
    · exact .of_nq rfl
    · exact .refl s
  case h_6 =>
    split
    · exact s.countPulse_keepsNotices g d _
    · exact (s.reckonPart_keepsNotices g d _).then_nq rfl
  case h_7 => exact .of_nq rfl
  all_goals
    split
    · exact s.countPulse_keepsNotices g d _
    · exact .of_nq rfl

theorem State.pulseAt_keepsNotices (l : LineNo) (g : SegNo) : KeepsNotices s (State.pulseAt l s g) := by
  unfold State.pulseAt
  split
  · next d _ =>
    have hDrive : KeepsNotices s (if d.driveLine = l then s.drivePulse g d else s) := by
      split
      · exact s.drivePulse_keepsNotices g d
      · exact .refl s
    dsimp only
    split
    · exact hDrive.then_nq (State.idlerPulse_nq _ g)
    · exact hDrive
  · exact .refl s

theorem State.runOff_keepsNotices (g : SegNo) (d : SegDef) : KeepsNotices s (s.runOff g d) := by
  unfold State.runOff
  dsimp only
  split
  case h_1 | h_2 => exact .refl s
  case h_6 => exact (s.closeOnBehalf_keepsNotices g d s.etm.tick true).then_nq rfl
  case h_7 => exact (s.reckonPart_keepsNotices g d s.etm.tick).then_nq rfl
  all_goals exact (s.closeOnBehalf_keepsNotices g d s.etm.tick false).then_nq rfl

theorem State.runAt_keepsNotices (l : LineNo) (turnedOn : Bool) (g : SegNo) :
    KeepsNotices s (State.runAt l turnedOn s g) := by
  unfold State.runAt
  split
  · split
    · split
      · exact .of_nq (s.runOn_nq g _)
      · exact s.runOff_keepsNotices g _
    · exact .refl s
  · exact .refl s

theorem State.lineEvent_keepsNotices (l : LineNo) (level : Level) : KeepsNotices s (s.lineEvent l level) := by
  unfold State.lineEvent
  split
  case h_2 => exact keepsNotices_foldl (fun u g => u.pulseAt_keepsNotices l g) _ s
  case h_4 => exact s.gateEvent_keepsNotices l
  case h_6 => exact keepsNotices_foldl (fun u g => u.runAt_keepsNotices l true g) _ s
  case h_7 => exact keepsNotices_foldl (fun u g => u.runAt_keepsNotices l false g) _ s
  all_goals exact .refl s

theorem State.acceptTransition_keepsNotices (l : LineNo) : KeepsNotices s (s.acceptTransition l) := by
  rw [s.acceptTransition_eq]
  exact (State.lineEvent_keepsNotices (s.flipLine l) l _).from_nq rfl

theorem State.sampleLines_keepsNotices (raw : BitVec 32) : KeepsNotices s (s.sampleLines raw) := by
  unfold State.sampleLines
  dsimp only
  split
  · exact (keepsNotices_foldl State.acceptTransition_keepsNotices _ _).from_nq (by simp)
  · exact .of_nq (by simp)

/-! ### Expiries and SEGMENT_REARM (02) -/

theorem State.checkLossLimit_keepsNotices (g : SegNo) (d : SegDef) : KeepsNotices s (s.checkLossLimit g d) := by
  unfold State.checkLossLimit
  dsimp only
  split
  · exact KeepsNotices.post (t := s.setRun g _) (.of_nq rfl) _ _ _
  · exact .refl s

theorem State.fullInterval_keepsNotices (g : SegNo) (d : SegDef) (count : Nat) :
    KeepsNotices s (s.fullInterval g d count) := (s.reckon_posts g d _).keepsNotices.then_nq (State.setRun_nq _ g _)

theorem State.emptyExpiry_keepsNotices (g : SegNo) (d : SegDef) : KeepsNotices s (s.emptyExpiry g d) := by
  have hMoved (r : SegRun) : KeepsNotices s (s.setRun g r) := .of_nq rfl
  have hInterval {u : State} (hu : KeepsNotices s u) (count : Nat) :
      KeepsNotices s ((u.fullInterval g d count).checkLossLimit g d) :=
    (hu.trans (u.fullInterval_keepsNotices g d count)).trans (State.checkLossLimit_keepsNotices _ g d)
  unfold State.emptyExpiry
  dsimp only
  split
  case h_1 =>
    split
    · exact hMoved _
    · split
      · exact hMoved _
      · exact (hMoved _).post _ _ _
  case h_4 => exact hInterval (.refl s) _
  case h_5 => exact s.fullInterval_keepsNotices g d _
  case h_6 | h_7 => exact .refl s
  all_goals
    split
    · exact hMoved _
    · exact hInterval ((hMoved _).post _ _ _) 1

theorem State.expire_keepsNotices (g : SegNo) (d : SegDef) : KeepsNotices s (s.expire g d) := by
  unfold State.expire
  dsimp only
  split
  · split
    · exact (State.partialClose_keepsNotices _ g d _).from_nq rfl
    · exact (State.emptyExpiry_keepsNotices _ g d).from_nq rfl
  · exact (State.emptyExpiry_keepsNotices _ g d).from_nq rfl

theorem State.rearm_keepsNotices (g : SegNo) : KeepsNotices s (s.rearm g) := by
  unfold State.rearm
  split
  · exact .refl s
  · next d _ =>
    have hPart : KeepsNotices s (if s.runLineActive d then s.reckonPart g d s.etm.tick else s) := by
      split
      · exact s.reckonPart_keepsNotices g d s.etm.tick
      · exact .refl s
    split
    · exact hPart.then_nq rfl
    · exact .refl s

/-! ### Boundaries (05) -/

theorem State.setupClose_keepsNotices (g : SegNo) (d : SegDef) (tick : Tick) :
    KeepsNotices s (s.setupClose g d tick) := by
  unfold State.setupClose
  split
  case h_1 | h_2 => exact .refl s
  case h_7 =>
    split
    · exact s.reckonPart_keepsNotices g d tick
    · exact .refl s
  all_goals exact s.closeOnBehalf_keepsNotices g d tick _

theorem State.setupSegment_keepsNotices (tick : Tick) (g : SegNo) : KeepsNotices s (State.setupSegment tick s g) := by
  unfold State.setupSegment
  split
  · exact (s.setupClose_keepsNotices g _ tick).then_nq rfl
  · exact .of_nq rfl

theorem State.enterSetup_keepsNotices (tick : Tick) : KeepsNotices s (s.enterSetup tick) :=
  ((keepsNotices_foldl (fun u g => u.setupSegment_keepsNotices tick g) _ s).then_nq rfl).post _ _ _

theorem State.closeAccounts_keepsNotices (shift minWindows : Nat) :
    KeepsNotices s (s.closeAccounts shift minWindows) := by
  cases hPending : s.rqd.pendingSetup with
  | true =>
    rw [s.closeAccounts_of_pending hPending]
    exact ((State.enterSetup_keepsNotices _ _).from_nq s.applySettings_nq).then_nq rfl
  | false => exact .of_nq (s.closeAccounts_nq hPending _ _)

theorem State.boundaryPart_keepsNotices (shift minWindows : Nat) (missed : Bool) (p : BoundaryPart) :
    KeepsNotices s (State.boundaryPart shift minWindows missed s p) := by
  cases p with
  | markNotice => exact Posts.keepsNotices (State.markNotice_posts ..)
  | accounts => exact s.closeAccounts_keepsNotices _ _
  | planner => exact s.tendWindows_postsOnly.keepsNotices

theorem State.takeBoundary_keepsNotices (number : Nat) (tick : Tick) (missed : Bool) :
    KeepsNotices s (s.takeBoundary number tick missed) :=
  (keepsNotices_foldl (fun u p => u.boundaryPart_keepsNotices _ _ missed p) _ _).from_nq s.settle_nq

theorem State.replaceSettings_keepsNotices (e : EpochSettings) : KeepsNotices s (s.replaceSettings e) := by
  unfold State.replaceSettings
  dsimp only
  split
  · exact (State.takeBoundary_keepsNotices _ _ _ _).from_nq rfl
  · exact .of_nq rfl

theorem State.takeMark_keepsNotices (number : Nat) : KeepsNotices s (s.takeMark number).1 := by
  unfold State.takeMark
  dsimp only
  split
  · exact .of_nq rfl
  · split
    · exact s.takeBoundary_keepsNotices _ _ _
    · exact (State.takeBoundary_keepsNotices _ _ _ _).from_nq rfl

/-! ### The plan (07, 08) -/

theorem State.generate_keepsNotices : KeepsNotices s s.generate := (s.generateSteps_postsOnly _).keepsNotices

theorem State.walkMember_keepsNotices (n : MemberNo) (m : Member) : KeepsNotices s (s.walkMember n m) := by
  unfold State.walkMember
  split
  · exact .of_nq (s.walkCreate_nq _ _ _ _)
  · exact .refl s
  · split
    · exact .refl s
    · split
      · exact .of_nq rfl
      · split
        · exact (KeepsNotices.of_nq (s.removeOrder_nq _ _)).post _ _ _
        · exact .refl s

theorem State.walkCommand_keepsNotices : KeepsNotices s s.walkCommand := by
  have hStep (next : Nat) : KeepsNotices s (s.walkStep next) := by
    unfold State.walkStep
    split
    · exact .of_nq rfl
    · split
      · exact (s.walkMember_keepsNotices _ _).then_nq rfl
      · exact .refl s
  unfold State.walkCommand
  split
  · exact hStep _
  all_goals exact .refl s

theorem State.walkVisits_keepsNotices (k : Nat) : KeepsNotices s (State.walkVisits k s) := by
  induction k generalizing s with
  | zero => exact .refl s
  | succ k ih => exact s.walkCommand_keepsNotices.trans (ih _)

theorem State.placeMember_keepsNotices (n : MemberNo) : KeepsNotices s (s.placeMember n) := by
  have hUnplaced (o : Order) : KeepsNotices s (s.leaveUnplaced o) := by
    unfold State.leaveUnplaced
    dsimp only
    split
    · exact KeepsNotices.post (t := s.setPlanner _) (.of_nq rfl) _ _ _
    · exact .of_nq rfl
  unfold State.placeMember
  split
  · exact .refl s
  · split
    · split
      · exact .of_nq (s.placeOrder_nq _ _ _ _)
      · exact hUnplaced _
    · exact .refl s

theorem State.abandonRun_keepsNotices : KeepsNotices s s.abandonRun := by
  unfold State.abandonRun
  dsimp only
  split
  · exact KeepsNotices.post (t := s.setPlanner _) (.of_nq rfl) _ _ _
  · exact .of_nq rfl

/-! ### Members (04) -/

theorem State.writeEvaluated_keepsNotices (n : MemberNo) (e : Member × List (NoticeKind × Nat)) :
    KeepsNotices s (s.writeEvaluated n e) := KeepsNotices.postAll (t := s.setMember n _) (.of_nq rfl) _ _

theorem State.service_keepsNotices (n : MemberNo) (m : Member) (outcome : Byte) :
    KeepsNotices s (s.service n m outcome) := by
  have hWritten : KeepsNotices s ((s.setMember n (some m.evalFull.1)).postAll n.val m.evalFull.2) :=
    KeepsNotices.postAll (t := s.setMember n _) (.of_nq rfl) _ _
  exact (hWritten.trans (State.walkVisits_keepsNotices _ s.arbiter.walkVisits)).then_nq (by simp [State.service])

end

end Sys2Proof.Machine
end

section
/-! SUPPORT. The notice queue through every command (R153 to R155, R157, R158, R177): O56. -/

namespace Sys2Proof

/-- The commands that may reach the notice queue: those that may post, the requests about notices, STATUS, and the resets. -/
def Instr.reachesNotices : Instr → Bool
  | .coldReset _ | .acceptedTransition _ | .sample _ | .segmentTimerExpiry _ | .localBoundary | .graceDeadline
  | .planMemberWalk | .orderPlacement | .planDone | .characterReceived _ _ _ | .replyEnd | .status | .restartPlan _
  | .restartAll _ | .epochSet _ | .epochMark _ _ | .segmentRearm _ | .memberAdjust _ _ | .memberRelease _
  | .serviceDoneReplaced _ _ | .serviceDoneInspected _ _ | .planSet _ _ _ _ | .windowRemove _ | .patternControl _ _ _ _
  | .noticeTake | .noticeMask _ => true
  | _ => false

end Sys2Proof

namespace Sys2Proof.Machine

/-! ### The queue emptied, taken from and written (R157, R158, R174, R177) -/

theorem noticeInv_empty : NoticeInv State.reset.nq := by
  refine ⟨?_, List.Pairwise.nil, fun n hn => ?_, ?_⟩
  · decide
  · cases hn
  · decide

theorem KeepsNotices.of_reset {s t : State} (h : t.nq = State.reset.nq) : KeepsNotices s t :=
  fun _ => h.symm ▸ noticeInv_empty

theorem State.dropNotice_keepsNotices (s : State) : KeepsNotices s s.dropNotice := by
  rintro ⟨hLength, hKeys, hRepeats, hLost⟩
  exact ⟨(List.tail_sublist _).length_le.trans hLength, hKeys.tail, fun n hn => hRepeats n (List.mem_of_mem_tail hn), hLost⟩

section

variable (s : State)

/-! ### Every command -/

/-- Every other command is made of operations that leave the NQ alone, in each of its branches. -/
theorem exec_nq {i : Instr} (h : i.reachesNotices = false) : Leads (fun t => t.nq = s.nq) (exec i s) := by
  cases i
  case coldReset | acceptedTransition | sample | segmentTimerExpiry | localBoundary | graceDeadline | planMemberWalk
    | orderPlacement | planDone | characterReceived | replyEnd | status | restartPlan | restartAll | epochSet | epochMark
    | segmentRearm | memberAdjust | memberRelease | serviceDoneReplaced | serviceDoneInspected | planSet | windowRemove
    | patternControl | noticeTake | noticeMask => cases h
  case restartTracking via =>
    exact (leads_next _ _).2 ((State.answerVia_nq _ via _ _ _).trans ((restartTracking_keeps s).1 .nq (by decide)))
  all_goals
    simp only [exec, execRatePassVisit, execProjectionsRefreshed, execPlacementReset, execPlanSort, execGanging,
      execGapLimitExpiry, execReplyStart, execBlankingEnd, execUnknownKind, execIdent, execModeSetup, execModeCounting,
      execLinkSet, execCounters, execLineSet, execLineStatus, execSegmentSet, execSegmentUndefine, execSegmentRead,
      execItemAnnounce, execMemberDefine, execMemberRead, execMemberHold, execMemberRetire, execPlanRun, execWindowAdd,
      execWindowReadList, execWindowReadPattern, execPatternLoad, execOrderRead, execOrderList, execOrderRaise,
      execOrderStart, execOrderCancel, execTick]
    (repeat' split) <;> simp [State.answerVia_nq]

theorem leads_keepsNotices_of_nq {o : State} (h : o.nq = s.nq) : Leads (KeepsNotices s) (.next o) :=
  (leads_next _ _).2 (.of_nq h)

/-! ### Events in time -/

theorem execSegmentTimerExpiry_keepsNotices (g : SegNo) : Leads (KeepsNotices s) (execSegmentTimerExpiry g s) := by
  unfold execSegmentTimerExpiry
  split
  · refine (leads_next _ _).2 ?_
    split
    · exact s.expire_keepsNotices g _
    · exact .refl s
  · exact leads_keepsNotices_of_nq s rfl

theorem execOrderPlacement_keepsNotices : Leads (KeepsNotices s) (execOrderPlacement s) := by
  unfold execOrderPlacement
  split
  · split
    · exact (leads_next _ _).2 ((s.placeMember_keepsNotices _).then_nq rfl)
    · exact leads_keepsNotices_of_nq s rfl
  all_goals exact leads_keepsNotices_of_nq s rfl

theorem execPlanDone_keepsNotices : Leads (KeepsNotices s) (execPlanDone s) := by
  refine (leads_next _ _).2 ?_
  split
  · exact KeepsNotices.post (t := s.setPlanner _) (.of_nq rfl) _ _ _
  · exact .refl s

theorem execCharacterReceived_keepsNotices (start : StartBit) (c : Character) (stop : Bool) :
    Leads (KeepsNotices s) (execCharacterReceived start c stop s) := by
  refine (leads_next _ _).2 ?_
  obtain h | h := s.receive_cases start (lineBits c.data c.mark stop)
  · rw [h]
    exact .of_reset rfl
  · exact .of_nq (h.1 .nq (by decide))

theorem execReplyEnd_keepsNotices : Leads (KeepsNotices s) (execReplyEnd s) := by
  refine (leads_next _ _).2 ?_
  split
  · dsimp only
    split
    · exact .of_reset rfl
    · exact .of_nq rfl
  · exact .refl s
  · exact .refl s

/-! ### Requests -/

theorem execEpochSet_keepsNotices (r : EpochRecord) : Leads (KeepsNotices s) (execEpochSet r s) := by
  unfold execEpochSet
  split
  · exact leads_keepsNotices_of_nq s rfl
  · split
    · exact (leads_next _ _).2 ((s.replaceSettings_keepsNotices _).then_nq rfl)
    · exact leads_keepsNotices_of_nq s rfl

theorem execSegmentRearm_keepsNotices (segment : Byte) : Leads (KeepsNotices s) (execSegmentRearm segment s) := by
  unfold execSegmentRearm
  split
  · exact leads_keepsNotices_of_nq s rfl
  · exact (leads_next _ _).2 ((s.rearm_keepsNotices _).then_nq rfl)

theorem execMemberAdjust_keepsNotices (member : Byte) (r : AdjustRecord) :
    Leads (KeepsNotices s) (execMemberAdjust member r s) := by
  unfold execMemberAdjust
  (repeat' split)
  case isFalse => exact (leads_next _ _).2 ((s.writeEvaluated_keepsNotices _ _).then_nq rfl)
  all_goals exact leads_keepsNotices_of_nq s rfl

theorem execMemberRelease_keepsNotices (member : Byte) : Leads (KeepsNotices s) (execMemberRelease member s) := by
  unfold execMemberRelease
  (repeat' split)
  case isFalse => exact (leads_next _ _).2 ((s.writeEvaluated_keepsNotices _ _).then_nq rfl)
  all_goals exact leads_keepsNotices_of_nq s rfl

theorem execServiceDoneReplaced_keepsNotices (member : Byte) (newLimit : Option (BitVec 40)) :
    Leads (KeepsNotices s) (execServiceDoneReplaced member newLimit s) := by
  unfold execServiceDoneReplaced
  (repeat' split)
  case isFalse => exact (leads_next _ _).2 (s.service_keepsNotices _ _ _)
  all_goals exact leads_keepsNotices_of_nq s rfl

theorem execServiceDoneInspected_keepsNotices (member : Byte) (newLimit : Option (BitVec 40)) :
    Leads (KeepsNotices s) (execServiceDoneInspected member newLimit s) := by
  unfold execServiceDoneInspected
  (repeat' split)
  case isFalse => exact (leads_next _ _).2 (s.service_keepsNotices _ _ _)
  all_goals exact leads_keepsNotices_of_nq s rfl

theorem execPlanSet_keepsNotices (autoPlan : Byte) (horizon gangHorizon : BitVec 16) (fillLevel : Byte) :
    Leads (KeepsNotices s) (execPlanSet autoPlan horizon gangHorizon fillLevel s) := by
  unfold execPlanSet
  (repeat' split)
  case isFalse => exact (leads_next _ _).2 ((State.generate_keepsNotices (s.setPlanner _)).from_nq rfl)
  all_goals exact leads_keepsNotices_of_nq s rfl

theorem execWindowRemove_keepsNotices (tag : Byte) : Leads (KeepsNotices s) (execWindowRemove tag s) := by
  unfold execWindowRemove
  split
  · exact leads_keepsNotices_of_nq s rfl
  split
  · exact leads_keepsNotices_of_nq s rfl
  split
  · exact leads_keepsNotices_of_nq s rfl
  split
  · exact leads_keepsNotices_of_nq s rfl
  · exact (leads_next _ _).2
      ((State.generate_keepsNotices (s.removeWindow tag.toNat).1).from_nq (s.removeWindow_nq tag.toNat))

theorem execPatternControl_keepsNotices (enable rotation : Byte) (anchor : BitVec 32) (reset : Byte) :
    Leads (KeepsNotices s) (execPatternControl enable rotation anchor reset s) := by
  unfold execPatternControl
  (repeat' split)
  case isFalse => exact (leads_next _ _).2 ((State.generate_keepsNotices (s.setGenerator _)).from_nq rfl)
  all_goals exact leads_keepsNotices_of_nq s rfl

theorem execNoticeMask_keepsNotices (settings : Byte) : Leads (KeepsNotices s) (execNoticeMask settings s) := by
  unfold execNoticeMask
  split
  · exact leads_keepsNotices_of_nq s rfl
  · exact (leads_next _ _).2 fun h => h

/-- A command keeps the queue in order: it posts, takes the head, writes the mask, clears the lost counter, or resets. -/
theorem exec_keepsNotices (i : Instr) : Leads (KeepsNotices s) (exec i s) := by
  cases hi : i.reachesNotices with
  | false => exact (exec_nq s hi).mono fun t ht => .of_nq ht
  | true =>
    cases i
    case coldReset straps => exact (leads_next _ _).2 (.of_reset rfl)
    case restartAll via =>
      cases via with
      | addressed => exact leads_keepsNotices_of_nq s rfl
      | broadcast => exact (leads_next _ _).2 (.of_reset rfl)
    case acceptedTransition l => exact (leads_next _ _).2 (s.acceptTransition_keepsNotices l)
    case sample raw => exact (leads_next _ _).2 (s.sampleLines_keepsNotices raw)
    case segmentTimerExpiry g => exact execSegmentTimerExpiry_keepsNotices s g
    case localBoundary | graceDeadline =>
      refine (leads_next _ _).2 ?_
      split
      · exact s.takeBoundary_keepsNotices _ _ _
      · exact .refl s
    case planMemberWalk => exact (leads_next _ _).2 s.walkCommand_keepsNotices
    case orderPlacement => exact execOrderPlacement_keepsNotices s
    case planDone => exact execPlanDone_keepsNotices s
    case characterReceived start c stop => exact execCharacterReceived_keepsNotices s start c stop
    case replyEnd => exact execReplyEnd_keepsNotices s
    case status => exact (leads_next _ _).2 fun ⟨hLength, hKeys, hRepeats, _⟩ => ⟨hLength, hKeys, hRepeats, Nat.zero_le _⟩
    case restartPlan via =>
      exact (leads_next _ _).2 (((State.abandonRun_keepsNotices s.clearPlan).from_nq rfl).then_nq (State.answerVia_nq _ via _ _ _))
    case epochSet r => exact execEpochSet_keepsNotices s r
    case epochMark via number =>
      exact (leads_next _ _).2 ((s.takeMark_keepsNotices _).then_nq (State.answerVia_nq _ via _ _ _))
    case segmentRearm g => exact execSegmentRearm_keepsNotices s g
    case memberAdjust n r => exact execMemberAdjust_keepsNotices s n r
    case memberRelease n => exact execMemberRelease_keepsNotices s n
    case serviceDoneReplaced n l => exact execServiceDoneReplaced_keepsNotices s n l
    case serviceDoneInspected n l => exact execServiceDoneInspected_keepsNotices s n l
    case planSet a h g f => exact execPlanSet_keepsNotices s a h g f
    case windowRemove tag => exact execWindowRemove_keepsNotices s tag
    case patternControl e r a x => exact execPatternControl_keepsNotices s e r a x
    case noticeTake => exact (leads_next _ _).2 (s.dropNotice_keepsNotices.then_nq rfl)
    case noticeMask settings => exact execNoticeMask_keepsNotices s settings
    all_goals cases hi

end

/-- What every command keeps, with the queue of commands and an answer to a frame left out, every step keeps. -/
theorem leads_step {P : State → Prop} {s : State} (hPending : ∀ q, P { s with pending := q })
    (hAnswer : ∀ f st, P (s.answerFrame f st)) (hExec : ∀ i u, P u → Leads P (exec i u)) (h : P s) : Leads P (step s) := by
  unfold step
  split
  · exact hExec _ _ (hPending _)
  · unfold idle
    split
    · unfold serveFrame
      split
      · exact hExec _ _ h
      · exact (leads_next _ _).2 (hAnswer _ _)
      · exact (leads_next _ _).2 (hAnswer _ _)
    · exact (leads_next _ _).2 h

theorem step_noticeInv {s : State} (h : NoticeInv s.nq) : Leads (fun t => NoticeInv t.nq) (step s) := by
  refine leads_step (fun _ => h) (fun f st => ?_) (fun i u hu => (exec_keepsNotices u i).mono fun _ ht => ht hu) h
  unfold State.answerFrame
  split <;> exact h

end Sys2Proof.Machine
end

section
/-! SUPPORT. The link (R162, R163, R165) through the receiver's and the sender's operations and every command: O56. -/

namespace Sys2Proof

/-- The commands that write the link otherwise than by building a reply: its own events, its requests, and the resets. -/
def Instr.drivesLink : Instr → Bool
  | .coldReset _ | .characterReceived _ _ _ | .gapLimitExpiry | .replyStart | .replyEnd | .blankingEnd | .restartAll _
  | .linkSet _ | .counters => true
  | _ => false

end Sys2Proof

namespace Sys2Proof.Machine

/-! ### The link's record (R162, R163, R165) -/

theorem badLength_eq_false {l : Byte} : badLength l = false ↔ 1 ≤ l.toNat ∧ l.toNat ≤ 250 := by
  unfold badLength
  revert l
  decide

section

variable {k : Lnk} (h : LinkInv k)
include h

/-- A reply may be built whatever the receiver does: the reply state becomes PENDING with the driver released. -/
@[simp] theorem LinkInv.withReply (kind : Byte) (status : Status) (attention : Attention) (data : List Byte) :
    LinkInv (k.withReply kind status attention data) where
  driver := by simp [Lnk.withReply]
  blanked := by simp [Lnk.withReply]
  buffer := h.buffer
  address := h.address
  length := h.length

theorem LinkInv.countWith (f : LinkCounters → LinkCounters) : LinkInv (k.countWith f) :=
  ⟨h.driver, h.blanked, h.buffer, h.address, h.length⟩

/-- Outside BLANKED no reply is SENDING. -/
theorem LinkInv.not_sending (hr : k.receiver ≠ .blanked) : k.replyState ≠ .sending := fun hs => hr (h.blanked hs)

/-- The receiver, not BLANKED, abandons what it is assembling. -/
theorem LinkInv.toIdle (hr : k.receiver ≠ .blanked) : LinkInv k.toIdle where
  driver := h.driver
  blanked hs := absurd hs (h.not_sending hr)
  buffer := by simp [Lnk.toIdle]
  address := by simp [Lnk.toIdle]
  length := by simp [Lnk.toIdle]

/-- The receiver, not BLANKED, starts a frame for this station or for all, or leaves the line (R162). -/
theorem LinkInv.judge (hr : k.receiver ≠ .blanked) (data : Byte) : LinkInv (k.judge data) := by
  unfold Lnk.judge
  split
  · next hFor =>
    exact
      { driver := h.driver
        blanked := fun hs => absurd hs (h.not_sending hr)
        buffer := by simp
        address := fun a rest e => (List.cons.inj e).1 ▸ hFor
        length := by simp }
  · exact h.toIdle hr

theorem LinkInv.framingError (hr : k.receiver ≠ .blanked) : LinkInv k.framingError := by
  unfold Lnk.framingError
  split
  · exact (h.toIdle hr).countWith _
  · exact h.countWith _
  · exact h.countWith _

/-- The buffer is empty once a frame being assembled is cut off. -/
theorem LinkInv.cutOff_buffer : k.cutOff.buffer = [] := by
  unfold Lnk.cutOff
  split
  · rfl
  · next hIdle => exact h.buffer.2 (by simp [hIdle])
  · next hBlanked => exact h.buffer.2 (by simp [hBlanked])

theorem LinkInv.startReply (r : Reply) : LinkInv (k.startReply r) where
  driver := by simp [Lnk.startReply]
  blanked _ := rfl
  buffer := by simp [Lnk.startReply, h.cutOff_buffer]
  address := by simp [Lnk.startReply, h.cutOff_buffer]
  length := by simp [Lnk.startReply, h.cutOff_buffer]

theorem LinkInv.endReply : LinkInv k.endReply where
  driver := by simp [Lnk.endReply]
  blanked := by simp [Lnk.endReply]
  buffer := h.buffer
  address := h.address
  length := h.length

/-- The blanking ends, not before the reply does (R165). -/
theorem LinkInv.unblanked (hr : k.receiver = .blanked) (hs : k.replyState ≠ .sending) :
    LinkInv { k with receiver := .idle } where
  driver := h.driver
  blanked e := absurd e hs
  buffer := iff_of_true (h.buffer.2 (by simp [hr])) (by simp)
  address := h.address
  length := h.length

/-- A character stored that neither spoils L nor completes the frame leaves it within its length (R163). -/
theorem LinkInv.stored {data : Byte} (hr : k.receiver = .receiving)
    (hLength : ¬ ((k.buffer ++ [data]).length = 2 ∧ badLength data = true))
    (hOpen : ¬ (2 ≤ (k.buffer ++ [data]).length ∧ (k.buffer ++ [data]).length = (byteAt (k.buffer ++ [data]) 1).toNat + 4)) :
    LinkInv { k with buffer := k.buffer ++ [data] } where
  driver := h.driver
  blanked := h.blanked
  buffer := by simp [hr]
  address a rest e := by
    cases hb : k.buffer with
    | nil => exact absurd hr (h.buffer.1 hb)
    | cons x xs =>
      simp only [hb, List.cons_append] at e
      exact (List.cons.inj e).1 ▸ h.address x xs hb
  length a l rest e := by
    replace e : k.buffer ++ [data] = a :: l :: rest := e
    have hNext : (k.buffer ++ [data]).length ≠ l.toNat + 4 := fun hl =>
      hOpen ⟨by rw [e]; simp, by rw [e, byteAt_one, ← e]; exact hl⟩
    rw [List.length_append, List.length_singleton] at hNext
    cases hb : k.buffer with
    | nil => exact absurd hr (h.buffer.1 hb)
    | cons x xs =>
      cases xs with
      | nil =>
        rw [hb] at e hLength
        obtain ⟨rfl, rfl, rfl⟩ : x = a ∧ data = l ∧ [] = rest := by simpa using e
        obtain ⟨hLow, hHigh⟩ := badLength_eq_false.1 (by simpa using hLength)
        exact ⟨hLow, hHigh, by simp⟩
      | cons y ys =>
        obtain ⟨hLow, hHigh, hOld⟩ := h.length x y ys hb
        rw [hb] at e hNext hOld
        obtain ⟨rfl, rfl, -⟩ : x = a ∧ y = l ∧ ys ++ [data] = rest := by simpa using e
        refine ⟨hLow, hHigh, ?_⟩
        rw [List.length_append, List.length_singleton]
        omega

end

/-! ### The receiver's and the sender's operations -/

/-- A reset leaves the link idle. -/
theorem State.resetWith_linkInv (s : State) (straps : BitVec 5) (address divisor : Byte) :
    LinkInv (s.resetWith straps address divisor).lnk where
  driver := by simp [State.resetWith, State.reset]
  blanked := by simp [State.resetWith, State.reset]
  buffer := by simp [State.resetWith, State.reset]
  address := by simp [State.resetWith, State.reset]
  length := by simp [State.resetWith, State.reset]

section

variable {s : State} (h : LinkInv s.lnk)
include h

/-- A frame is handed over only while no reply is PENDING or SENDING, so the reply state may become PENDING (R164). -/
theorem State.handOver_linkInv (hNone : s.lnk.replyState = .none) (f : Frame) : LinkInv (s.handOver f).lnk := by
  have hReleased : s.lnk.de ≠ true := fun hDe => by simpa [hNone] using h.driver.1 hDe
  unfold State.handOver
  split
  · exact s.resetWith_linkInv _ _ _
  · dsimp only
    split
    · exact
        { driver := by simpa [Lnk.countWith] using hReleased
          blanked := by simp
          buffer := h.buffer
          address := h.address
          length := h.length }
    · exact h.countWith _

theorem State.takeFrame_linkInv (buffer : List Byte) : LinkInv (s.takeFrame buffer).lnk := by
  unfold State.takeFrame
  dsimp only
  split
  · exact h.countWith _
  split
  · exact h.countWith _
  split
  · exact h.countWith _
  · next hNone _ => exact State.handOver_linkInv h (not_not.1 hNone) _

theorem State.storeCharacter_linkInv (hr : s.lnk.receiver = .receiving) (data : Byte) :
    LinkInv (s.storeCharacter data).lnk := by
  have hIdle : LinkInv s.lnk.toIdle := h.toIdle (by simp [hr])
  unfold State.storeCharacter
  dsimp only
  split
  · exact hIdle.countWith _
  split
  · exact State.takeFrame_linkInv (s := s.setLnk s.lnk.toIdle) hIdle _
  · next hLength hOpen => exact h.stored hr hLength hOpen

theorem State.takeCharacter_linkInv (data : Byte) (mark stop : Bool) : LinkInv (s.takeCharacter data mark stop).lnk := by
  unfold State.takeCharacter
  split
  · exact h
  · next hr =>
    split
    · exact h.framingError (by simp [hr])
    split
    · exact h.judge (by simp [hr]) data
    · exact h
  · next hr =>
    split
    · exact h.framingError (by simp [hr])
    split
    · exact h.judge (by simp [hr]) data
    · exact State.storeCharacter_linkInv h hr data

theorem State.receive_linkInv (start : StartBit) (line : BitVec 11) : LinkInv (s.receive start line).lnk := by
  unfold State.receive
  split
  · exact h
  · split
    · exact h
    · exact State.takeCharacter_linkInv h _ _ _

theorem State.gapLimit_linkInv : LinkInv s.gapLimit.lnk := by
  unfold State.gapLimit
  split
  · next hr => exact (h.toIdle (by simp [hr])).countWith _
  all_goals exact h

theorem execReplyStart_linkInv : Leads (fun t => LinkInv t.lnk) (execReplyStart s) := by
  refine (leads_next _ _).2 ?_
  split
  · exact h.startReply _
  · exact h

theorem execReplyEnd_linkInv : Leads (fun t => LinkInv t.lnk) (execReplyEnd s) := by
  refine (leads_next _ _).2 ?_
  split
  · dsimp only
    split
    · exact State.resetWith_linkInv _ _ _ _
    · exact h.endReply
  all_goals exact h

theorem execBlankingEnd_linkInv : Leads (fun t => LinkInv t.lnk) (execBlankingEnd s) := by
  refine (leads_next _ _).2 ?_
  split
  · next hEnds => exact h.unblanked hEnds.1 hEnds.2
  · exact h

theorem execRestartAll_linkInv (via : Delivery) : Leads (fun t => LinkInv t.lnk) (execRestartAll via s) := by
  cases via with
  | addressed =>
    have hWaits : LinkInv { s.lnk with restartAtEnd := true } := ⟨h.driver, h.blanked, h.buffer, h.address, h.length⟩
    exact (leads_next _ _).2 (hWaits.withReply _ _ _ _)
  | broadcast => exact (leads_next _ _).2 (s.resetWith_linkInv _ _ _)

theorem execLinkSet_linkInv (divisor : Byte) : Leads (fun t => LinkInv t.lnk) (execLinkSet divisor s) := by
  have hWaits : LinkInv { s.lnk with newDivisor := some divisor } := ⟨h.driver, h.blanked, h.buffer, h.address, h.length⟩
  exact (leads_next _ _).2 (hWaits.withReply _ _ _ _)

/-- A request that leaves the link alone, answered either way. -/
theorem answerVia_linkInv {u : State} (hu : u.lnk = s.lnk) (via : Delivery) (k : ReqKind) (st : Status) (d : List Byte) :
    Leads (fun t => LinkInv t.lnk) (.next (u.answerVia via k st d)) := by
  have hSame : LinkInv u.lnk := hu.symm ▸ h
  cases via with
  | addressed => exact (leads_next _ _).2 (hSame.withReply _ _ _ _)
  | broadcast => exact (leads_next _ _).2 hSame

theorem execModeSetup_linkInv (via : Delivery) : Leads (fun t => LinkInv t.lnk) (execModeSetup via s) := by
  unfold execModeSetup
  split
  · exact answerVia_linkInv h rfl via _ _ _
  · exact answerVia_linkInv h (s.setPendingSetup_lnk true) via _ _ _

theorem execModeCounting_linkInv (via : Delivery) : Leads (fun t => LinkInv t.lnk) (execModeCounting via s) := by
  unfold execModeCounting
  split
  · exact answerVia_linkInv h (s.setPendingSetup_lnk false) via _ _ _
  · split
    · exact answerVia_linkInv h rfl via _ _ _
    · exact answerVia_linkInv h s.changeToCounting_lnk via _ _ _

/-! ### Every command -/

/-- Every other command leaves the link alone but for the reply that it builds, in each of its branches. -/
theorem exec_linkInv_of_undriven {i : Instr} (hi : i.drivesLink = false) : Leads (fun t => LinkInv t.lnk) (exec i s) := by
  cases i
  case coldReset | characterReceived | gapLimitExpiry | replyStart | replyEnd | blankingEnd | restartAll | linkSet
    | counters => cases hi
  case restartTracking via => exact answerVia_linkInv h ((restartTracking_keeps s).1 .lnk (by decide)) via _ _ _
  case restartPlan via => exact answerVia_linkInv h ((restartPlan_keeps s).1 .lnk (by decide)) via _ _ _
  case modeSetup via => exact execModeSetup_linkInv h via
  case modeCounting via => exact execModeCounting_linkInv h via
  case epochMark via number => exact answerVia_linkInv h (s.takeMark_lnk number.toNat) via _ _ _
  all_goals
    simp only [exec, execAcceptedTransition, execSample, execSegmentTimerExpiry, execLocalBoundary, execGraceDeadline,
      execRatePassVisit, execProjectionsRefreshed, execPlanMemberWalk, execPlacementReset, execPlanSort,
      execOrderPlacement, execGanging, execPlanDone, execUnknownKind, execIdent, execStatus, execEpochSet, execLineSet,
      execLineStatus, execSegmentSet, execSegmentUndefine, execSegmentRead, execSegmentRearm, execItemAnnounce,
      execMemberDefine, execMemberRead, execMemberHold, execMemberAdjust, execMemberRelease, execMemberRetire,
      execServiceDoneReplaced, execServiceDoneInspected, execPlanSet, execPlanRun, execWindowAdd, execWindowRemove,
      execWindowReadList, execWindowReadPattern, execPatternLoad, execPatternControl, execOrderRead, execOrderList,
      execOrderRaise, execOrderStart, execOrderCancel, execNoticeTake, execNoticeMask, execTick]
    (repeat' split) <;> simp [h, State.service]

theorem exec_linkInv (i : Instr) : Leads (fun t => LinkInv t.lnk) (exec i s) := by
  cases hi : i.drivesLink with
  | false => exact exec_linkInv_of_undriven h hi
  | true =>
    cases i
    case coldReset straps => exact (leads_next _ _).2 (s.resetWith_linkInv _ _ _)
    case characterReceived start c stop => exact (leads_next _ _).2 (State.receive_linkInv h start _)
    case gapLimitExpiry => exact (leads_next _ _).2 (State.gapLimit_linkInv h)
    case replyStart => exact execReplyStart_linkInv h
    case replyEnd => exact execReplyEnd_linkInv h
    case blankingEnd => exact execBlankingEnd_linkInv h
    case restartAll via => exact execRestartAll_linkInv h via
    case linkSet divisor => exact execLinkSet_linkInv h divisor
    case counters => exact (leads_next _ _).2 ((h.countWith fun _ => .zero).withReply _ _ _ _)
    all_goals cases hi

theorem step_linkInv : Leads (fun t => LinkInv t.lnk) (step s) := by
  refine leads_step (fun _ => h) (fun f st => ?_) (fun i _ hu => exec_linkInv hu i) h
  unfold State.answerFrame
  split
  · exact h.withReply _ _ _ _
  · exact h

end

/-- Settles O56: every command keeps the queue (`exec_keepsNotices`) and the link (`exec_linkInv`), and so every step. -/
theorem queueAndLinkKept : Obligations.QueueAndLinkKept := by
  unfold Obligations.QueueAndLinkKept
  exact ⟨fun _ t h hStep => step_noticeInv h t hStep, fun _ t h hStep => step_linkInv h t hStep⟩

end Sys2Proof.Machine
end

section
/-! SUPPORT. The answer to every addressed request (R159, R164, R168): O4. -/

namespace Sys2Proof.Machine

/-- The outcome is one answer to a request of kind code `k` taken in `s`: built on a state with the frames handed over as
they stood, and, where the request is refused, on `s` itself. -/
def Answered (k : Byte) (s : State) (o : Host.Outcome State Fault Refusal) : Prop :=
  ∃ u st d, o = .next (u.answerKind k st d) ∧ u.rqd.handed = s.rqd.handed ∧ (st.refuses = true → u = s)

section

variable {s : State}

/-- An answer is PENDING, of the kind asked with 0x80 added, with the summary as the NQ then stands (R159, R164, R168). -/
theorem Answered.replied {k : Byte} {o : Host.Outcome State Fault Refusal} (h : Answered k s o) :
    ∃ t r, o = .next t ∧ t.lnk.replyState = .pending ∧ t.lnk.reply = some r ∧ r.kind = k + 0x80
      ∧ r.attention = t.nq.attention ∧ t.rqd.handed = s.rqd.handed.tail := by
  obtain ⟨u, st, d, rfl, hHanded, -⟩ := h
  exact ⟨_, _, rfl, rfl, rfl, rfl, rfl, congrArg List.tail hHanded⟩

/-- A refusal changes nothing but the reply (R168). -/
theorem Answered.refuses {k : Byte} {t : State} {r : Reply} (h : Answered k s (.next t)) (hr : t.lnk.reply = some r)
    (hRefused : r.status.refuses = true) : Refuses k r.status r.data s t := by
  obtain ⟨u, st, d, hNext, -, hSame⟩ := h
  obtain rfl := Host.Outcome.next.inj hNext
  obtain rfl := Option.some.inj hr
  obtain rfl := hSame hRefused
  exact refuses_answerKind u k st d

theorem answered_answer {u : State} {k : ReqKind} {st : Status} {d : List Byte} (hHanded : u.rqd.handed = s.rqd.handed)
    (hRefused : st.refuses = true → u = s) : Answered k.code s (.next (u.answer k st d)) :=
  ⟨u, st, d, rfl, hHanded, hRefused⟩

/-! ### The frames handed over, past a boundary and the change to COUNTING -/

@[simp] theorem State.handed_takeBoundary (u : State) (number : Nat) (tick : Tick) (missed : Bool) :
    (u.takeBoundary number tick missed).rqd.handed = u.rqd.handed := by
  rw [State.takeBoundary_rqd]
  rfl

@[simp] theorem State.handed_replaceSettings (u : State) (e : EpochSettings) :
    (u.replaceSettings e).rqd.handed = u.rqd.handed := by
  unfold State.replaceSettings
  dsimp only
  split
  · exact State.handed_takeBoundary _ _ _ _
  · rfl

@[simp] theorem State.handed_takeMark (u : State) (number : Nat) : (u.takeMark number).1.rqd.handed = u.rqd.handed := by
  unfold State.takeMark
  dsimp only
  split
  · rfl
  · split
    · exact State.handed_takeBoundary _ _ _ _
    · exact State.handed_takeBoundary _ _ _ _

@[simp] theorem State.handed_changeToCounting (u : State) : u.changeToCounting.rqd.handed = u.rqd.handed := by
  have hKept : u.changeToCounting.rqd = (u.setMode .counting).rqd :=
    (keepsAllBut_foldl (fun v g => v.enterCounting_keeps g) allSegments _).1 .rqd (by decide)
  rw [hKept]
  rfl

/-! ### Every addressed request -/

theorem execUnknownKind_answered {kind : Byte} (h : (Instr.unknownKind kind).kindUndefined = true) :
    Answered kind s (execUnknownKind kind s) := by
  have hNone : ReqKind.ofCode kind = none := Option.isNone_iff_eq_none.1 h
  rw [execUnknownKind, hNone]
  exact ⟨s, .unknownKind, [], rfl, rfl, fun _ => rfl⟩

theorem execModeSetup_answered : Answered ReqKind.mode.code s (execModeSetup .addressed s) := by
  unfold execModeSetup
  split <;> exact answered_answer rfl nofun

theorem execModeCounting_answered : Answered ReqKind.mode.code s (execModeCounting .addressed s) := by
  unfold execModeCounting
  split
  · exact answered_answer rfl nofun
  · split
    · exact answered_answer rfl fun _ => rfl
    · exact answered_answer s.handed_changeToCounting nofun

/-- Every addressed request that a frame can give is answered: each of its branches ends in one answer, and those that
refuse answer on the state as it stood. -/
theorem exec_answered {i : Instr} {k : Byte} (hi : i.kindUndefined = true) (hk : i.addressedKind = some k) :
    Answered k s (exec i s) := by
  cases i
  case modeSetup via =>
    cases via <;> cases hk
    exact execModeSetup_answered
  case modeCounting via =>
    cases via <;> cases hk
    exact execModeCounting_answered
  case restartTracking via =>
    cases via <;> cases hk
    exact answered_answer (congrArg Rqd.handed ((restartTracking_keeps s).1 .rqd (by decide))) nofun
  case restartPlan via =>
    cases via <;> cases hk
    exact answered_answer (congrArg Rqd.handed ((restartPlan_keeps s).1 .rqd (by decide))) nofun
  case restartAll via =>
    cases via <;> cases hk
    exact answered_answer rfl nofun
  case epochMark via number =>
    cases via <;> cases hk
    exact answered_answer (s.handed_takeMark number.toNat) nofun
  case unknownKind kind =>
    cases hk
    exact execUnknownKind_answered hi
  all_goals cases hk
  all_goals
    simp only [exec, execIdent, execStatus, execLinkSet, execCounters, execEpochSet, execLineSet, execLineStatus,
      execSegmentSet, execSegmentUndefine, execSegmentRead, execSegmentRearm, execItemAnnounce, execMemberDefine,
      execMemberRead, execMemberHold, execMemberAdjust, execMemberRelease, execMemberRetire, execServiceDoneReplaced,
      execServiceDoneInspected, State.service, execPlanSet, execPlanRun, execWindowAdd, execWindowRemove,
      execWindowReadList, execWindowReadPattern, execPatternLoad, execPatternControl, execOrderRead, execOrderList,
      execOrderRaise, execOrderStart, execOrderCancel, execNoticeTake, execNoticeMask]
    (repeat' split) <;> exact answered_answer (by simp) (by simp [Status.refuses])

/-- UNKNOWN_KIND with a defined kind code is turned away (log 28). -/
theorem kindUndefined_of_next {i : Instr} {t : State} (h : exec i s = .next t) : i.kindUndefined = true := by
  cases i
  case unknownKind kind =>
    show (ReqKind.ofCode kind).isNone = true
    cases hKind : ReqKind.ofCode kind with
    | none => rfl
    | some k =>
      simp only [exec, execUnknownKind, hKind] at h
      cases h
  all_goals rfl

end

/-- Settles O4: an addressed request's outcome is one answer (`exec_answered`), and a refusal is built on the state as it
stood. -/
theorem requestsAreAnswered : Obligations.RequestsAreAnswered := by
  unfold Obligations.RequestsAreAnswered
  refine ⟨fun i k s hWellFormed hk => ?_, fun i k s t r hk hNext hr hRefused => ?_⟩
  · obtain ⟨hUndefined, -⟩ := Bool.and_eq_true_iff.1 hWellFormed
    exact (exec_answered hUndefined hk).replied
  · exact (hNext ▸ exec_answered (kindUndefined_of_next hNext) hk).refuses hr hRefused

end Sys2Proof.Machine
end
